-- ==== Sys2Proof/Word.lean ====
section
/-! DEFINITION. The words of the BN-612: bytes, eight-bit identifiers that wrap, and node time. -/
namespace Sys2Proof

/-- One byte of a frame or of the configuration image. -/
abbrev Byte := BitVec 8

/-- An identifier drawn from a counter modulo 256: a call id, an ask id, a consign id or the
sequence number of a move (R41, R89, R107, R120). -/
abbrev Id8 := BitVec 8

/-- Node time: the free-running count of milliseconds, 32 bits wide, that wraps (R1). -/
abbrev Time := BitVec 32

/-- A bay number 0..31. -/
abbrev Bay := Fin 32

/-- A carrier id, eight characters. Its length is checked by `Instr.wf`. -/
abbrev CarrierId := List Byte

end Sys2Proof
end

