-- ==== Sys2Proof/Syntax.lean ====
section
/-! DEFINITION. The commands of the BN-612, one constructor of `Instr` for each row of
spec/opcode_table.json, and the data they carry. -/
namespace Sys2Proof

/-- The four move classes, in falling order of precedence. -/
inductive MoveClass | hot | express | normal | ret
deriving DecidableEq, Repr, Inhabited

/-- A move tag: home bay and sequence number (R41). -/
structure Tag where
  home : Nat
  seq : Id8
deriving DecidableEq, Repr, Inhabited

/-- Motion, hoist state and fault level as a REPORT gives them (R7). -/
inductive Motion | moving | stopped | blocked
deriving DecidableEq, Repr, Inhabited

inductive Hoist | idle | lowering | gripped | raising | done | failed
deriving DecidableEq, Repr, Inhabited

inductive Level | none | minor | major
deriving DecidableEq, Repr, Inhabited

/-- Job target (R8). A station and a segment carry their number. -/
inductive Target
  | station (n : Nat) | segment (n : Nat) | exit | park (n : Nat) | recirculate
deriving DecidableEq, Repr, Inhabited

inductive Action | load | unload | pass | none
deriving DecidableEq, Repr, Inhabited

/-- A complete job, as GOTO carries it and REPORT echoes it (R8). -/
structure Job where
  target : Target
  action : Action
  tag : Option Tag
  dest : Option Nat
  destBay : Option Nat
deriving DecidableEq, Repr, Inhabited

/-- Where a REPORT places its vehicle (R7). -/
inductive Place | segment (n : Nat) | divert | merged
deriving DecidableEq, Repr, Inhabited

/-- A REPORT (R7). `echo` and `jobDone` are the job echo and its progress. -/
structure Report where
  vehicle : Nat
  place : Place
  atMarker : Bool
  motion : Motion
  carrier : Bool
  carrierId : Option CarrierId
  hoist : Hoist
  level : Level
  echo : Job
  jobDone : Bool
deriving DecidableEq, Repr, Inhabited

/-- A port's state in a PORT-STATE (R28). -/
inductive PortReport | empty | occupied | offline
deriving DecidableEq, Repr, Inhabited

/-- Node states a STATUS may announce (R133). -/
inductive NodeAnn | listen | ready | conflict
deriving DecidableEq, Repr, Inhabited

/-- The recovery state (R161). -/
inductive Recovery | normal | recovering | restricted
deriving DecidableEq, Repr, Inhabited

/-- The receive state GOOD or DEGRADED (R142). -/
inductive LinkState | good | degraded
deriving DecidableEq, Repr, Inhabited

inductive RetractReason | gone | faulted | expired
deriving DecidableEq, Repr, Inhabited

inductive AcceptResult | taken | busy | unknownStation
deriving DecidableEq, Repr, Inhabited

/-- The end-methods of a fault (R160). -/
inductive EndMethod | clean | held | lost
deriving DecidableEq, Repr, Inhabited

/-- DONE outcome with what each carries (R126): a station for a completed unload, an
end-method for a FAULT. `fault true` is HELD, `fault false` is LOST. -/
inductive DoneOutcome
  | deliveredPort (station : Option Nat) | deliveredShelf (station : Option Nat)
  | fault (held : Bool) | missing
deriving DecidableEq, Repr, Inhabited

/-- The body of a STATUS (R139). -/
structure StatusBody where
  node : NodeAnn
  recovery : Recovery
  link : LinkState
  base : Nat
  limit : Nat
  sectionTime : Nat
  period : Nat
  idle : Nat
  offline : List Nat
  overflow : Bool
deriving DecidableEq, Repr, Inhabited

/-- The bodies of the fourteen trunk kinds (R127, R175). -/
inductive Body
  | status (st : StatusBody)
  | call (id : Id8) (tag : Tag) (cls : MoveClass) (source : Nat) (urgency : Nat)
  | bid (id : Id8) (vehicle : Nat) (eta : Nat)
  | award (id : Id8) (winner : Nat) (vehicle : Nat)
  | cancel (id : Id8)
  | sent (id : Id8) (vehicle : Nat) (eta : Nat)
  | retract (id : Id8) (vehicle : Nat) (reason : RetractReason)
  | ask (id : Id8) (count : Nat)
  | loan (id : Id8) (eta : Nat) (vehicles : List Nat)
  | consign (id : Id8) (vehicle : Nat) (tag : Tag) (dest : Nat) (cls : MoveClass)
      (carrier : Option CarrierId) (eta : Nat)
  | accept (id : Id8) (vehicle : Nat) (result : AcceptResult)
  | done (tag : Tag) (vehicle : Nat) (outcome : DoneOutcome)
  | hold (duration : Nat)
  | link (state : LinkState) (bad : Nat)
deriving DecidableEq, Repr, Inhabited

/-- A parity error that a read finds (R166): the table, the index of the entry, and whether the
key itself fails its check. -/
inductive ParityTable | move | roster | inbound
deriving DecidableEq, Repr, Inhabited

structure ParityError where
  table : ParityTable
  index : Nat
  keyFails : Bool
deriving DecidableEq, Repr, Inhabited

/-- RESOLVE's answer (R61, R62). -/
inductive Answer | atSource | atStation (station : Nat) | remove
deriving DecidableEq, Repr, Inhabited

/-- The commands of the BN-612: one constructor for each row of spec/opcode_table.json.
A trunk record carries its sender; the fourteen kinds stand for records addressed to ALL or to
this node, which is what TI passes on (R135). -/
inductive Instr
  | powerOn
  | configImageRead (image : Option (List Byte))
  | rollCallAnswer (r : Report)
  | censusSlotEnd
  | listenEnd
  | pollRound (parity : List ParityError)
  | report (r : Report) (parity : List ParityError)
  | missedPoll (vehicle : Nat)
  | entryWatchReport (r : Report)
  | moveReq (source dest : Nat) (cls : MoveClass) (carrier : Option CarrierId)
      (deadline : Option Nat)
  | cancelReq (tag : Tag)
  | portState (station : Nat) (state : PortReport) (carrier : Option CarrierId)
  | shelfState (station : Nat) (disabled : Bool)
  | stationFrameBad
  | transmitStart
  | arbitrationLost
  | transmitFailure
  | recordSent
  | trunkFragment
  | maxRecordTimeExpiry
  | badRecord
  | malformedRecord
  | duplicateBay
  | otherBayRecord (sender : Bay)
  | status (sender : Bay) (st : StatusBody)
  | hold (sender : Bay) (duration : Nat)
  | link (sender : Bay) (state : LinkState) (bad : Nat)
  | call (sender : Bay) (id : Id8) (tag : Tag) (cls : MoveClass) (source urgency : Nat)
  | bid (sender : Bay) (id : Id8) (vehicle eta : Nat)
  | award (sender : Bay) (id : Id8) (winner vehicle : Nat)
  | cancel (sender : Bay) (id : Id8)
  | sent (sender : Bay) (id : Id8) (vehicle eta : Nat)
  | retract (sender : Bay) (id : Id8) (vehicle : Nat) (reason : RetractReason)
  | ask (sender : Bay) (id : Id8) (count : Nat)
  | loan (sender : Bay) (id : Id8) (eta : Nat) (vehicles : List Nat)
  | consign (sender : Bay) (id : Id8) (vehicle : Nat) (tag : Tag) (dest : Nat)
      (cls : MoveClass) (carrier : Option CarrierId) (eta : Nat)
  | accept (sender : Bay) (id : Id8) (vehicle : Nat) (result : AcceptResult)
  | done (sender : Bay) (tag : Tag) (vehicle : Nat) (outcome : DoneOutcome)
  | statusTimer
  | linkLost
  | holdHalfElapsed
  | holdDurationEnd
  | peerHoldExpiry (bay : Bay)
  | peerStale (bay : Bay)
  | peerAbsent (bay : Bay)
  | callWindowEnd (id : Id8)
  | awardDeadline (id : Id8)
  | recallTimePassed
  | bidHoldEnd (caller : Bay) (id : Id8)
  | askDeadline
  | starveExpiry
  | acceptDeadline (tag : Tag)
  | retryDeadline (tag : Tag)
  | inboundLate (vehicle : Nat) (parity : List ParityError)
  | inboundMissing (vehicle : Nat)
  | idleParkDue (vehicle : Nat)
  | recoveryDeadline
  | ageReview (parity : List ParityError)
  | read (table index : Nat)
  | readStatus
  | readCounters
  | clearSticky (token : Nat)
  | resolve (tag : Tag) (how : Answer)
  | vehicleOut (vehicle : Nat)
  | restoreSegment (index : Nat)
  | restoreShelf (index : Nat)
  | resume
  | restart
  | serviceFrameBad
deriving DecidableEq, Repr

end Sys2Proof
end

