-- ==== Sys2Proof/Decode.lean ====
section
/-! DEFINITION. The command a word of the opcode table spells. -/
namespace Sys2Proof

/-- The command that a word spells by the table's bits. No row of the opcode table gives bits: a
command of the BN-612 arrives as a frame, whose bytes the layouts of Machine/Operands.lean read, or
as an event. So no word spells a command. -/
def decodeTableWord (_nbits _w : Nat) : Option Instr := none

end Sys2Proof
end

