-- ==== Sys2Proof/Config.lean ====
section
/-! DEFINITION. The settings of the configuration image (chapter Peers and Start-up), the fixed
sizes of the part, and the free values the manual leaves open. -/
namespace Sys2Proof

/-- The trunk rate (R176). -/
inductive Rate | k250 | k500 | k1000
deriving DecidableEq, Repr, Inhabited

/-- The carrier check mode (R51). -/
inductive CheckMode | ignore | holdMismatch | ret
deriving DecidableEq, Repr, Inhabited

inductive Kind | port | shelf
deriving DecidableEq, Repr, Inhabited

/-- One segment record of the image: initial T in eighths, capacity, parking capacity. -/
structure SegCfg where
  t : Nat
  capacity : Nat
  parking : Nat
deriving DecidableEq, Repr, Inhabited

/-- One station record of the image. -/
structure StationCfg where
  number : Nat
  kind : Kind
  segment : Nat
deriving DecidableEq, Repr, Inhabited

/-- The accepted configuration image, each setting in the unit the image carries (R156, R176):
`wCall`, `wSend`, `pPoll`, `pStatus` in ms, `wAccept`, `wAsk` in 100 ms, the other windows in
seconds, section times and the hold quanta in ds. -/
structure Cfg where
  bay : Bay
  nBays : Nat
  base : Nat
  limit : Nat
  rate : Rate
  loopLen : Nat
  sectionTime : Nat
  xDefault : Nat
  deadlineHot : Nat
  deadlineExpress : Nat
  deadlineNormal : Nat
  deadlineReturn : Nat
  checkMode : CheckMode
  wCall : Nat
  wSend : Nat
  wRecall : Nat
  wAccept : Nat
  wRetry : Nat
  wAsk : Nat
  tStarve : Nat
  fMin : Nat
  kKeep : Nat
  slackIn : Nat
  tRec : Nat
  tIdlePark : Nat
  hThr : Nat
  quanta : Nat
  q : Nat
  parkPenalty : Nat
  rLoaded : Nat
  pPoll : Nat
  pStatus : Nat
  tSilent : Nat
  tAbsent : Nat
  segments : List SegCfg
  stations : List StationCfg
deriving DecidableEq, Repr, Inhabited

/-- What CL holds before an image is accepted: no setting. Nothing reads it, because every event
that needs a setting is taken only after CONFIG (DESIGN CHOICE, log 6). -/
def Cfg.blank : Cfg where
  bay := 0
  nBays := 0
  base := 0
  limit := 0
  rate := .k250
  loopLen := 0
  sectionTime := 0
  xDefault := 0
  deadlineHot := 0
  deadlineExpress := 0
  deadlineNormal := 0
  deadlineReturn := 0
  checkMode := .ignore
  wCall := 0
  wSend := 0
  wRecall := 0
  wAccept := 0
  wRetry := 0
  wAsk := 0
  tStarve := 0
  fMin := 0
  kKeep := 0
  slackIn := 0
  tRec := 0
  tIdlePark := 0
  hThr := 0
  quanta := 0
  q := 0
  parkPenalty := 0
  rLoaded := 0
  pPoll := 0
  pStatus := 0
  tSilent := 0
  tAbsent := 0
  segments := []
  stations := []

namespace Config

/-- Fixed sizes: roster entries (R10), move records (R40), station indices (R25), Inbound entries
and places (R90), calls (R89), bids (R101), Transmit Queue records (R136), outcomes in the receive
window (R142), segment numbers (R3). -/
def rosterSize : Nat := 24
def moveSize : Nat := 64
def stationSize : Nat := 32
def inboundSize : Nat := 16
def callSize : Nat := 8
def bidSize : Nat := 8
def queueSize : Nat := 16
def windowSize : Nat := 64
def segmentSize : Nat := 40

/-- FREE VALUE (DESIGN CHOICE, log 15). The section sum to this bay from a bay that lies on no
section of the configured loop: R69 defines no sum for such a bay, and R98, R109 and R125 ask for
one. -/
opaque offLoopSum : Nat → Nat → Nat

/-- FREE VALUE (DESIGN CHOICE, log 15). The exit ETA of a CONSIGN sent for a vehicle whose entry is
marked RELEARN: R67 gives such a vehicle no estimate. -/
opaque unknownEta : Nat → Nat

/-- FREE VALUE (DESIGN CHOICE, log 33). A byte of a service answer that R175 and R176 leave open: byte `i`
of an absent field whose form they do not give, or the code of value `i` of a field their code table does
not list. -/
opaque openByte (field : String) (i : Nat) : Byte

end Config
end Sys2Proof
end

