-- ==== Sys2Proof/Machine/State.lean ====
section
/-! DEFINITION. The state of the BN-612, block by block, as the manual gives it; the reasons a step
may stop; the state after power-on. -/
namespace Sys2Proof.Machine

/-- No command of the BN-612 stops the part with a fault: every event the manual names has an
effect or leaves the part unchanged, so this type has no constructor. -/
inductive Fault
deriving DecidableEq, Repr

/-- The reason a command has no meaning here. -/
inductive Refusal
  /-- Raised by an arm of `exec` whose command has no meaning yet; safe. No arm raises it now. -/
  | notModelled (mnemonic : String)
deriving DecidableEq, Repr

/-! ### Zone Controller -/

/-- One Segment Table entry (R4). Occupancy and granted-in are derived from the roster; the
measurements-discarded counts are kept in `ZC.discarded`, since they outlive RESTART. -/
structure Seg where
  configured : Nat
  working : Nat
  t : Nat
  degraded : Bool
  faults : Nat
  parking : Nat
  clampRun : Nat
deriving DecidableEq, Repr, Inhabited

/-- The roster states (chapter The Rail Zone and the Vehicle Roster). -/
inductive RosterState
  | entering | idle | parked | toSource | loading | loaded | unloading | toExit | loadedWait
  | faulted | silent
deriving DecidableEq, Repr, Inhabited

/-- The kinds of Inbound entry (R110). -/
inductive InboundKind | loaded | emptyForMove | loan
deriving DecidableEq, Repr, Inhabited

/-- A vehicle's arrival details (R10, R114, R118). -/
structure Arrival where
  kind : InboundKind
  source : Nat
  tag : Option Tag
  ref : Id8
  dest : Option Nat
  cls : Option MoveClass
  carrierId : Option CarrierId
  recirc : Nat
deriving DecidableEq, Repr, Inhabited

/-- A marker: the divert marker, or the marker at the end of a segment (R3). -/
inductive Marker | divert | segEnd (s : Nat)
deriving DecidableEq, Repr, Inhabited

/-- A capture: marker, node time and stopped mark (R22). -/
structure Capture where
  marker : Marker
  time : Time
  stopped : Bool
deriving DecidableEq, Repr, Inhabited

/-- The pending-echo counts of a GOTO: REPORTs without the echo since the last sending, and
sendings of the job (R8). -/
structure EchoCount where
  reports : Nat
  sendings : Nat
deriving DecidableEq, Repr, Inhabited

/-- One Vehicle Roster entry in use (R10). The last four fields are the MODEL's own (logs 50, 57, 79):
whether the action of the commanded job is complete (R5), the state in which the vehicle became FAULTED,
which is its earlier phase (R16), whether its port was reported OFFLINE while its hoist worked there (R30),
and whether the shelf it is aimed at was given to it in the wait queue (R36). -/
structure Vehicle where
  id : Nat
  segment : Nat
  motion : Motion
  carrier : Bool
  carrierId : Option CarrierId
  hoist : Hoist
  level : Level
  state : RosterState
  bound : Option Tag
  reserved : Bool
  job : Option Job
  echo : Option EchoCount
  grant : Option Nat
  clearance : Bool
  lastReport : Time
  missed : Nat
  idleSince : Time
  unexpected : Bool
  arrival : Option Arrival
  relearn : Bool
  capture : Option Capture
  blocked : Option Nat
  jobDone : Bool
  phase : RosterState
  portOff : Bool
  given : Bool
deriving DecidableEq, Repr, Inhabited

/-- One Inbound List entry (R110). `ref` is the consign id, call id or ask id. -/
structure Inbound where
  vehicle : Nat
  kind : InboundKind
  source : Nat
  tag : Option Tag
  ref : Id8
  dest : Option Nat
  cls : Option MoveClass
  carrierId : Option CarrierId
  expected : Time
  recirc : Nat
  late : Bool
deriving DecidableEq, Repr, Inhabited

structure ZC where
  segments : List Seg
  discarded : List Nat
  roster : List (Option Vehicle)
  inbound : List Inbound
  census : Option Nat
deriving DecidableEq, Repr, Inhabited

/-! ### Station Interface -/

/-- Port states EMPTY, OCCUPIED, OFFLINE and shelf states FREE, HOLDING, DISABLED (R25). -/
inductive StationState | empty | occupied | offline | free | holding | disabled
deriving DecidableEq, Repr, Inhabited

/-- One Station Table entry (R25). -/
structure Station where
  number : Nat
  kind : Kind
  segment : Nat
  state : StationState
  reservation : Option Tag
  active : Option Tag
  carrierId : Option CarrierId
  finalDest : Option Nat
  heldClass : Option MoveClass
  holdingSince : Option Time
  followOnDue : Bool
  disablePending : Bool
  hoistFailures : Nat
deriving DecidableEq, Repr, Inhabited

/-- `waitQueue` holds the ids of the LOADED-WAIT vehicles, oldest first (R36). -/
structure SI where
  stations : List (Option Station)
  waitQueue : List Nat
  linkReset : Bool
deriving DecidableEq, Repr, Inhabited

/-! ### Move Manager -/

/-- The move states; FREE is the absence of a record (R40). -/
inductive MoveState
  | waiting | calling | awarded | bound | loading | carrying | suspended | consigned | stranded
deriving DecidableEq, Repr, Inhabited

/-- A consignment wait: its phase (`retry` false is AWAITING) and deadline (R120, R121). -/
structure ConsignWait where
  retry : Bool
  deadline : Time
deriving DecidableEq, Repr, Inhabited

/-- One move record other than FREE (R40), with its consignment wait (R120). `cleared` is the model's own: the
wait under way, or the last one, ended with a TAKEN, so that the vehicle has been given exit clearance (R121,
log 102). -/
structure Move where
  tag : Tag
  source : Nat
  dest : Nat
  cls : MoveClass
  carrierId : Option CarrierId
  acceptedAt : Time
  deadline : Nat
  state : MoveState
  destHeld : Bool
  vehicle : Option Nat
  callId : Option Id8
  consignId : Option Id8
  consignee : Option Nat
  endMethod : Option EndMethod
  retry : Nat
  shelfSourced : Bool
  poisoned : Bool
  checkHold : Bool
  lastHoist : Hoist
  recallAt : Option Time
  wait : Option ConsignWait
  cleared : Bool
deriving DecidableEq, Repr, Inhabited

structure MM where
  moves : List (Option Move)
  seqCounter : Id8
  consignCounter : Id8
deriving DecidableEq, Repr, Inhabited

/-! ### Dispatch Unit -/

/-- A call's best bid (R89). -/
structure BestBid where
  bay : Nat
  vehicle : Nat
  cost : Nat
deriving DecidableEq, Repr, Inhabited

/-- One Call List entry (R89). -/
structure CallEntry where
  id : Id8
  tag : Tag
  windowEnd : Time
  best : Option BestBid
  bids : Nat
  awardDeadline : Option Time
deriving DecidableEq, Repr, Inhabited

/-- One Bid List entry (R101). -/
structure BidEntry where
  caller : Nat
  id : Id8
  tag : Tag
  urgency : Nat
  vehicle : Nat
  eta : Nat
  holdEnd : Time
deriving DecidableEq, Repr, Inhabited

/-- The open ask (R107). It holds `count` places. -/
structure Ask where
  id : Id8
  lender : Nat
  count : Nat
  deadline : Time
deriving DecidableEq, Repr, Inhabited

structure DU where
  calls : List CallEntry
  callCounter : Id8
  bids : List BidEntry
  ask : Option Ask
  askCounter : Id8
  starve : Option Time
deriving DecidableEq, Repr, Inhabited

/-! ### Peer Directory -/

inductive Presence | unknown | present | stale | absent
deriving DecidableEq, Repr, Inhabited

/-- One Peer Table entry (R146). -/
structure Peer where
  presence : Presence
  lastHeard : Option Time
  staleSince : Option Time
  window : Option (Nat × Nat)
  sectionTime : Option Nat
  period : Option Nat
  idle : Nat
  node : Option NodeAnn
  recovery : Option Recovery
  link : Option LinkState
  bad : Option Nat
  holdUntil : Option Time
  offline : List Nat
  overflow : Bool
  changed : Bool
deriving DecidableEq, Repr, Inhabited

/-- An entry as power-on and RESTART leave it (R146). -/
def Peer.unknown : Peer where
  presence := .unknown
  lastHeard := none
  staleSince := none
  window := none
  sectionTime := none
  period := none
  idle := 0
  node := none
  recovery := none
  link := none
  bad := none
  holdUntil := none
  offline := []
  overflow := false
  changed := false

/-- `peers` has one entry for each bay; the own bay's place is not used, since the own entry is
derived from its owners' state (R147, `Blocks.ownEntry`). -/
structure PD where
  peers : List Peer
deriving DecidableEq, Repr, Inhabited

/-! ### Trunk Interface -/

/-- A record this node sends: its addressee (absent for ALL) and its body (R127). -/
structure Record where
  dest : Option Nat
  body : Body
deriving DecidableEq, Repr, Inhabited

/-- `queue` holds the waiting records in order, `line` the record on the line; `outcomes` the last
64 outcomes, newest first; `heardAt` the start of the silence timer; `interval` and `buffered` the
status period running and the buffered value, in ms; `statusDue` the next expiry of the status
timer; `holdingUntil` the end of the node's own holding. -/
structure TI where
  queue : List Record
  line : Option Record
  failures : Nat
  mute : Bool
  muteHeard : Nat
  outcomes : List Bool
  receive : LinkState
  lost : Bool
  heardAt : Time
  interval : Nat
  buffered : Nat
  statusDue : Time
  holdingUntil : Option Time
deriving DecidableEq, Repr, Inhabited

/-! ### Fault Unit -/

inductive FaultKind | vehicle | carrier | memory
deriving DecidableEq, Repr, Inhabited

/-- The First-Fault Record (R161). -/
structure FirstFault where
  kind : FaultKind
  vehicle : Option Nat
  tag : Option Tag
  method : Option EndMethod
  time : Time
deriving DecidableEq, Repr, Inhabited

/-- The recovery watch (R161). -/
structure Watch where
  vehicle : Option Nat
  deadline : Time
deriving DecidableEq, Repr, Inhabited

structure FU where
  recovery : Recovery
  first : Option FirstFault
  multiVehicle : Bool
  multiCarrier : Bool
  multiMemory : Bool
  watch : Option Watch
deriving DecidableEq, Repr, Inhabited

/-! ### Service Port -/

/-- The sticky flags (R172). -/
inductive Flag
  | vehicle | carrier | memory | segment | shelf | overflow | link | changed (bay : Bay)
deriving DecidableEq, Repr, Inhabited

/-- The sticky flags the Service Port itself holds; the changed flags stand in the Peer Table. -/
structure Sticky where
  vehicle : Bool
  carrier : Bool
  memory : Bool
  segment : Bool
  shelf : Bool
  overflow : Bool
  link : Bool
deriving DecidableEq, Repr, Inhabited

/-- `counters` holds every counter in the order of the counter table (`Counter.index`). -/
structure SP where
  sticky : Sticky
  token : BitVec 16
  snapshot : List Flag
  counters : List Nat
deriving DecidableEq, Repr, Inhabited

/-! ### What the connections carry -/

/-- Messages on the zone line: POLL with its proceed indication, GOTO, the roll-call GOTO (R6). -/
inductive ZoneMsg
  | poll (vehicle : Nat) (go : Bool) | goto (vehicle : Nat) (job : Job) | rollCall
deriving DecidableEq, Repr, Inhabited

/-- Refusal codes of MOVE-ACK (R43, R58). -/
inductive RefusalCode
  | notReady | unknownSource | sourceEmpty | duplicate | noRoute | tableFull | unknownTag | tooLate
deriving DecidableEq, Repr, Inhabited

/-- Outcomes of MOVE-DONE (R55 to R61). -/
inductive MoveOutcome | delivered | deliveredToShelf | cancelled | sourceGone | returned | removed
deriving DecidableEq, Repr, Inhabited

/-- Messages on the station link. A refusal carries the tag of a refused cancel. -/
inductive StationMsg
  | accepted (tag : Tag) | refused (code : RefusalCode) (tag : Option Tag)
  | moveDone (tag : Tag) (outcome : MoveOutcome) | linkReset
deriving DecidableEq, Repr, Inhabited

/-- The result codes of the service port (R175). -/
inductive Result | ok | wrongState | badIndex | notClear | staleToken
deriving DecidableEq, Repr, Inhabited

/-- The checks of the configuration image, in order (R156). -/
inductive ImageCheck | read | crc | ranges | consistency
deriving DecidableEq, Repr, Inhabited

/-- The node state, with the cause of HALTED and the check that failed (R155, R156). -/
inductive NodeState
  | config | listen | ready | conflict | haltedConfig (check : ImageCheck) | haltedDuplicate
deriving DecidableEq, Repr, Inhabited

/-- A Segment Table entry as READ returns it, in the order of R4's table, and then the parking room of the
segment (R19, R88). -/
structure SegView where
  configured : Nat
  working : Nat
  t : Nat
  occupancy : Nat
  grantedIn : Nat
  degraded : Bool
  faults : Nat
  parking : Nat
  clampRun : Nat
  discarded : Nat
  parkingRoom : Int
deriving DecidableEq, Repr, Inhabited

/-- The entries READ returns, `none` where the index holds nothing (R171). The own Peer Table entry
carries the node state as CL holds it, HALTED among its values (R147, R155). -/
inductive ReadEntry
  | move (m : Option Move) | roster (v : Option Vehicle) | inbound (i : Option Inbound)
  | segment (s : SegView) | station (s : Option Station) | peer (p : Peer)
  | own (node : NodeState) (p : Peer)
  | call (c : Option CallEntry) | bid (b : Option BidEntry)
deriving DecidableEq, Repr, Inhabited

/-- What READ-STATUS returns (R172). -/
structure StatusView where
  node : NodeState
  recovery : Recovery
  lost : Bool
  receive : LinkState
  mute : Bool
  first : Option FirstFault
  multiVehicle : Bool
  multiCarrier : Bool
  multiMemory : Bool
  sticky : Sticky
  changed : List Bool
  token : BitVec 16
deriving DecidableEq, Repr, Inhabited

/-- An answer of the service port: a result code alone, or OK with what the command returns. -/
inductive Reply
  | result (r : Result) | entry (e : ReadEntry) | status (v : StatusView) | counters (l : List Nat)
deriving DecidableEq, Repr, Inhabited

/-- What the latest command made the node send on the zone line, the station link and the service
port (log 5). What it sends on the trunk stands in `TI.queue` and `TI.line`. -/
structure Out where
  zone : List ZoneMsg
  station : List StationMsg
  service : Option Reply
deriving DecidableEq, Repr, Inhabited

/-- MODEL's own field: the passes an event has given occasion for and that are still to run before
the command ends. It is empty between commands (log 16). `released` names the vehicles released
from a move, which get a PASS job when the binding pass leaves them unbound (R81). -/
structure Agenda where
  bind : Bool
  call : Bool
  park : Bool
  follow : Bool
  released : List Nat
deriving DecidableEq, Repr, Inhabited

def Agenda.none : Agenda where
  bind := false
  call := false
  park := false
  follow := false
  released := []

/-- The state of the blocks other than CL. `spoiled` names the entries of the Move Table, the Vehicle
Roster and the Inbound List whose stored parity check fails and that no command has read since (R166,
log 13); `free` is the MODEL's own counter of free values drawn (log 14). -/
structure Blocks where
  zc : ZC
  si : SI
  mm : MM
  du : DU
  pd : PD
  ti : TI
  fu : FU
  sp : SP
  out : Out
  agenda : Agenda
  spoiled : List ParityError
  free : Nat
deriving DecidableEq, Repr, Inhabited

/-- The Configuration Loader: node state, the accepted image, the end of LISTEN (R155 to R157). -/
structure CL where
  node : NodeState
  cfg : Cfg
  listenEnd : Option Time
deriving DecidableEq, Repr, Inhabited

/-- The machine: node time, CL, the other blocks, and the commands that are waiting. -/
structure State where
  now : Time
  cl : CL
  b : Blocks
  pending : List Instr
deriving DecidableEq, Repr

/-! ### Reset values -/

def ZC.reset (discarded : List Nat) : ZC where
  segments := []
  discarded := discarded
  roster := List.replicate Config.rosterSize none
  inbound := []
  census := none

def SI.reset : SI where
  stations := List.replicate Config.stationSize none
  waitQueue := []
  linkReset := false

def MM.reset : MM where
  moves := List.replicate Config.moveSize none
  seqCounter := 0
  consignCounter := 0

def DU.reset : DU where
  calls := []
  callCounter := 0
  bids := []
  ask := none
  askCounter := 0
  starve := none

def PD.reset : PD where
  peers := List.replicate 32 Peer.unknown

def TI.reset : TI where
  queue := []
  line := none
  failures := 0
  mute := false
  muteHeard := 0
  outcomes := List.replicate Config.windowSize true
  receive := .good
  lost := false
  heardAt := 0
  interval := 0
  buffered := 0
  statusDue := 0
  holdingUntil := none

def FU.reset : FU where
  recovery := .normal
  first := none
  multiVehicle := false
  multiCarrier := false
  multiMemory := false
  watch := none

def Sticky.clear : Sticky where
  vehicle := false
  carrier := false
  memory := false
  segment := false
  shelf := false
  overflow := false
  link := false

/-- How many counters the counter table lists. -/
def SP.counterCount : Nat := 75

def SP.reset (counters : List Nat) : SP where
  sticky := Sticky.clear
  token := 0
  snapshot := []
  counters := counters

def Out.none : Out where
  zone := []
  station := []
  service := Option.none

/-- The blocks after a reset that keeps `counters`, the measurements-discarded counts and the
Fault Unit's kept state (R170, R174). -/
def Blocks.reset (counters discarded : List Nat) (fu : FU) : Blocks where
  zc := ZC.reset discarded
  si := SI.reset
  mm := MM.reset
  du := DU.reset
  pd := PD.reset
  ti := TI.reset
  fu := fu
  sp := SP.reset counters
  out := Out.none
  agenda := Agenda.none
  spoiled := []
  free := 0

/-- CL on entering CONFIG (R155, R156). -/
def CL.reset : CL where
  node := .config
  cfg := Cfg.blank
  listenEnd := none

/-- The machine right after power-on (R155): every block at its reset value, the node in CONFIG,
no command waiting. Node time starts at 0 (DESIGN CHOICE, log 1). -/
def State.reset : State where
  now := 0
  cl := CL.reset
  b := Blocks.reset (List.replicate SP.counterCount 0) (List.replicate Config.segmentSize 0)
    FU.reset
  pending := []

end Sys2Proof.Machine
end

