-- ==== Sys2Proof/Machine/Ops.lean ====
section
/-! DEFINITION. The named operations over the tables that every block uses: node time and its
comparison, slots of a table, counters, sticky flags, and access to the roster, the moves, the
stations, the peers and the segments. -/
namespace Sys2Proof.Machine

/-! ### Node time (R1) -/

/-- What an event reads and no block's operation changes: node time, node state, configuration. -/
structure Env where
  now : Time
  node : NodeState
  cfg : Cfg
deriving DecidableEq, Repr

def State.env (s : State) : Env := { now := s.now, node := s.cl.node, cfg := s.cl.cfg }

/-- The wrapped difference of two node times, read as a signed quantity (R1). -/
def since (now t : Time) : Int := (now - t).toInt

/-- Node time `ms` milliseconds after `t`. -/
def after (t : Time) (ms : Nat) : Time := t + BitVec.ofNat 32 ms

/-- Node time has passed `t` by `ms` milliseconds or more. -/
def passed (now t : Time) (ms : Nat) : Bool := decide ((ms : Int) ≤ since now t)

/-- `a` is earlier than `b`, by wrapped difference. -/
def earlier (a b : Time) : Bool := decide (since a b < 0)

/-- A sum of the dispatch arithmetic stops at 65535, a counter at 2^32 - 1 (R2). -/
def sat16 (n : Nat) : Nat := min n 65535
def sat32 (n : Nat) : Nat := min n 4294967295

/-! ### Node states (R155) -/

/-- The states from LISTEN onward, in which records and reports are taken: every state but CONFIG
and HALTED for CONFIG-ERROR (R6, R135, R138). -/
def NodeState.running : NodeState → Bool
  | .config => false
  | .haltedConfig _ => false
  | _ => true

/-- LISTEN, READY and CONFLICT: the states in which the node sends (R138, R171). -/
def NodeState.active : NodeState → Bool
  | .listen => true
  | .ready => true
  | .conflict => true
  | _ => false

def NodeState.halted : NodeState → Bool
  | .haltedConfig _ => true
  | .haltedDuplicate => true
  | _ => false

/-! ### Tables of slots -/

/-- The entries in use, in index order. -/
def live (l : List (Option α)) : List α := l.filterMap id

/-- The entries in use with their index, in index order. -/
def liveIdx (l : List (Option α)) : List (Nat × α) :=
  l.zipIdx.filterMap fun p => p.1.map fun a => (p.2, a)

/-- Changes every entry in use that satisfies `p`. -/
def updWhere (p : α → Bool) (f : α → α) (l : List (Option α)) : List (Option α) :=
  l.map (Option.map fun a => if p a then f a else a)

/-- Frees every entry that satisfies `p`. -/
def freeWhere (p : α → Bool) (l : List (Option α)) : List (Option α) :=
  l.map (Option.filter fun a => !p a)

/-- Puts `a` into the free entry of the lowest index; `l` unchanged when none is free. -/
def putFree (a : α) : List (Option α) → List (Option α)
  | [] => []
  | none :: l => some a :: l
  | some x :: l => some x :: putFree a l

/-- How many entries are free. -/
def freeCount (l : List (Option α)) : Nat := l.countP Option.isNone

/-- The first element no other element comes before, under the strict order `lt`. -/
def firstBy (lt : α → α → Bool) : List α → Option α
  | [] => none
  | a :: l =>
    match firstBy lt l with
    | none => some a
    | some b => if lt b a then some b else some a

/-- Insertion by a strict order, after every element the new one does not come before. -/
def insertBy (lt : α → α → Bool) (a : α) : List α → List α
  | [] => [a]
  | b :: l => if lt a b then a :: b :: l else b :: insertBy lt a l

/-- The list in the strict order `lt`, equal elements in their present order. -/
def sortBy (lt : α → α → Bool) (l : List α) : List α :=
  l.foldl (fun acc a => insertBy lt a acc) []

/-- The first identifier from `c` on, modulo 256, that `used` does not hold, looking at `fuel`
values (R41, R89, R120). -/
def nextFree (used : Id8 → Bool) (c : Id8) : Nat → Id8
  | 0 => c
  | fuel + 1 => if used c then nextFree used (c + 1) fuel else c

/-! ### Updates of the blocks -/

def Blocks.modRoster (b : Blocks) (f : List (Option Vehicle) → List (Option Vehicle)) : Blocks :=
  { b with zc := { b.zc with roster := f b.zc.roster } }
def Blocks.modInbound (b : Blocks) (f : List Inbound → List Inbound) : Blocks :=
  { b with zc := { b.zc with inbound := f b.zc.inbound } }
def Blocks.modSegments (b : Blocks) (f : List Seg → List Seg) : Blocks :=
  { b with zc := { b.zc with segments := f b.zc.segments } }
def Blocks.modStations (b : Blocks) (f : List (Option Station) → List (Option Station)) : Blocks :=
  { b with si := { b.si with stations := f b.si.stations } }
def Blocks.modWait (b : Blocks) (f : List Nat → List Nat) : Blocks :=
  { b with si := { b.si with waitQueue := f b.si.waitQueue } }
def Blocks.modMoves (b : Blocks) (f : List (Option Move) → List (Option Move)) : Blocks :=
  { b with mm := { b.mm with moves := f b.mm.moves } }
def Blocks.modCalls (b : Blocks) (f : List CallEntry → List CallEntry) : Blocks :=
  { b with du := { b.du with calls := f b.du.calls } }
def Blocks.modBids (b : Blocks) (f : List BidEntry → List BidEntry) : Blocks :=
  { b with du := { b.du with bids := f b.du.bids } }
def Blocks.modTI (b : Blocks) (f : TI → TI) : Blocks := { b with ti := f b.ti }
def Blocks.modDU (b : Blocks) (f : DU → DU) : Blocks := { b with du := f b.du }
def Blocks.modFU (b : Blocks) (f : FU → FU) : Blocks := { b with fu := f b.fu }
def Blocks.modSP (b : Blocks) (f : SP → SP) : Blocks := { b with sp := f b.sp }
def Blocks.modOut (b : Blocks) (f : Out → Out) : Blocks := { b with out := f b.out }
def Blocks.modAgenda (b : Blocks) (f : Agenda → Agenda) : Blocks := { b with agenda := f b.agenda }
def Blocks.modPeer (b : Blocks) (bay : Nat) (f : Peer → Peer) : Blocks :=
  { b with pd := { b.pd with peers := b.pd.peers.modify bay f } }

/-- A new command finds the connections quiet. -/
def Blocks.quiet (b : Blocks) : Blocks := { b with out := Out.none }

/-! ### Occasions for the passes (R78, R87, R92, R37) -/

def Blocks.wantBind (b : Blocks) : Blocks := b.modAgenda fun a => { a with bind := true }
def Blocks.wantCall (b : Blocks) : Blocks := b.modAgenda fun a => { a with call := true }
def Blocks.wantPark (b : Blocks) : Blocks := b.modAgenda fun a => { a with park := true }
def Blocks.wantFollow (b : Blocks) : Blocks := b.modAgenda fun a => { a with follow := true }
def Blocks.wantPass (b : Blocks) (vehicle : Nat) : Blocks :=
  b.modAgenda fun a => { a with released := a.released ++ [vehicle] }

/-! ### What the connections carry -/

def Blocks.emitZone (b : Blocks) (m : ZoneMsg) : Blocks :=
  b.modOut fun o => { o with zone := o.zone ++ [m] }
def Blocks.emitStation (b : Blocks) (m : StationMsg) : Blocks :=
  b.modOut fun o => { o with station := o.station ++ [m] }
def Blocks.reply (b : Blocks) (r : Reply) : Blocks :=
  b.modOut fun o => { o with service := some r }

/-! ### The roster -/

/-- The roster entries in use, in index order. -/
def Blocks.vehicles (b : Blocks) : List Vehicle := live b.zc.roster

/-- The roster entry of vehicle `id`. -/
def Blocks.vehicle? (b : Blocks) (id : Nat) : Option Vehicle := b.vehicles.find? fun v => v.id == id

def Blocks.onRoster (b : Blocks) (id : Nat) : Bool := (b.vehicle? id).isSome

def Blocks.modVehicle (b : Blocks) (id : Nat) (f : Vehicle → Vehicle) : Blocks :=
  b.modRoster (updWhere (fun v => v.id == id) f)

/-- The free roster slots f (R11). -/
def Blocks.freeSlots (b : Blocks) : Nat := freeCount b.zc.roster

/-- A RELEARN entry is counted in the occupancy of no segment (R18). -/
def Blocks.occupancy (b : Blocks) (s : Nat) : Nat :=
  b.vehicles.countP fun v => !v.relearn && v.segment == s

/-- The roster entries that hold a grant into segment `s` (R4, R5). -/
def Blocks.grantedIn (b : Blocks) (s : Nat) : Nat :=
  b.vehicles.countP fun v => !v.relearn && v.grant == some s

/-- A Bid List entry names the vehicle (R77). -/
def Blocks.bidNames (b : Blocks) (id : Nat) : Bool := b.du.bids.any fun e => e.vehicle == id

/-- The vehicle is IDLE or PARKED, bound to no move, and its entry not marked RELEARN. -/
def Vehicle.free (v : Vehicle) : Bool :=
  (v.state == .idle || v.state == .parked) && v.bound.isNone && !v.relearn

/-- A candidate vehicle (R77). -/
def Blocks.candidate (b : Blocks) (v : Vehicle) : Bool := v.free && !b.bidNames v.id

def Blocks.candidates (b : Blocks) : List Vehicle := b.vehicles.filter b.candidate

/-- The unreserved idle count (R91). -/
def Blocks.idleCount (b : Blocks) : Nat := b.candidates.length

/-! ### Segments -/

def Blocks.seg? (b : Blocks) (s : Nat) : Option Seg := b.zc.segments[s]?

def Blocks.modSeg (b : Blocks) (s : Nat) (f : Seg → Seg) : Blocks :=
  b.modSegments fun l => l.modify s f

/-- The working capacity of a segment; 0 for a segment that does not exist. -/
def Blocks.working (b : Blocks) (s : Nat) : Nat :=
  match b.seg? s with
  | some g => g.working
  | none => 0

/-- The segment of the exit spur, L+1 (R3). -/
def Env.exitSeg (e : Env) : Nat := e.cfg.loopLen + 1

/-! ### Moves -/

def Blocks.moveList (b : Blocks) : List Move := live b.mm.moves

/-- The record other than FREE that holds a tag of this bay. -/
def Blocks.move? (b : Blocks) (tag : Tag) : Option Move := b.moveList.find? fun m => m.tag == tag

def Blocks.modMove (b : Blocks) (tag : Tag) (f : Move → Move) : Blocks :=
  b.modMoves (updWhere (fun m => m.tag == tag) f)

/-- The tag's home bay is this node's. -/
def Env.ownTag (e : Env) (t : Tag) : Bool := t.home == e.cfg.bay.val

/-! ### Stations -/

def Blocks.stationList (b : Blocks) : List Station := live b.si.stations

def Blocks.station? (b : Blocks) (n : Nat) : Option Station :=
  b.stationList.find? fun s => s.number == n

def Blocks.modStation (b : Blocks) (n : Nat) (f : Station → Station) : Blocks :=
  b.modStations (updWhere (fun s => s.number == n) f)

/-- Station `n` lies within this node's window (configured or not). -/
def Env.inWindow (e : Env) (n : Nat) : Bool := decide (e.cfg.base ≤ n ∧ n ≤ e.cfg.limit)

/-! ### Peers -/

def Blocks.peer (b : Blocks) (bay : Nat) : Peer := (b.pd.peers[bay]?).getD Peer.unknown

/-! ### Inbound List and places (R90) -/

def Blocks.inbound? (b : Blocks) (id : Nat) : Option Inbound :=
  b.zc.inbound.find? fun i => i.vehicle == id

/-- The places held: one for each call and the open ask's count (R90). -/
def Blocks.places (b : Blocks) : Nat :=
  b.du.calls.length + (match b.du.ask with | some a => a.count | none => 0)

/-- The room of the Inbound List (R90). -/
def Blocks.room (b : Blocks) : Nat := Config.inboundSize - b.zc.inbound.length - b.places

/-- The vehicle stands on the roster or on the Inbound List. -/
def Blocks.known (b : Blocks) (id : Nat) : Bool := b.onRoster id || (b.inbound? id).isSome

/-- Places an entry after every entry whose expected arrival is earlier or equal (R110). -/
def Blocks.addInbound (b : Blocks) (i : Inbound) : Blocks :=
  b.modInbound (insertBy (fun x y => earlier x.expected y.expected) i)

/-- Takes the entry of a vehicle off the list. The departure is an occasion for a call pass
(R92, R110). -/
def Blocks.dropInbound (b : Blocks) (id : Nat) : Blocks :=
  (b.modInbound fun l => l.filter fun i => i.vehicle != id).wantCall

/-- Gives a vehicle's entry new contents and its new place in the order (R111). -/
def Blocks.moveInbound (b : Blocks) (i : Inbound) : Blocks :=
  (b.modInbound fun l => l.filter fun x => x.vehicle != i.vehicle).addInbound i

end Sys2Proof.Machine
end

