-- ==== Sys2Proof/Machine/Flags.lean ====
section
/-! DEFINITION. The counters in the order of the counter table (R2, chapter Service Port), the
sticky flags with the snapshot (R172), and the ALERT output. -/
namespace Sys2Proof.Machine

/-- Codes of the classes (R175), in the order the counter table uses. -/
def classCode : MoveClass → Nat
  | .hot => 0
  | .express => 1
  | .normal => 2
  | .ret => 3

def refusalCode : RefusalCode → Nat
  | .notReady => 1
  | .unknownSource => 2
  | .sourceEmpty => 3
  | .duplicate => 4
  | .noRoute => 5
  | .tableFull => 6
  | .unknownTag => 7
  | .tooLate => 8

def retractCode : RetractReason → Nat
  | .gone => 0
  | .faulted => 1
  | .expired => 2

/-- The counters (chapter Service Port, Counters and Layouts). `bin c k` is completion-time bin
`k` (0 to 4) of class `c`. -/
inductive Counter
  | accepted (c : MoveClass) | completed (c : MoveClass) | bin (c : MoveClass) (k : Nat)
  | cancelled | sourceGone | returned | removed | mismatch | strayDone
  | refusal (r : RefusalCode)
  | callsMade | callsAwarded | callsCancelled | awardUnanswered | retracts (r : RetractReason)
  | bidsMade | bidsWon | loansAsked | loansGranted | loansReceived
  | consignSent | taken | busy | consignReturned
  | admissions | recirculations | orphans | misrouted | lateEntries | missingEntries | toShelf
  | sent | received | bad | malformed | fragments | transmitFailures | overflows
  | measured | discarded | parity
deriving DecidableEq, Repr

/-- The place of a counter in the order of the counter table. -/
def Counter.index : Counter → Nat
  | .accepted c => classCode c
  | .completed c => 4 + classCode c
  | .bin c k => 8 + 5 * classCode c + min k 4
  | .cancelled => 28
  | .sourceGone => 29
  | .returned => 30
  | .removed => 31
  | .mismatch => 32
  | .strayDone => 33
  | .refusal r => 33 + refusalCode r
  | .callsMade => 42
  | .callsAwarded => 43
  | .callsCancelled => 44
  | .awardUnanswered => 45
  | .retracts r => 46 + retractCode r
  | .bidsMade => 49
  | .bidsWon => 50
  | .loansAsked => 51
  | .loansGranted => 52
  | .loansReceived => 53
  | .consignSent => 54
  | .taken => 55
  | .busy => 56
  | .consignReturned => 57
  | .admissions => 58
  | .recirculations => 59
  | .orphans => 60
  | .misrouted => 61
  | .lateEntries => 62
  | .missingEntries => 63
  | .toShelf => 64
  | .sent => 65
  | .received => 66
  | .bad => 67
  | .malformed => 68
  | .fragments => 69
  | .transmitFailures => 70
  | .overflows => 71
  | .measured => 72
  | .discarded => 73
  | .parity => 74

/-- Raises a counter by `n`; it stops at its greatest value (R2). -/
def Blocks.bumpBy (b : Blocks) (k : Counter) (n : Nat) : Blocks :=
  b.modSP fun p => { p with counters := p.counters.modify k.index fun x => sat32 (x + n) }

def Blocks.bump (b : Blocks) (k : Counter) : Blocks := b.bumpBy k 1

/-- The value of a counter. -/
def Blocks.counter (b : Blocks) (k : Counter) : Nat := (b.sp.counters[k.index]?).getD 0

/-! ### Sticky flags -/

/-- Whether a flag is set. -/
def Blocks.flag (b : Blocks) : Flag → Bool
  | .vehicle => b.sp.sticky.vehicle
  | .carrier => b.sp.sticky.carrier
  | .memory => b.sp.sticky.memory
  | .segment => b.sp.sticky.segment
  | .shelf => b.sp.sticky.shelf
  | .overflow => b.sp.sticky.overflow
  | .link => b.sp.sticky.link
  | .changed bay => (b.peer bay.val).changed

/-- Writes one flag. -/
def Blocks.writeFlag (b : Blocks) (f : Flag) (x : Bool) : Blocks :=
  let put (g : Sticky → Sticky) : Blocks := b.modSP fun p => { p with sticky := g p.sticky }
  match f with
  | .vehicle => put fun s => { s with vehicle := x }
  | .carrier => put fun s => { s with carrier := x }
  | .memory => put fun s => { s with memory := x }
  | .segment => put fun s => { s with segment := x }
  | .shelf => put fun s => { s with shelf := x }
  | .overflow => put fun s => { s with overflow := x }
  | .link => put fun s => { s with link := x }
  | .changed bay => b.modPeer bay.val fun p => { p with changed := x }

/-- An owner sets a flag; a flag that stands in the snapshot leaves it (R172). -/
def Blocks.setFlag (b : Blocks) (f : Flag) : Blocks :=
  (b.modSP fun p => { p with snapshot := p.snapshot.filter fun g => g != f }).writeFlag f true

/-- Every sticky flag: the seven of the Service Port and the changed flags of the bays. -/
def allFlags : List Flag :=
  [.vehicle, .carrier, .memory, .segment, .shelf, .overflow, .link] ++
    (List.finRange 32).map .changed

/-- The flags that are set. -/
def Blocks.flagsSet (b : Blocks) : List Flag := allFlags.filter b.flag

/-- The ALERT output (R172): any sticky flag, RESTRICTED, or the node HALTED. -/
def State.alert (s : State) : Bool :=
  allFlags.any s.b.flag || s.b.fu.recovery == .restricted || s.cl.node.halted

end Sys2Proof.Machine
end

