-- ==== Sys2Proof/Machine/Arith.lean ====
section
/-! DEFINITION. The dispatch arithmetic: segment cost, paths, local estimate, section times, remote
cost, urgency, and the three orders (R64 to R76). -/
namespace Sys2Proof.Machine

/-- The cost S of a learned time T: T / 8 rounded up (R64). -/
def segCost (t : Nat) : Nat := (t + 7) / 8

def Blocks.cost (b : Blocks) (s : Nat) : Nat :=
  match b.seg? s with
  | some g => segCost g.t
  | none => 0

/-- The target of an estimate: a station or parking place on a loop segment, or the exit (R65). -/
inductive Goal | seg (j : Nat) | exit
deriving DecidableEq, Repr

/-- The segments `i` to `j`, in order. -/
def segRange (i j : Nat) : List Nat := List.range' i (j + 1 - i)

/-- The path of an estimate from segment `i` (R65). A vehicle on the exit spur has no path to a
station. -/
def Env.path (e : Env) (i : Nat) : Goal → Option (List Nat)
  | .seg j =>
    if i = e.exitSeg then none
    else if i = 0 then some (0 :: segRange 1 j)
    else if i ≤ j then some (segRange i j)
    else some (segRange i e.cfg.loopLen ++ segRange 1 j)
  | .exit => some (segRange i e.exitSeg)

/-- A sum built one addition at a time, each partial sum stopping at 65535 (R2, R67). -/
def satSum (l : List Nat) : Nat := l.foldl (fun a x => sat16 (a + x)) 0

/-- The counted vehicles on a path, `skip` itself not counted (R66). -/
def Blocks.countOn (b : Blocks) (skip : Option Nat) (path : List Nat) : Nat :=
  b.vehicles.countP fun v => !v.relearn && path.contains v.segment && skip != some v.id

/-- The local estimate from segment `i`, made for the vehicle `skip` or for none, with the given
park term (R66, R67). -/
def Blocks.estimate (e : Env) (b : Blocks) (skip : Option Nat) (park i : Nat) (g : Goal) :
    Option Nat :=
  (e.path i g).map fun p => satSum (park :: p.map b.cost ++ [e.cfg.q * b.countOn skip p])

/-- The local estimate E of a vehicle (R67); a RELEARN vehicle has none. -/
def Blocks.estimateOf (e : Env) (b : Blocks) (v : Vehicle) (g : Goal) : Option Nat :=
  if v.relearn then none
  else b.estimate e (some v.id) (if v.state = .parked then e.cfg.parkPenalty else 0) v.segment g

/-- The exit ETA of a roster vehicle (R68); a free value for one without an estimate (log 15). -/
def Blocks.exitEta (e : Env) (b : Blocks) (v : Vehicle) : Nat :=
  match b.estimateOf e v .exit with
  | some n => n
  | none => sat16 (Config.unknownEta v.id)

/-! ### The main loop (R69 to R71) -/

/-- The section time X of bay `k`, as the arithmetic uses it (R69). -/
def Blocks.sectionTime (e : Env) (b : Blocks) (k : Nat) : Nat :=
  if k = e.cfg.bay.val then e.cfg.sectionTime
  else
    match (b.peer k).presence with
    | .present => (b.peer k).sectionTime.getD e.cfg.xDefault
    | .stale => (b.peer k).sectionTime.getD e.cfg.xDefault
    | _ => e.cfg.xDefault

/-- The section sum from bay `k` to bay `c` (R69); a free value from a bay off the loop (log 15). -/
def Blocks.sectionSum (e : Env) (b : Blocks) (k c : Nat) : Nat :=
  if k < e.cfg.nBays then
    satSum ((List.range ((c + e.cfg.nBays - k) % e.cfg.nBays)).map fun i =>
      b.sectionTime e ((k + i) % e.cfg.nBays))
  else sat16 (Config.offLoopSum k c)

/-- The loop time (R71). -/
def Blocks.loopTime (e : Env) (b : Blocks) : Nat :=
  satSum ((List.range e.cfg.nBays).map (b.sectionTime e))

/-- Node time `ds` deciseconds from now (R69, R111). -/
def Env.inDs (e : Env) (ds : Nat) : Time := after e.now (ds * 100)

/-- The expected arrival of a vehicle whose record gives an exit ETA (R111). -/
def Blocks.arrivalTime (e : Env) (b : Blocks) (sender eta : Nat) : Time :=
  e.inDs (sat16 (eta + b.sectionSum e sender e.cfg.bay.val))

/-- The remote cost C of a bid (R70). -/
def Blocks.remoteCost (e : Env) (b : Blocks) (bidder eta sourceSeg : Nat) : Nat :=
  if bidder < e.cfg.nBays then
    satSum [eta, b.sectionSum e bidder e.cfg.bay.val,
      (b.estimate e none 0 0 (.seg sourceSeg)).getD 65535]
  else 65535

/-! ### Urgency (R72, R73) -/

/-- The age in whole seconds, stopped at 4095 (R72). -/
def Move.age (now : Time) (m : Move) : Nat := min ((since now m.acceptedAt).toNat / 1000) 4095

def Move.overdue (now : Time) (m : Move) : Bool := decide (m.deadline ≤ m.age now)

/-- The class constants K and M (R73). -/
def classK : MoveClass → Nat
  | .hot => 16384
  | .express => 4096
  | .normal => 0
  | .ret => 0

def classM : MoveClass → Nat
  | .hot => 16
  | .express => 8
  | .normal => 4
  | .ret => 1

/-- The urgency U (R73). -/
def Move.urgency (now : Time) (m : Move) : Nat :=
  sat16 (classK m.cls + classM m.cls * m.age now + if m.overdue now then 4096 else 0)

/-! ### The orders (R74 to R76) -/

/-- `m` comes before `n` by urgency and accepted at; the lower table index decides a tie (R75). -/
def Move.before (now : Time) (m n : Move) : Bool :=
  decide (n.urgency now < m.urgency now) ||
    (m.urgency now == n.urgency now && earlier m.acceptedAt n.acceptedAt)

/-- Least estimate first, then the lower number: vehicle id, table index or segment (R74). -/
def leastFirst (a b : Nat × Nat) : Bool :=
  decide (a.1 < b.1) || (a.1 == b.1 && decide (a.2 < b.2))

/-- The vehicles in the order of their estimate to a goal, each with its estimate; a vehicle given
no estimate takes no place (R74). -/
def Blocks.rank (e : Env) (b : Blocks) (vs : List Vehicle) (g : Goal) : List (Nat × Vehicle) :=
  sortBy (fun x y => leastFirst (x.1, x.2.id) (y.1, y.2.id))
    (vs.filterMap fun v => (b.estimateOf e v g).map fun n => (n, v))

/-- A bid comes before another by cost, then by the lower bay (R76). -/
def BestBid.before (x y : BestBid) : Bool := leastFirst (x.cost, x.bay) (y.cost, y.bay)

end Sys2Proof.Machine
end

