-- ==== Sys2Proof/Machine/Trunk.lean ====
section
/-! DEFINITION. The Trunk Interface: the Transmit Queue, HOLD and the status period, the receive
window, MUTE, and the form checks of a record (R127 to R145). -/
namespace Sys2Proof.Machine

/-! ### Kinds (R127, R175) -/

/-- The code of a body's kind. -/
def kindCode : Body → Nat
  | .status _ => 0
  | .call .. => 1
  | .bid .. => 2
  | .award .. => 3
  | .cancel _ => 4
  | .sent .. => 5
  | .retract .. => 6
  | .ask .. => 7
  | .loan .. => 8
  | .consign .. => 9
  | .accept .. => 10
  | .done .. => 11
  | .hold _ => 12
  | .link .. => 13

/-- The priority class of a kind. -/
def kindClass : Nat → Nat
  | 12 => 0
  | 13 => 0
  | 3 => 1
  | 4 => 1
  | 5 => 1
  | 6 => 1
  | 10 => 1
  | 9 => 2
  | 11 => 2
  | 1 => 3
  | 2 => 3
  | 7 => 4
  | 8 => 4
  | _ => 5

/-- The kinds that are sent to ALL; the others go to one bay. -/
def kindToAll (k : Nat) : Bool := [0, 1, 3, 4, 12, 13].contains k

def Record.cls (r : Record) : Nat := kindClass (kindCode r.body)

/-- The counts and coded fields lie in their ranges (R133). Ranges that the types of `Body` keep
are not repeated. -/
def bodyInRange : Body → Bool
  | .status s =>
    decide (s.offline.length ≤ 6 ∧ 1 ≤ s.sectionTime ∧ s.sectionTime ≤ 4095 ∧ 5 ≤ s.period ∧
      s.period ≤ 50 ∧ s.base ≤ s.limit ∧ s.limit ≤ 4095 ∧ s.limit - s.base ≤ 31 ∧ s.idle ≤ 24)
  | .award _ w _ => decide (w ≤ 31)
  | .ask _ n => decide (1 ≤ n ∧ n ≤ 4)
  | .loan _ _ vs => decide (vs.length ≤ 4)
  | .link _ n => decide (n ≤ 64)
  | _ => true

/-! ### The Transmit Queue (R136, R137) -/

def isStatus (r : Record) : Bool := kindCode r.body == 0
def isLink (r : Record) : Bool := kindCode r.body == 13
def isHoldZero (r : Record) : Bool := r.body == .hold 0
def isHoldQuanta (r : Record) : Bool := kindCode r.body == 12 && !(r.body == .hold 0)

/-- The kinds of which at most one waits and a newer one replaces the waiting one (R137). -/
def replaces (r x : Record) : Bool := (isStatus r && isStatus x) || (isLink r && isLink x)

/-- Records waiting and on the line (R136). -/
def TI.count (t : TI) : Nat := t.queue.length + (if t.line.isSome then 1 else 0)

/-- Behind every record of the same or a lower class (R136). -/
def enqueue (r : Record) (q : List Record) : List Record :=
  insertBy (fun x y => decide (x.cls < y.cls)) r q

/-- At the head of its own class (R136). -/
def requeue (r : Record) : List Record → List Record
  | [] => [r]
  | x :: q => if r.cls ≤ x.cls then r :: x :: q else x :: requeue r q

/-- Places a record in the Transmit Queue: it replaces a waiting STATUS or LINK, or overflows
(R137). In CONFIG and in HALTED nothing is placed and nothing is counted (R138). -/
def Blocks.place (e : Env) (r : Record) (b : Blocks) : Blocks :=
  if !e.node.active then b
  else if b.ti.queue.any (replaces r) then
    b.modTI fun t => { t with queue := t.queue.map fun x => if replaces r x then r else x }
  else if Config.queueSize ≤ b.ti.count then (b.bump .overflows).setFlag .overflow
  else b.modTI fun t => { t with queue := enqueue r t.queue }

/-- Sends to ALL or to one bay. -/
def Blocks.toAll (e : Env) (body : Body) (b : Blocks) : Blocks := b.place e { dest := none, body }
def Blocks.toBay (e : Env) (bay : Nat) (body : Body) (b : Blocks) : Blocks :=
  b.place e { dest := some bay, body }

/-- The record on the line returns to the head of its class; an older STATUS or LINK that returns
while a newer one waits is dropped (R136, R137). -/
def TI.returnLine (t : TI) : TI :=
  match t.line with
  | none => t
  | some r =>
    { t with
      line := none
      queue := if t.queue.any (replaces r) then t.queue else requeue r t.queue }

/-- A record of the Transmit Queue satisfies `p`, waiting or on the line. -/
def TI.holds (t : TI) (p : Record → Bool) : Bool := t.queue.any p || t.line.any p

/-! ### HOLD and the status period (R140, R141) -/

def TI.holding (t : TI) : Bool := t.holdingUntil.isSome

/-- The status period the present conditions call for, in ms (R140). -/
def Blocks.periodNow (e : Env) (b : Blocks) : Nat :=
  if b.ti.holding || b.fu.recovery == .restricted then max 500 (e.cfg.pStatus / 2)
  else e.cfg.pStatus

/-- A hold cause (R141). -/
def Blocks.holdCause (e : Env) (b : Blocks) : Bool :=
  decide (b.freeSlots ≤ e.cfg.hThr) || b.fu.recovery == .restricted

/-- The time left of the node's own holding, in ms. -/
def Blocks.holdLeft (e : Env) (b : Blocks) : Int :=
  match b.ti.holdingUntil with
  | none => 0
  | some t => since t e.now

/-- Places HOLD(quanta) unless one waits or is on the line. -/
def Blocks.placeHold (e : Env) (b : Blocks) : Blocks :=
  if b.ti.holds isHoldQuanta then b else b.toAll e (.hold e.cfg.quanta)

/-- The HOLD conditions (R141). `half` says that half of the duration has just run (log 39). A HOLD that
a full queue discarded is placed again at the end of every later command while its condition stands, and
each try is counted as an overflow (DESIGN CHOICE, log 59). -/
def Blocks.holdUpkeep (e : Env) (half : Bool) (b : Blocks) : Blocks :=
  if !e.node.active then b
  else if b.holdCause e then
    let withdrew := b.ti.queue.any isHoldZero
    let b := b.modTI fun t => { t with queue := t.queue.filter fun r => !isHoldZero r }
    let low := decide (2 * b.holdLeft e < (e.cfg.quanta * 100 : Nat)) ||
      (half && decide (2 * b.holdLeft e ≤ (e.cfg.quanta * 100 : Nat)))
    if withdrew || low then b.placeHold e else b
  else
    let b := b.modTI fun t => { t with queue := t.queue.filter fun r => !isHoldQuanta r }
    if b.ti.holding && !b.ti.holds isHoldZero then b.toAll e (.hold 0) else b

/-- The buffered status period follows its conditions (R140). -/
def Blocks.periodUpkeep (e : Env) (b : Blocks) : Blocks :=
  if e.node.running then b.modTI fun t => { t with buffered := b.periodNow e } else b

/-- What TI does after an event that may change f, the recovery state or the holding state. -/
def Blocks.trunkUpkeep (e : Env) (b : Blocks) : Blocks := (b.holdUpkeep e false).periodUpkeep e

/-! ### The own offline list, the own entry and STATUS (R39, R139, R147) -/

def Station.offline (s : Station) : Bool := s.state == .offline || s.state == .disabled

/-- The own offline list, in ascending station number (R39). The Station Table is indexed by
station number, so table order is that order. -/
def Blocks.offlineList (b : Blocks) : List Nat :=
  (b.stationList.filter Station.offline).map Station.number

def nodeAnn : NodeState → Option NodeAnn
  | .listen => some .listen
  | .ready => some .ready
  | .conflict => some .conflict
  | _ => none

/-- The own Peer Table entry, each field from its owner's state (R147). Last heard, stale since, announced
bad count and the changed flag, which R147 does not give it, are absent and clear (DESIGN CHOICE,
log 77). -/
def Blocks.ownEntry (e : Env) (b : Blocks) : Peer :=
  if e.node.running then
    { presence := .present
      lastHeard := none
      staleSince := none
      window := some (e.cfg.base, e.cfg.limit)
      sectionTime := some e.cfg.sectionTime
      period := some (b.ti.buffered / 100)
      idle := b.idleCount
      node := nodeAnn e.node
      recovery := some b.fu.recovery
      link := some b.ti.receive
      bad := none
      holdUntil := b.ti.holdingUntil
      offline := b.offlineList.take 6
      overflow := decide (6 < b.offlineList.length)
      changed := false }
  else Peer.unknown

/-- The body of a STATUS placed now (R139). -/
def Blocks.statusBody (e : Env) (b : Blocks) : StatusBody where
  node := (nodeAnn e.node).getD .listen
  recovery := b.fu.recovery
  link := b.ti.receive
  base := e.cfg.base
  limit := e.cfg.limit
  sectionTime := e.cfg.sectionTime
  period := b.ti.buffered / 100
  idle := b.idleCount
  offline := b.offlineList.take 6
  overflow := decide (6 < b.offlineList.length)

/-! ### Receiving (R142 to R144) -/

/-- The number of bad outcomes among the last 64 (R142). -/
def TI.badCount (t : TI) : Nat := t.outcomes.countP fun x => !x

/-- Announces the receive state after a change of it, while LOST as well (R142, log 48). -/
def Blocks.announceLink (e : Env) (x : LinkState) (b : Blocks) : Blocks :=
  (b.modTI fun t => { t with receive := x }).toAll e (.link x b.ti.badCount)

/-- Enters one outcome into the receive window (R142). -/
def Blocks.outcome (e : Env) (good : Bool) (b : Blocks) : Blocks :=
  let b := b.modTI fun t => { t with outcomes := good :: t.outcomes.take 63 }
  match b.ti.receive with
  | .good => if 8 ≤ b.ti.badCount then (b.setFlag .link).announceLink e .degraded else b
  | .degraded => if b.ti.badCount ≤ 4 then b.announceLink e .good else b

/-- A well-formed record from another node, for TI itself: it restarts the silence timer, ends
LOST, and counts toward the end of MUTE (R135, R143, R144). -/
def Blocks.heard (e : Env) (b : Blocks) : Blocks :=
  let b := (b.bump .received).outcome e true
  let wasLost := b.ti.lost
  let b := b.modTI fun t => { t with heardAt := e.now, lost := false }
  let b := if wasLost then b.wantCall else b
  if b.ti.mute then
    if 32 ≤ b.ti.muteHeard + 1 then
      (b.modTI fun t => { t with mute := false, failures := 0, muteHeard := 0 }).wantCall
    else b.modTI fun t => { t with muteHeard := t.muteHeard + 1 }
  else b

/-- The link is GOOD or DEGRADED and MUTE is clear, or merely not LOST: what calls, bids and asks
need of the trunk (R92, R102, R106). -/
def TI.linkUp (t : TI) : Bool := !t.lost && !t.mute

/-! ### Arbitration (R127 to R129) -/

/-- The arbitration field: priority class in the upper three bits, sender bay in the lower five. -/
def arbitrationField (cls : Nat) (bay : Nat) : Byte := BitVec.ofNat 8 (cls * 32 + bay)

/-- The level of the line for one bit: dominant 0 prevails over recessive 1 (R128). -/
def lineLevel (sent : List Bool) : Bool := sent.all id

/-- The fields still driven after the bits `k - 1` to `0` of the arbitration field have been sent:
at each bit, a sender of a recessive 1 that reads a dominant 0 stops (R129). -/
def arbitrate : Nat → List Byte → List Byte
  | 0, fs => fs
  | k + 1, fs =>
    arbitrate k (fs.filter fun f => !(f.getLsbD k && !lineLevel (fs.map fun g => g.getLsbD k)))

/-- The maximum record time in microseconds: 48 bytes of ten bit times, plus a quarter (R131). -/
def maxRecordTime : Rate → Nat
  | .k250 => 480 * 4 * 5 / 4
  | .k500 => 480 * 2 * 5 / 4
  | .k1000 => 480 * 5 / 4

end Sys2Proof.Machine
end

