-- ==== Sys2Proof/Machine/Routing.lean ====
section
/-! DEFINITION. Routing and DEST-HELD (R46, R47, R153, R154). -/
namespace Sys2Proof.Machine

/-- A peer's window contains station `n`. -/
def Peer.serves (p : Peer) (n : Nat) : Bool :=
  match p.window with
  | none => false
  | some (lo, hi) => decide (lo ≤ n ∧ n ≤ hi)

/-- The owner of a station number (R153). -/
def Blocks.owner (e : Env) (b : Blocks) (n : Nat) : Option Nat :=
  if e.inWindow n then (if (b.station? n).isSome then some e.cfg.bay.val else none)
  else (List.range e.cfg.nBays).find? fun k => k != e.cfg.bay.val && (b.peer k).serves n

/-- The destination lies in this bay and is routed. -/
def Blocks.ownsStation (e : Env) (b : Blocks) (n : Nat) : Bool :=
  b.owner e n == some e.cfg.bay.val

/-- The owner found by routing is missing or ABSENT (R120, R124). -/
def Blocks.ownerGone (e : Env) (b : Blocks) (n : Nat) : Bool :=
  match b.owner e n with
  | none => true
  | some k => k != e.cfg.bay.val && (b.peer k).presence == .absent

/-- The conditions for DEST-HELD (R46). -/
def Blocks.mustHold (e : Env) (b : Blocks) (m : Move) : Bool :=
  match b.owner e m.dest with
  | none => true
  | some k =>
    if k = e.cfg.bay.val then (b.station? m.dest).any Station.offline
    else
      (b.peer k).presence == .absent || ((b.peer k).holdUntil.isSome && m.cls != .hot) ||
        (b.peer k).offline.contains m.dest

/-- Decides DEST-HELD afresh for the WAITING moves `affects` names; a move that loses it is made
known to the Dispatch Unit (R47). -/
def Blocks.reevaluate (e : Env) (affects : Move → Bool) (b : Blocks) : Blocks :=
  let hit (m : Move) : Bool := m.state == .waiting && affects m
  let b' := b.modMoves (updWhere hit fun m => { m with destHeld := b.mustHold e m })
  if b.moveList.any fun m => hit m && m.destHeld && !b.mustHold e m then b'.wantBind else b'

/-- Re-evaluates the moves whose destination is owned by bay `k` (R47, R148, R150). -/
def Blocks.reevaluateBay (e : Env) (k : Nat) (b : Blocks) : Blocks :=
  b.reevaluate e fun m => b.owner e m.dest == some k

/-- Re-evaluates the moves whose destination is a station of this bay (R39). -/
def Blocks.reevaluateOwn (e : Env) (b : Blocks) : Blocks :=
  b.reevaluate e fun m => e.inWindow m.dest

/-- Two windows overlap (R154). -/
def overlap (w : Nat × Nat) (lo hi : Nat) : Bool := decide (w.1 ≤ hi ∧ lo ≤ w.2)

/-- A peer of a lower bay holds a window that overlaps the own window (R154). -/
def Blocks.lowerOverlap (e : Env) (b : Blocks) : Bool :=
  (List.range e.cfg.bay.val).any fun k =>
    (b.peer k).window.any fun w => overlap w e.cfg.base e.cfg.limit

end Sys2Proof.Machine
end

