-- ==== Sys2Proof/Machine/Zone.lean ====
section
/-! DEFINITION. The Zone Controller's own operations: jobs, vehicle states, parking room, segment
faults, and the learning of traversal times (R3 to R24, R86 to R88). -/
namespace Sys2Proof.Machine

/-! ### Jobs (R8) -/

/-- The parking segment a vehicle's PARK job names. -/
def Vehicle.parkTarget (v : Vehicle) : Option Nat :=
  match v.job with
  | some j => match j.target with | .park p => some p | _ => none
  | none => none

/-- The entry of a vehicle to which GOTO is sent: the new job, and its echo count (R8). A job that aims
elsewhere leaves the shelf that was given to the vehicle (R36, log 79). -/
def Vehicle.commanded (job : Job) (v : Vehicle) : Vehicle :=
  { v with
    job := some job
    echo := some { reports := 0, sendings := 1 }
    jobDone := false
    given := v.given && v.job.any fun j => j.target == job.target && j.action == job.action }

/-- Sends GOTO to a roster vehicle: the job is written into its entry and the echo count starts.
A job that replaces a PARK job frees a parking place (R87). In HALTED for DUPLICATE-BAY no new GOTO
is sent and the entry keeps its job (R6, R82). -/
def Blocks.sendGoto (e : Env) (id : Nat) (job : Job) (b : Blocks) : Blocks :=
  if e.node = .haltedDuplicate then b
  else
    let parked := (b.vehicle? id).any fun v => v.parkTarget.isSome
    let b := (b.modVehicle id (Vehicle.commanded job)).emitZone (.goto id job)
    if parked then b.wantPark else b

/-- LOAD at the source of a move (R80). -/
def loadJob (source : Nat) (tag : Tag) : Job where
  target := .station source
  action := .load
  tag := some tag
  dest := none
  destBay := none

/-- UNLOAD at a station, the job naming tag and destination (R50, R54). -/
def unloadJob (station : Nat) (tag : Option Tag) (dest : Nat) : Job where
  target := .station station
  action := .unload
  tag := tag
  dest := some dest
  destBay := none

/-- The job that withdraws a LOAD or PARK job (R81, R88). -/
def passJob (segment : Nat) : Job where
  target := .segment segment
  action := .pass
  tag := none
  dest := none
  destBay := none

def exitJob (tag : Option Tag) (dest : Option Nat) (bay : Nat) : Job where
  target := .exit
  action := .none
  tag := tag
  dest := dest
  destBay := some bay

def recirculateJob (tag : Option Tag) (dest : Option Nat) (bay : Option Nat) : Job where
  target := .recirculate
  action := .none
  tag := tag
  dest := dest
  destBay := bay

def parkJob (segment : Nat) : Job where
  target := .park segment
  action := .none
  tag := none
  dest := none
  destBay := none

/-- The station a vehicle's job aims it at, for the given action. -/
def Vehicle.aim (v : Vehicle) (a : Action) : Option Nat :=
  match v.job with
  | some j => if j.action = a then (match j.target with | .station n => some n | _ => none) else none
  | none => none

/-! ### Vehicle states -/

def Blocks.setVehicleState (id : Nat) (st : RosterState) (b : Blocks) : Blocks :=
  b.modVehicle id fun v => { v with state := st }

/-- Clears a vehicle's binding; its arrival details are dropped with it (R10). -/
def Blocks.unbind (id : Nat) (b : Blocks) : Blocks :=
  b.modVehicle id fun v => { v with bound := none, arrival := none }

/-- The vehicle becomes IDLE, its idle since is set, and DU is told (R79, R86). An IDLE vehicle holds
no exit clearance (R122). -/
def Blocks.makeIdle (e : Env) (id : Nat) (b : Blocks) : Blocks :=
  (b.modVehicle id fun v =>
    { v with state := .idle, idleSince := e.now, clearance := false }).wantBind

/-- A vehicle that leaves FAULTED or SILENT becomes IDLE; a PARK job it still holds is replaced by
a PASS job on its present segment (R16, R17, R88). -/
def Blocks.idleAfterFault (e : Env) (id : Nat) (b : Blocks) : Blocks :=
  let b := b.makeIdle e id
  match b.vehicle? id with
  | none => b
  | some v => if v.parkTarget.isSome then b.sendGoto e id (passJob v.segment) else b

/-- The vehicle leaves the wait queue (R36). -/
def Blocks.leaveQueue (id : Nat) (b : Blocks) : Blocks := b.modWait fun l => l.filter fun x => x != id

/-- Releases the Bid List entries that name the vehicle; a pass and park requests follow
(R84, R86, R101). -/
def Blocks.releaseBids (p : BidEntry → Bool) (b : Blocks) : Blocks :=
  if b.du.bids.any p then
    let gone := b.du.bids.filter p
    let b := b.modBids fun l => l.filter fun x => !p x
    ((b.modRoster (updWhere (fun v => gone.any fun x => x.vehicle == v.id)
      fun v => { v with reserved := false })).wantBind).wantPark
  else b

/-- Sends a vehicle out of the zone for an award or a loan: GOTO (EXIT), TO-EXIT, exit clearance at
once (R12). -/
def Blocks.sendOut (e : Env) (id : Nat) (tag : Option Tag) (bay : Nat) (b : Blocks) : Blocks :=
  (b.modVehicle id fun v => { v with state := .toExit, bound := tag, clearance := true }).sendGoto e
    id (exitJob tag none bay)

/-! ### Parking room (R4, R19) -/

/-- The parking capacity in force: the smaller of parking and working capacity (R4). -/
def Seg.parkingInForce (g : Seg) : Nat := min g.parking g.working

/-- The vehicle takes up a parking place on `p`: PARKED there, or IDLE, FAULTED or SILENT with a
PARK job naming it (R19). -/
def Vehicle.takesPlace (p : Nat) (v : Vehicle) : Bool :=
  !v.relearn && ((v.state == .parked && v.segment == p) ||
    ((v.state == .idle || v.state == .faulted || v.state == .silent) && v.parkTarget == some p))

/-- The parking room of a segment (R19); it may be negative. -/
def Blocks.parkingRoom (b : Blocks) (p : Nat) : Int :=
  match b.seg? p with
  | none => 0
  | some g => (g.parkingInForce : Int) - (b.vehicles.countP (Vehicle.takesPlace p) : Nat)

/-! ### Segments: successor and grants (R3, R5) -/

/-- The successor of a vehicle's segment (R3). -/
def Env.successor (e : Env) (v : Vehicle) : Option Nat :=
  if v.segment = 0 then some 1
  else if v.segment < e.cfg.loopLen then some (v.segment + 1)
  else if v.segment = e.cfg.loopLen then
    some (if v.job.any fun j => j.target == .exit then e.exitSeg else 1)
  else none

/-- The vehicle's job is the LOAD of the move it is bound to. In HALTED a TO-SOURCE vehicle may hold
another (R82). -/
def Vehicle.holdsLoad (v : Vehicle) : Bool :=
  v.job.any fun j => j.action == .load && j.tag == v.bound

/-- The job's target is a station or a parking place on the vehicle's present segment, and the job's
action there is not complete (R5). A PARK job is taken as never complete: it stops its vehicle on the
parking segment although it was echoed as DONE, before the vehicle is PARKED (DESIGN CHOICE, log 69). -/
def Blocks.jobStops (b : Blocks) (v : Vehicle) : Bool :=
  v.job.any fun j =>
    match j.target with
    | .park p => p == v.segment
    | .station n => !v.jobDone && (b.station? n).any fun s => s.segment == v.segment
    | _ => false

/-- A check hold keeps the vehicle at the source: its move is SUSPENDED under it (R51). -/
def Blocks.checkHeld (b : Blocks) (v : Vehicle) : Bool :=
  (v.bound.bind b.move?).any fun m => m.state == .suspended && m.checkHold

/-- A vehicle's job stops it on its present segment and its action there is not complete; a PARKED
vehicle stands, and a check hold keeps its vehicle where it is (R5, R19, R51). A TO-SOURCE vehicle
that holds no LOAD of its move keeps circulating (R82, log 57). -/
def Blocks.stopsHere (b : Blocks) (v : Vehicle) : Bool :=
  match v.state with
  | .parked => true
  | .loading => b.checkHeld v || b.jobStops v
  | .toSource => v.holdsLoad && b.jobStops v
  | _ => b.jobStops v

/-- ZC considers the vehicle for a grant (R5). -/
def Blocks.grantable (b : Blocks) (v : Vehicle) : Bool :=
  v.grant.isNone && v.state != .silent && v.state != .faulted && !v.relearn && !b.stopsHere v

/-- Room for one more vehicle in segment `n` (R5). -/
def Blocks.segRoom (b : Blocks) (n : Nat) : Bool :=
  decide (b.occupancy n + b.grantedIn n < b.working n)

/-! ### Learning traversal times (R22 to R24) -/

/-- The start markers of a segment (R3). -/
def Env.startMarkers (e : Env) (s : Nat) : List Marker :=
  if s = 0 then [.divert]
  else if s = 1 then [.segEnd 0, .segEnd e.cfg.loopLen]
  else [.segEnd (s - 1)]

/-- The marker an at-marker flag names: the start marker of the reported place (R7); for segment 1
it depends on the segment the vehicle comes from (R3, log 18). -/
def Env.markerOf (e : Env) (from_ : Nat) : Place → Marker
  | .divert => .divert
  | .merged => .segEnd e.exitSeg
  | .segment 0 => .divert
  | .segment 1 => if from_ = 0 then .segEnd 0 else .segEnd e.cfg.loopLen
  | .segment s => .segEnd (s - 1)

/-- The update of a learned time by a measurement in ms (R23), and whether it was clamped from
above. -/
def learn (t ms : Nat) : Nat × Bool :=
  let me := ms * 2 / 25
  let lo := max 8 (t / 4)
  let hi := min (4 * t) 32760
  let c := if me < lo then lo else if hi < me then hi else me
  (if t ≤ c then t + (c - t) / 8 else t - (t - c) / 8, decide (hi < me))

/-- A segment fault raises the segment's fault count, up to 3 (R7, R24). -/
def Seg.countFault (g : Seg) : Seg := { g with faults := min (g.faults + 1) 3 }

/-- An admitted segment fault lowers the working capacity by one, not below 1, and sets DEGRADED at
the first reduction (R164). -/
def Seg.reduce (g : Seg) : Seg :=
  if 1 < g.working then { g with working := g.working - 1, degraded := true } else g

/-- An admitted segment fault of segment `s`: FU sets the SEGMENT flag and lowers the capacity
(R159, R164, R165). -/
def Blocks.segmentFault (s : Nat) (b : Blocks) : Blocks := (b.setFlag .segment).modSeg s Seg.reduce

/-- Applies one measurement to segment `s` (R23, R24). -/
def Blocks.measure (s ms : Nat) (b : Blocks) : Blocks :=
  let b := b.bump .measured
  match b.seg? s with
  | none => b
  | some g =>
    let (t, upper) := learn g.t ms
    let b := b.modSeg s fun g => { g with t := t }
    if upper then
      if 2 ≤ g.clampRun then
        (b.modSeg s fun g => ({ g with clampRun := 0 }).countFault).segmentFault s
      else b.modSeg s fun g => { g with clampRun := g.clampRun + 1 }
    else b.modSeg s fun g => { g with clampRun := 0 }

/-- The segment a marker ends. -/
def Marker.ends : Marker → Option Nat
  | .divert => none
  | .segEnd s => some s

/-- Takes a capture at marker `m` for a vehicle whose previous capture is `prev`, and makes or
discards a measurement (R22). -/
def Blocks.capture (e : Env) (id : Nat) (prev : Option Capture) (m : Marker) (b : Blocks) : Blocks :=
  let b := match m.ends, prev with
    | some s, some c =>
      if (e.startMarkers s).contains c.marker then
        if c.stopped then
          ({ b with zc := { b.zc with
              discarded := b.zc.discarded.modify s fun n => sat32 (n + 1) } }).bump .discarded
        else b.measure s (since e.now c.time).toNat
      else b
    | _, _ => b
  b.modVehicle id fun v =>
    { v with capture := some { marker := m, time := e.now, stopped := false } }

end Sys2Proof.Machine
end

