-- ==== Sys2Proof/Machine/Stations.lean ====
section
/-! DEFINITION. The Station Interface's own operations: reservations, the delivery decision, the
shelf choice, the wait queue and the offers of a freed station (R31 to R38). -/
namespace Sys2Proof.Machine

/-- An EMPTY port or a FREE shelf (R32). -/
def Station.open (s : Station) : Bool := s.state == .empty || s.state == .free

/-- Shelves whose final destination is port `n` lose follow-on due: the port has left EMPTY or is
reserved (R37). -/
def Blocks.clearDue (n : Nat) (b : Blocks) : Blocks :=
  b.modStations (updWhere (fun s => s.finalDest == some n) fun s => { s with followOnDue := false })

/-- Sets a reservation for a delivery whose job carries a tag; a delivery without a tag holds none
(R33, log 22). -/
def Blocks.setReservation (n : Nat) (tag : Option Tag) (b : Blocks) : Blocks :=
  match tag with
  | none => b
  | some t => (b.modStation n fun s => { s with reservation := some t }).clearDue n

/-- A request for a reservation: granted for an open station without one, else without effect
(R32). -/
def Blocks.reserve (n : Nat) (tag : Tag) (b : Blocks) : Blocks :=
  if (b.station? n).any fun s => s.open && s.reservation.isNone then b.setReservation n (some tag)
  else b

/-- The vehicle is aimed at `n` for an unload and becomes LOADED; the rest of its job stands
(R34, R36). -/
def Blocks.aimAt (e : Env) (id n : Nat) (j : Job) (b : Blocks) : Blocks :=
  (b.sendGoto e id { j with target := .station n, action := .unload }).setVehicleState id .loaded

/-- Gives a station to a waiting vehicle (R36). A shelf given in this way counts as turned aside, were it
the delivery's own destination (log 79). -/
def Blocks.giveStation (e : Env) (id n : Nat) (j : Job) (b : Blocks) : Blocks :=
  (((b.leaveQueue id).setReservation n j.tag).aimAt e id n j).modVehicle id fun v =>
    { v with given := (b.station? n).any fun s => s.kind == .shelf }

/-- The oldest waiting vehicle whose job satisfies `p`, with its job (R36). One whose entry is marked RELEARN keeps
its place in the queue and is passed over until it is rebuilt (DESIGN CHOICE, log 104). -/
def Blocks.oldestWaiter (b : Blocks) (p : Job → Bool) : Option (Nat × Job) :=
  b.si.waitQueue.findSome? fun id =>
    match b.vehicle? id with
    | none => none
    | some v => if v.state = .loadedWait ∧ !v.relearn then
        (v.job.filter p).map fun j => (id, j) else none

/-- Offers a FREE shelf without active-source tag and reservation to the wait queue (R36). -/
def Blocks.offerShelf (e : Env) (n : Nat) (b : Blocks) : Blocks :=
  match b.station? n with
  | none => b
  | some s =>
    if s.state = .free ∧ s.active = none ∧ s.reservation = none then
      match b.oldestWaiter fun _ => true with
      | some (id, j) => b.giveStation e id n j
      | none => b
    else b

/-- The HOLDING shelf, without active-source tag, whose carrier has waited longest for port `n` (R37); of
two with the same holding since, the one of the lower table index (DESIGN CHOICE, log 63). -/
def Blocks.oldestShelfFor (b : Blocks) (n : Nat) : Option Station :=
  firstBy (fun x y => match x.holdingSince, y.holdingSince with
      | some s, some t => earlier s t
      | _, _ => false)
    (b.stationList.filter fun s =>
      s.state == .holding && s.finalDest == some n && s.active.isNone)

/-- Offers an EMPTY, unreserved port to the waiting vehicles bound for it, and then to the shelves
holding carriers for it; the follow-on asks run before the command ends (R28, R36, R37). -/
def Blocks.offerPort (e : Env) (n : Nat) (b : Blocks) : Blocks :=
  match b.station? n with
  | none => b
  | some s =>
    if s.state = .empty ∧ s.reservation = none then
      match b.oldestWaiter fun j => j.dest == some n with
      | some (id, j) => b.giveStation e id n j
      | none =>
        match b.oldestShelfFor n with
        | some sh => (b.modStation sh.number fun x => { x with followOnDue := true }).wantFollow
        | none => b.wantFollow
    else b

/-- Drops the reservation of a station without an unload; a shelf this leaves open is offered to
the wait queue (R32, R36). -/
def Blocks.dropReservation (e : Env) (n : Nat) (b : Blocks) : Blocks :=
  (b.modStation n fun s => { s with reservation := none }).offerShelf e n

/-- The stations a delivery is reserved at. -/
def Blocks.reservedFor (b : Blocks) (tag : Tag) : List Nat :=
  (b.stationList.filter fun s => s.reservation == some tag).map Station.number

/-- The delivery has ended without an unload: every reservation for it is dropped (R32). -/
def Blocks.dropDelivery (e : Env) (tag : Tag) (b : Blocks) : Blocks :=
  (b.reservedFor tag).foldl (fun b n => b.dropReservation e n) b

/-- Clears the active-source tag of a move; an occasion for follow-on asks (R31, R37). -/
def Blocks.clearActive (tag : Tag) (b : Blocks) : Blocks :=
  (b.modStations (updWhere (fun s => s.active == some tag) fun s =>
    { s with active := none })).wantFollow

def Blocks.setActive (n : Nat) (tag : Tag) (b : Blocks) : Blocks :=
  b.modStation n fun s => { s with active := some tag }

/-! ### The delivery decision (R33 to R35) -/

/-- The shelf for a turned-aside delivery: FREE, unreserved, without active-source tag, of least
E, then of the lower table index (R34, log 35). -/
def Blocks.chooseShelf (e : Env) (v : Vehicle) (b : Blocks) : Option Nat :=
  (firstBy leastFirst ((b.stationList.filter fun s =>
      s.state == .free && s.reservation.isNone && s.active.isNone).filterMap fun s =>
    (b.estimateOf e v (.seg s.segment)).map fun n => (n, s.number))).map Prod.snd

/-- The vehicle becomes LOADED-WAIT with the job (segment `seg`, PASS) and joins the wait queue
(R34). -/
def Blocks.toWait (e : Env) (id seg : Nat) (j : Job) (b : Blocks) : Blocks :=
  (((b.leaveQueue id).sendGoto e id { j with target := .segment seg, action := .pass }
    ).setVehicleState id .loadedWait).modWait fun l => l ++ [id]

/-- Sends a loaded vehicle to a shelf, or to wait when no shelf qualifies (R34, R124). -/
def Blocks.toShelf (e : Env) (v : Vehicle) (seg : Nat) (j : Job) (b : Blocks) : Blocks :=
  match b.chooseShelf e v with
  | some n => (b.setReservation n j.tag).aimAt e v.id n j
  | none => b.toWait e v.id seg j

/-- The target station stands open to this delivery (R33). -/
def Station.takes (s : Station) (tag : Option Tag) : Bool :=
  let mine (o : Option Tag) : Bool := o.isNone || (tag.isSome && o == tag)
  s.open && mine s.reservation && (s.kind == .port || mine s.active)

/-- The delivery decision for a LOADED vehicle that approaches its target (R33). For a target that is no
configured station, as an orphan may have it, R33 has no row and none is made: the vehicle circulates with
its UNLOAD job (DESIGN CHOICE, log 70). -/
def Blocks.decideDelivery (e : Env) (id : Nat) (b : Blocks) : Blocks :=
  match b.vehicle? id with
  | none => b
  | some v =>
    match v.job, v.aim .unload with
    | some j, some n =>
      match b.station? n with
      | none => b
      | some s =>
        if v.state != .loaded || v.relearn then b
        else if s.takes j.tag then b.setReservation n j.tag
        else
          let b := if j.tag.isSome ∧ s.reservation = j.tag then b.dropReservation e n else b
          b.toShelf e v s.segment j
    | _, _ => b

/-- The decision at once when the vehicle is already on the segment of its target (R14). A vehicle that
becomes LOADED, or is given this target, while it already holds a grant into that segment is not decided: R14
names the moment of the grant and the standing there alone (DESIGN CHOICE, log 88). -/
def Blocks.decideIfThere (e : Env) (id : Nat) (b : Blocks) : Blocks :=
  match b.vehicle? id with
  | none => b
  | some v =>
    if (v.aim .unload).any fun n => (b.station? n).any fun s => s.segment == v.segment then
      b.decideDelivery e id
    else b

/-- Sends a loaded vehicle to unload at a station (R50, R54, R114, R123). -/
def Blocks.sendUnload (e : Env) (id n : Nat) (tag : Option Tag) (dest : Nat) (b : Blocks) : Blocks :=
  ((b.sendGoto e id (unloadJob n tag dest)).setVehicleState id .loaded).decideIfThere e id

/-- The vehicle makes the delivery `tag` to station `n`, has not yet reported hoist LOWERING there, and is on
the station's segment `seg` or has been granted entry to it (R35). Of one whose entry is marked RELEARN nothing
is known, and its rebuilding decides it (R18). -/
def Vehicle.redecides (n seg : Nat) (tag : Tag) (v : Vehicle) : Bool :=
  v.state == .loaded && !v.relearn && v.aim .unload == some n && (v.job.any fun j => j.tag == some tag) &&
    (v.segment == seg || v.grant == some seg)

/-- A reservation dropped by a station report sends its delivery back to the decision, at once when its vehicle
is near the station (R35). Should several vehicles there carry the delivery's tag, an orphan among them, each is
decided, in roster-index order (DESIGN CHOICE, log 98). -/
def Blocks.redecide (e : Env) (n seg : Nat) (tag : Tag) (b : Blocks) : Blocks :=
  (b.vehicles.filter (Vehicle.redecides n seg tag)).foldl (fun b v => b.decideDelivery e v.id) b

/-- A vehicle is unloading onto station `n` (R29). One whose entry is marked RELEARN, its state unknown, does not
count (DESIGN CHOICE, log 96). -/
def Blocks.unloadingAt (b : Blocks) (n : Nat) : Bool :=
  b.vehicles.any fun v => v.state == .unloading && !v.relearn && v.aim .unload == some n

/-- A vehicle is loading from station `n` (R29), RELEARN as for an unload (DESIGN CHOICE, log 96). -/
def Blocks.loadingAt (b : Blocks) (n : Nat) : Bool :=
  b.vehicles.any fun v => v.state == .loading && !v.relearn && v.aim .load == some n

/-! ### Contents of a shelf -/

/-- The fields of a held carrier cleared (R29, R30). -/
def Station.emptied (s : Station) : Station :=
  { s with
    carrierId := none
    finalDest := none
    heldClass := none
    holdingSince := none
    followOnDue := false
    hoistFailures := 0 }

/-- A DISABLED shelf returns to FREE (R29, R174). -/
def Station.freed (s : Station) : Station := { s.emptied with state := .free, disablePending := false }

end Sys2Proof.Machine
end

