-- ==== Sys2Proof/Machine/Moves.lean ====
section
/-! DEFINITION. The Move Manager's own operations: acceptance, entry into WAITING, binding and
release, freeing, and the end of a call (R40 to R63, R80, R81, R89, R99). -/
namespace Sys2Proof.Machine

/-! ### Calls that end (R90, R99) -/

/-- Removes the calls of a move, which releases their places; an occasion for a call pass (R90). -/
def Blocks.removeCall (tag : Tag) (b : Blocks) : Blocks :=
  (b.modCalls fun l => l.filter fun c => c.tag != tag).wantCall

/-- Ends a call early: the entry is removed, CANCEL is broadcast, the counter rises (R99). -/
def Blocks.endCall (e : Env) (tag : Tag) (b : Blocks) : Blocks :=
  match b.du.calls.find? fun c => c.tag == tag with
  | none => b
  | some c => ((b.removeCall tag).toAll e (.cancel c.id)).bump .callsCancelled

/-! ### Entry into WAITING (R46, R48) -/

/-- The move enters WAITING: call id and assigned vehicle are cleared, DEST-HELD is decided, and a
move that is not held is made known to DU. `again` raises the retry count (R48). -/
def Blocks.enterWaiting (e : Env) (tag : Tag) (again : Bool) (b : Blocks) : Blocks :=
  let b' := b.modMove tag fun m =>
    { m with
      state := .waiting
      callId := none
      vehicle := none
      wait := none
      checkHold := false
      destHeld := b.mustHold e m
      retry := if again then min (m.retry + 1) 255 else m.retry }
  if (b.move? tag).any fun m => !b.mustHold e m then b'.wantBind else b'

/-! ### Acceptance (R41, R43 to R45) -/

/-- The checks of acceptance, in order; the first that fails gives the refusal (R43). -/
def Blocks.checkMove (e : Env) (b : Blocks) (source dest : Nat) : Option RefusalCode :=
  if e.node ≠ .ready then some .notReady
  else
    match b.station? source with
    | none => some .unknownSource
    | some s =>
      if s.state ≠ .occupied ∧ s.state ≠ .holding then some .sourceEmpty
      else if s.active.isSome then some .duplicate
      else if b.owner e dest = none ∨ dest = source then some .noRoute
      else if freeCount b.mm.moves = 0 then some .tableFull
      else none

/-- The class default of the deadline (R44). -/
def classDeadline (c : Cfg) : MoveClass → Nat
  | .hot => c.deadlineHot
  | .express => c.deadlineExpress
  | .normal => c.deadlineNormal
  | .ret => c.deadlineReturn

/-- An override outside 10..4095 s is raised or lowered to it (R44). -/
def clampDeadline (d : Nat) : Nat := if d < 10 then 10 else if 4095 < d then 4095 else d

/-- The sequence number the next move takes (R41). -/
def Blocks.nextSeq (b : Blocks) : Id8 :=
  nextFree (fun x => b.moveList.any fun m => m.tag.seq == x) b.mm.seqCounter 64

/-- The record a move is accepted with (R44). Its last hoist is IDLE: R44 gives none, and no hoist state
has been passed for the move yet (DESIGN CHOICE, log 65). -/
def Blocks.newMove (e : Env) (b : Blocks) (source dest : Nat) (cls : MoveClass)
    (carrier : Option CarrierId) (deadline : Option Nat) : Move :=
  let held := (b.station? source).bind Station.carrierId
  { tag := { home := e.cfg.bay.val, seq := b.nextSeq }
    source := source
    dest := dest
    cls := cls
    carrierId := match carrier with
      | some c => some c
      | none => held
    acceptedAt := e.now
    deadline := match deadline with
      | some d => clampDeadline d
      | none => classDeadline e.cfg cls
    state := .waiting
    destHeld := false
    vehicle := none
    callId := none
    consignId := none
    consignee := none
    endMethod := none
    retry := 0
    shelfSourced := (b.station? source).any fun s => s.kind == .shelf
    poisoned := false
    checkHold := false
    lastHoist := .idle
    recallAt := none
    wait := none
    cleared := false }

/-- Accepts a move that passed the checks: it fills the lowest-indexed FREE record, its source takes
its tag, and DU is told when it is not held (R41, R44). -/
def Blocks.acceptMove (e : Env) (m : Move) (b : Blocks) : Blocks :=
  let b := { b with mm := { b.mm with
    moves := putFree { m with destHeld := b.mustHold e m } b.mm.moves
    seqCounter := m.tag.seq + 1 } }
  let b := (b.setActive m.source m.tag).bump (.accepted m.cls)
  if b.mustHold e m then b else b.wantBind

/-! ### Binding and release (R42, R48, R80, R81) -/

/-- Takes a bind request: the move becomes BOUND, the vehicle TO-SOURCE with its LOAD job, and a
call of the move ends (R80). -/
def Blocks.bind (e : Env) (m : Move) (id : Nat) (b : Blocks) : Blocks :=
  let b := b.modMove m.tag fun x =>
    { x with state := .bound, vehicle := some id, callId := none }
  let b := b.modVehicle id fun v => { v with bound := some m.tag, state := .toSource }
  let b := b.sendGoto e id (loadJob m.source m.tag)
  b.endCall e m.tag

/-- An Inbound entry EMPTY-FOR-MOVE for a move that no longer wants it becomes a LOAN entry in its
place (R98). -/
def Blocks.inboundToLoan (tag : Tag) (b : Blocks) : Blocks :=
  b.modInbound fun l => l.map fun i =>
    if i.kind = .emptyForMove ∧ i.tag = some tag then { i with kind := .loan, tag := none } else i

/-- A vehicle that holds a carrier of no move is left for the floor: FAULTED and unbound (R16). A
SILENT vehicle stays SILENT. -/
def Blocks.holdForFloor (id : Nat) (b : Blocks) : Blocks :=
  (b.leaveQueue id).modVehicle id fun v =>
    { v with state := if v.state = .silent then .silent else .faulted, clearance := false }

/-- Releases a roster vehicle bound to the move (R56 step 3, R81, log 41). -/
def Blocks.releaseVehicle (e : Env) (tag : Tag) (id : Nat) (b : Blocks) : Blocks :=
  match b.vehicle? id with
  | none => b
  | some v =>
    if v.bound ≠ some tag then b
    else
      let b := b.unbind id
      if v.relearn then b
      else if v.carrier then b.holdForFloor id
      else
        match v.state with
        | .faulted => b
        | .silent => b
        | .entering => (b.makeIdle e id).wantPass id
        | .toSource => (b.makeIdle e id).wantPass id
        | _ => (b.leaveQueue id).makeIdle e id

/-! ### Freeing (R55, R56) -/

/-- The completion-time bin for an age in whole seconds (R56). -/
def ageBin (s : Nat) : Nat :=
  if s < 60 then 0 else if s < 180 then 1 else if s < 600 then 2 else if s < 1800 then 3 else 4

/-- The counters of a freed move (R56, R58, R60, R61). -/
def Blocks.countFreed (e : Env) (m : Move) (o : MoveOutcome) (b : Blocks) : Blocks :=
  match o with
  | .delivered => (b.bump (.completed m.cls)).bump
      (.bin m.cls (ageBin ((since e.now m.acceptedAt).toNat / 1000)))
  | .deliveredToShelf => (b.bump (.completed m.cls)).bump
      (.bin m.cls (ageBin ((since e.now m.acceptedAt).toNat / 1000)))
  | .cancelled => b.bump .cancelled
  | .sourceGone => b.bump .sourceGone
  | .returned => b.bump .returned
  | .removed => b.bump .removed

/-- Frees a move, in the order of R56. -/
def Blocks.freeMove (e : Env) (tag : Tag) (o : MoveOutcome) (b : Blocks) : Blocks :=
  match b.move? tag with
  | none => b
  | some m =>
    let b := (b.clearActive tag).dropDelivery e tag
    let b := match m.vehicle with
      | some id => b.releaseVehicle e tag id
      | none => b
    let b := (b.endCall e tag).inboundToLoan tag
    let b := b.modMoves (freeWhere fun x => x.tag == tag)
    (b.emitStation (.moveDone tag o)).countFreed e m o

/-- The source of a move has gone (R60). -/
def Blocks.sourceGone (e : Env) (tag : Tag) (b : Blocks) : Blocks :=
  match b.move? tag with
  | none => b
  | some m =>
    match m.state with
    | .waiting => b.freeMove e tag .sourceGone
    | .calling => b.freeMove e tag .sourceGone
    | .awarded => b.freeMove e tag .sourceGone
    | .bound => b.freeMove e tag .sourceGone
    | _ => b

/-- A carrier is left for the floor on a shelf that has become DISABLED (R38). -/
def Blocks.leftForFloor (e : Env) (n : Nat) (b : Blocks) : Blocks :=
  let active := (b.station? n).bind Station.active
  let b := b.modStation n fun s =>
    { s with
      state := .disabled
      reservation := none
      followOnDue := false
      disablePending := false }
  match active with
  | some tag => b.sourceGone e tag
  | none => b

/-! ### The follow-on move (R37, R45) -/

/-- The shelves with follow-on due whose port is EMPTY and unreserved, oldest first (R37); of two with the
same holding since, the one of the lower table index (DESIGN CHOICE, log 63). -/
def Blocks.dueShelves (b : Blocks) : List Station :=
  sortBy (fun x y => match x.holdingSince, y.holdingSince with
      | some s, some t => earlier s t
      | _, _ => false)
    (b.stationList.filter fun s => s.followOnDue && s.state == .holding && s.active.isNone &&
      s.finalDest.any fun n =>
        (b.station? n).any fun p => p.state == .empty && p.reservation.isNone)

/-- Asks for the follow-on of one shelf, if its port is still EMPTY and unreserved (R37, R45). -/
def Blocks.askFollowOn (e : Env) (n : Nat) (b : Blocks) : Blocks :=
  match b.dueShelves.find? fun s => s.number == n with
  | none => b
  | some s =>
    match s.finalDest with
    | none => b
    | some port =>
      if (b.checkMove e n port).isSome then b
      else
        let m := b.newMove e n port (s.heldClass.getD .normal) s.carrierId none
        let b := b.acceptMove e m
        (b.modStation n fun x => { x with followOnDue := false }).reserve port m.tag

/-- Asks again for every shelf with follow-on due, oldest first (R37). -/
def Blocks.askFollowOns (e : Env) (b : Blocks) : Blocks :=
  (b.dueShelves.map Station.number).foldl (fun b n => b.askFollowOn e n) b

end Sys2Proof.Machine
end

