-- ==== Sys2Proof/Machine/Consign.lean ====
section
/-! DEFINITION. Consignment from the home bay, the return round the main loop, the absent owner,
resumption, and the removal of an Inbound entry (R52, R54, R112, R120 to R126). -/
namespace Sys2Proof.Machine

/-- Sends DONE to the home bay of a tag (R126). A tag whose home bay is above 31 names no addressee that a
record may bear (R127), and no DONE is sent for it (DESIGN CHOICE, log 67). -/
def Blocks.sendDone (e : Env) (tag : Tag) (vehicle : Nat) (o : DoneOutcome) (b : Blocks) : Blocks :=
  if 31 < tag.home then b else b.toBay e tag.home (.done tag vehicle o)

/-- The CONSIGN of a move stands in the Transmit Queue (R120). -/
def Blocks.consignQueued (b : Blocks) (tag : Tag) : Bool :=
  b.ti.holds fun r => match r.body with
    | .consign _ _ t _ _ _ _ => t == tag
    | _ => false

/-- The consign id the next consignment draws (R120). -/
def Blocks.nextConsign (b : Blocks) : Id8 :=
  nextFree (fun x => b.moveList.any fun m => m.consignId == some x) b.mm.consignCounter 64

/-- The consignment wait ends without a TAKEN (R121 to R124). A wait that a TAKEN had ended before is ended
already. -/
def Move.endWait (m : Move) : Move := { m with wait := none, cleared := m.cleared && m.wait.isNone }

/-- The vehicle leaves round the main loop and the node will consign its carrier to itself (R123). In HALTED
for DUPLICATE-BAY no RECIRCULATE can be sent (R6), and the vehicle stays at the end of the exit spur, without
clearance, until a restart (R120, log 75). -/
def Blocks.sendRound (e : Env) (m : Move) (id : Nat) (b : Blocks) : Blocks :=
  let b := b.modMove m.tag Move.endWait
  let b := b.modVehicle id fun v => { v with state := .toExit, clearance := !e.node.halted }
  b.sendGoto e id (recirculateJob (some m.tag) (some m.dest) (some e.cfg.bay.val))

/-- The move's vehicle is given to a shelf of this bay, or goes round the loop from the exit spur,
because its destination has no owner that could take it (R124, log 37). A vehicle marked RELEARN is
turned when its entry is rebuilt, by `Blocks.takeUp` (log 28); its consignment wait ends at once. -/
def Blocks.ownerAbsent (e : Env) (tag : Tag) (b : Blocks) : Blocks :=
  match b.move? tag with
  | none => b
  | some m =>
    match m.vehicle.bind b.vehicle? with
    | none => b.modMove tag Move.endWait
    | some v =>
      if v.relearn then b.modMove tag Move.endWait
      else if v.segment = e.exitSeg then b.sendRound e m v.id
      else
        let b := b.modMove tag Move.endWait
        let b := b.modVehicle v.id fun x => { x with clearance := false }
        let seg := ((b.station? m.source).map Station.segment).getD v.segment
        (b.toShelf e v seg (unloadJob m.source (some tag) m.dest)).decideIfThere e v.id

/-- The vehicle of a move is FAULTED: what it is to be told waits until it leaves that state (R16). -/
def Blocks.carrierFaulted (b : Blocks) (m : Move) : Bool :=
  (m.vehicle.bind b.vehicle?).any fun v => v.state == .faulted

/-- The owner of a move's destination is gone when its vehicle was waiting for an answer (R121, R124): the
consignment wait ends, and the carrier is turned. A FAULTED vehicle is turned when it recovers, and one marked
RELEARN when its entry is rebuilt, by `Blocks.takeUp` (log 28). -/
def Blocks.ownerLost (e : Env) (m : Move) (b : Blocks) : Blocks :=
  if b.carrierFaulted m then b.modMove m.tag Move.endWait
  else b.ownerAbsent e m.tag

/-- Sends CONSIGN for a move and starts its consignment wait (R120). `fresh` draws a new consign
id; otherwise one is drawn only when the record holds none. In HALTED nothing is done, whatever the owner: a
wait whose RETRY deadline passes there keeps that phase and its run-out deadline (R120, R121; DESIGN CHOICE,
log 92). -/
def Blocks.consignSend (e : Env) (tag : Tag) (fresh : Bool) (b : Blocks) : Blocks :=
  if e.node.halted then b
  else
    match b.move? tag with
    | none => b
    | some m =>
      match b.owner e m.dest, m.vehicle.bind b.vehicle? with
      | some k, some v =>
        if b.ownerGone e m.dest then b.ownerLost e m
        else
          let drawn := fresh || m.consignId.isNone
          let id := if drawn then b.nextConsign else m.consignId.getD 0
          let b := if drawn then { b with mm := { b.mm with consignCounter := id + 1 } } else b
          let queued := b.consignQueued tag
          let b := b.modMove tag fun x =>
            { x with
              consignId := some id
              wait := some { retry := false, deadline := after e.now (e.cfg.wAccept * 100) } }
          if queued then b
          else (b.toBay e k (.consign id v.id tag m.dest m.cls m.carrierId (b.exitEta e v))).bump
            .consignSent
      | _, _ => b.ownerLost e m

/-- Sends a loaded vehicle out for another bay: GOTO (EXIT), TO-EXIT without clearance, CONSIGN
(R50, R54, R123). Without an owner it acts under R124. -/
def Blocks.sendExit (e : Env) (m : Move) (id : Nat) (fresh : Bool) (b : Blocks) : Blocks :=
  match b.owner e m.dest with
  | none => b.ownerAbsent e m.tag
  | some k =>
    let b := b.modMove m.tag fun x => { x with cleared := false }
    let b := b.modVehicle id fun v => { v with state := .toExit, clearance := false }
    let b := b.sendGoto e id (exitJob (some m.tag) (some m.dest) k)
    b.consignSend e m.tag fresh

/-- Sends a move's vehicle to unload at a station of this bay, from the exit spur round the loop
(R52, R123). A vehicle marked RELEARN is sent when its entry is rebuilt, by `Blocks.takeUp` (log 28). -/
def Blocks.deliverHere (e : Env) (m : Move) (id target : Nat) (b : Blocks) : Blocks :=
  if (b.vehicle? id).any Vehicle.relearn then b
  else if (b.vehicle? id).any fun v => v.segment == e.exitSeg then b.sendRound e m id
  else (b.modVehicle id fun v => { v with clearance := false }).sendUnload e id target
    (some m.tag) m.dest

/-- The record of a move that is returned: its destination is its source, and it is CARRYING (R52). -/
def Move.returned (m : Move) : Move :=
  { m with dest := m.source, state := .carrying, checkHold := false, wait := none }

/-- The move is returned: its destination becomes its source (R52). -/
def Blocks.returnMove (e : Env) (tag : Tag) (b : Blocks) : Blocks :=
  match b.move? tag with
  | none => b
  | some m =>
    let m' := m.returned
    let b := (b.modMove tag fun _ => m').reserve m.source tag
    match m.vehicle with
    | some id => b.deliverHere e m' id m.source
    | none => b

/-- Sends a loaded vehicle with a move of this table on by its destination (R54, R123). -/
def Blocks.sendOnward (e : Env) (m : Move) (id : Nat) (b : Blocks) : Blocks :=
  if b.ownsStation e m.dest then b.deliverHere e m id m.dest else b.sendExit e m id false

/-- What the vehicle's job at suspension says of a delivery to `dest` (R54): the target of an
UNLOAD job, or the segment of the PASS job of a vehicle that became FAULTED in LOADED-WAIT
(log 43). -/
inductive Resumption | unload (n : Nat) | wait (seg : Nat) | other
deriving DecidableEq, Repr

def Vehicle.resumption (v : Vehicle) (dest : Nat) : Resumption :=
  match v.job with
  | none => .other
  | some j =>
    if j.dest = some dest then
      match j.target, j.action with
      | .station n, .unload => .unload n
      | .segment s, .pass => if v.phase = .loadedWait then .wait s else .other
      | _, _ => .other
    else .other

/-- The vehicle becomes LOADED-WAIT again with the job it holds (R54). -/
def Blocks.waitAgain (id : Nat) (b : Blocks) : Blocks :=
  ((b.leaveQueue id).setVehicleState id .loadedWait).modWait fun l => l ++ [id]

/-- A SUSPENDED move without check hold resumes with its vehicle (R54). -/
def Blocks.resumeMove (e : Env) (tag : Tag) (b : Blocks) : Blocks :=
  match b.move? tag with
  | none => b
  | some m =>
    match m.vehicle.bind b.vehicle? with
    | none => b
    | some v =>
      if m.state ≠ .suspended ∨ m.checkHold ∨ v.bound ≠ some tag then b
      else
        let b := b.modMove tag fun x => { x with state := .carrying }
        if b.ownsStation e m.dest then
          match v.resumption m.dest with
          | .unload n => b.deliverHere e m v.id n
          | .wait _ => b.waitAgain v.id
          | .other => if m.dest = m.source then b.returnMove e tag
              else b.deliverHere e m v.id m.dest
        else b.sendExit e m v.id false

/-- A recovered vehicle bound to a tag of another home bay goes on to its delivery target, or out of the
zone when it was on its way there (R16, R126). One that had set its carrier down, and reports none, is sent to
unload again all the same (DESIGN CHOICE, log 86). -/
def Blocks.resumeForeign (e : Env) (v : Vehicle) (b : Blocks) : Blocks :=
  if v.phase = .toExit then b.setVehicleState v.id .toExit
  else
    match v.job.bind Job.dest <|> v.arrival.bind Arrival.dest with
    | none => b
    | some dest =>
      match v.resumption dest with
      | .unload n => b.sendUnload e v.id n v.bound dest
      | .wait _ => b.waitAgain v.id
      | .other => b.sendUnload e v.id dest v.bound dest

/-- A move whose carrier is lost: STRANDED with LOST, its vehicle released, its reservations dropped
(R53, R54). -/
def Blocks.strand (e : Env) (tag : Tag) (b : Blocks) : Blocks :=
  match b.move? tag with
  | none => b
  | some m =>
    let b := b.modMove tag fun x =>
      { x with
        state := .stranded
        endMethod := some .lost
        vehicle := none
        callId := none
        wait := none
        checkHold := false }
    let b := b.dropDelivery e tag
    match m.vehicle.bind b.vehicle? with
    | none => b
    | some v =>
      if v.bound ≠ some tag then b
      else
        let b := b.unbind v.id
        if v.carrier ∧ !v.relearn then b.holdForFloor v.id else b

/-- The effects of an Inbound entry's removal as MISSING, by its kind (R112). -/
def Blocks.missingEffects (e : Env) (i : Inbound) (b : Blocks) : Blocks :=
  match i.kind, i.tag with
  | .emptyForMove, some tag =>
    if (b.move? tag).any fun m => m.state == .bound && m.vehicle == some i.vehicle then
      b.enterWaiting e tag true
    else b
  | .loaded, some tag =>
    if i.source = e.cfg.bay.val then
      let b := b.dropDelivery e tag
      if (b.move? tag).any fun m => m.state == .consigned then b.strand e tag else b
    else (b.toBay e i.source (.done tag i.vehicle .missing)).dropDelivery e tag
  | _, _ => b

/-- Removes a vehicle's Inbound entry without its vehicle being admitted (R112). -/
def Blocks.removeInbound (e : Env) (id : Nat) (b : Blocks) : Blocks :=
  match b.inbound? id with
  | none => b
  | some i => (b.dropInbound id).missingEffects e i

/-- The vehicle of a move stands TO-EXIT without exit clearance, or, FAULTED or marked RELEARN, is one whose
consignment still waits for its answer (R124). -/
def Blocks.awaitsOwner (b : Blocks) (m : Move) : Bool :=
  (m.vehicle.bind b.vehicle?).any fun v =>
    if v.relearn || v.state == .faulted then m.wait.isSome else v.state == .toExit && !v.clearance

/-- A peer has become ABSENT: the consignment waits of the CARRYING moves to it end, and their carriers are
turned to a shelf, in the index order of the Move Table (R124; DESIGN CHOICE, log 98). -/
def Blocks.turnFromAbsent (e : Env) (k : Nat) (b : Blocks) : Blocks :=
  (b.moveList.filter fun m => m.state == .carrying && b.owner e m.dest == some k &&
      b.awaitsOwner m).foldl
    (fun b m => b.ownerLost e m) b

/-- Takes back a move whose vehicle heads for a shelf or waits, now that its destination has an
owner (R124). -/
def Blocks.takeBackMove (e : Env) (m : Move) (id : Nat) (b : Blocks) : Blocks :=
  ((b.leaveQueue id).dropDelivery e m.tag).sendExit e m id false

/-- The CARRYING moves to peers that `p` names whose carriers were turned to shelves are taken back, be it
that their owner was ABSENT or that they had none (R124; DESIGN CHOICE, log 84), in the index order of the Move
Table (DESIGN CHOICE, log 98). -/
def Blocks.takeBack (e : Env) (p : Nat → Bool) (b : Blocks) : Blocks :=
  (b.moveList.filter fun m => m.state == .carrying && !e.inWindow m.dest &&
      (b.owner e m.dest).any p && !b.ownerGone e m.dest).foldl
    (fun b m =>
      match m.vehicle.bind b.vehicle? with
      | none => b
      | some v =>
        if (v.state = .loaded ∨ v.state = .loadedWait) ∧ !v.relearn then b.takeBackMove e m v.id
        else b) b

/-- A move of this table whose vehicle is in sight again, its entry rebuilt or its phase restored, and
does not yet head where the move's destination now sends it (R14, R52, R120, R121, R123, R124, log 28). -/
def Blocks.takeUp (e : Env) (m : Move) (id : Nat) (b : Blocks) : Blocks :=
  match b.vehicle? id with
  | none => b
  | some v =>
    let aimed := (v.aim .unload).isSome
    if b.ownsStation e m.dest then
      match v.state with
      | .loaded =>
        if aimed ∧ v.segment ≠ e.exitSeg then b.decideIfThere e id else b.deliverHere e m id m.dest
      | .toExit => if v.clearance then b else b.deliverHere e m id m.dest
      | _ => b
    else if b.ownerGone e m.dest then
      if (v.state = .toExit ∧ !v.clearance) ∨ (v.state = .loaded ∧ !aimed) then
        b.ownerAbsent e m.tag
      else b.decideIfThere e id
    else
      match v.state with
      | .loaded => b.takeBackMove e m id
      | .loadedWait => b.takeBackMove e m id
      | .toExit => if v.clearance ∨ m.wait.isSome then b else b.sendExit e m id false
      | _ => b

/-! ### Presence (R148, R151) -/

/-- A change of a peer's presence: the changed flag is set and the moves to it are re-evaluated
(R146, R148, R151). -/
def Blocks.setPresence (e : Env) (bay : Bay) (p : Presence) (b : Blocks) : Blocks :=
  ((b.modPeer bay.val fun x =>
    { x with
      presence := p
      staleSince := match p with
        | .stale => some e.now
        | .absent => x.staleSince
        | _ => none }).setFlag (.changed bay)).reevaluateBay
    e bay.val

/-- A well-formed record from a bay refreshes its entry (R148). -/
def Blocks.refresh (e : Env) (bay : Bay) (b : Blocks) : Blocks :=
  let old := (b.peer bay.val).presence
  let b := b.modPeer bay.val fun x => { x with lastHeard := some e.now }
  if old = .present then b
  else
    let b := b.setPresence e bay .present
    if old = .absent then b.takeBack e fun k => k == bay.val else b

end Sys2Proof.Machine
end

