-- ==== Sys2Proof/Machine/Faults.lean ====
section
/-! DEFINITION. The Fault Unit: classes of fault, end-methods, the recovery state, the removal of a
vehicle, and parity errors (R53, R54, R100, R159 to R169, R173). -/
namespace Sys2Proof.Machine

/-! ### End-methods (R160) -/

/-- What befell a vehicle. Leaving without clearance is handled as falling SILENT (R12). -/
inductive Incident | major | silent | loadFailed | unloadFailed
deriving DecidableEq, Repr

/-- The first row of the end-method table that fits (R160): from the move's state and check hold,
the vehicle's roster state, last hoist, carrier present and hoist of the last report. -/
def chooseMethod (ms : MoveState) (checkHold : Bool) (st : RosterState) (last : Hoist)
    (carrier : Bool) (hoist : Hoist) (i : Incident) : EndMethod :=
  if i = .silent ∧ (carrier ∨ ms = .loading ∨ ms = .carrying ∨ ms = .suspended) then .lost
  else if ms = .bound ∧ (st = .toSource ∨ st = .entering) ∧ (i = .major ∨ i = .silent) then .clean
  else if ms = .loading ∧ (last = .idle ∨ last = .lowering) ∧ !carrier ∧ i = .major then .clean
  else if ms = .loading ∧ (last = .gripped ∨ last = .raising) ∧ i = .major then .lost
  else if ms = .loading ∧ i = .loadFailed then .lost
  else if ms = .carrying ∧ st = .unloading ∧ (last = .lowering ∨ last = .gripped ∨
      last = .raising ∨ last = .failed) ∧ i = .major then .lost
  else if ms = .carrying ∧ i = .unloadFailed then .lost
  else if (ms = .carrying ∨ (ms = .suspended ∧ checkHold)) ∧ carrier ∧
      (hoist = .idle ∨ hoist = .done) ∧ i = .major then .held
  else .lost

/-- MM applies an end-method to a move of this table (R53, R122). -/
def Blocks.applyMethod (e : Env) (tag : Tag) (m : EndMethod) (b : Blocks) : Blocks :=
  match b.move? tag with
  | none => b
  | some r =>
    if r.poisoned then b
    else
      let b := b.modMove tag fun x => { x with endMethod := some m }
      match m with
      | .clean =>
        if r.state = .bound ∨ r.state = .loading then
          let b := (b.dropDelivery e tag).enterWaiting e tag true
          match r.vehicle.bind b.vehicle? with
          | some v => if v.bound = some tag then b.unbind v.id else b
          | none => b
        else b
      | .held =>
        if r.state = .loading ∨ r.state = .carrying ∨ r.state = .suspended then
          let b := b.modMove tag fun x => { x with state := .suspended, wait := none }
          let b := match r.vehicle with
            | some id => b.modVehicle id fun v => { v with clearance := false }
            | none => b
          b.dropDelivery e tag
        else b
      | .lost =>
        if r.state = .bound ∨ r.state = .loading ∨ r.state = .carrying ∨ r.state = .suspended then
          b.strand e tag
        else b

/-- The end-method of a vehicle bound to a tag of another home bay is reported by DONE (R126,
R160). -/
def Blocks.applyForeign (e : Env) (tag : Tag) (v : Vehicle) (m : EndMethod) (b : Blocks) : Blocks :=
  let b := (b.sendDone e tag v.id (.fault (m == .held))).dropDelivery e tag
  if m = .held then b
  else
    let b := b.unbind v.id
    if v.carrier then b.holdForFloor v.id else b

/-! ### The recovery state (R161, R162, R100) -/

/-- Ends every CALLING call when the node becomes RESTRICTED or CONFLICT (R100), in the index order of
their moves in the Move Table (DESIGN CHOICE, log 71). -/
def Blocks.endCalling (e : Env) (b : Blocks) : Blocks :=
  (b.moveList.filter fun m => m.state == .calling).foldl
    (fun b m => ((b.endCall e m.tag).enterWaiting e m.tag false).modMove m.tag fun x =>
      { x with recallAt := none }) b

/-- Sets the multiple-fault flag of a kind (R161). -/
def FU.setMulti (f : FU) : FaultKind → FU
  | .vehicle => { f with multiVehicle := true }
  | .carrier => { f with multiCarrier := true }
  | .memory => { f with multiMemory := true }

def FU.anyMulti (f : FU) : Bool := f.multiVehicle || f.multiCarrier || f.multiMemory

/-- The sticky flag of an urgent fault's kind (R159). -/
def FaultKind.flag : FaultKind → Flag
  | .vehicle => .vehicle
  | .carrier => .carrier
  | .memory => .memory

/-- The recovery step of an urgent fault (R161). A node in HALTED for DUPLICATE-BAY that becomes RESTRICTED
ends its CALLING calls at once as any other does (DESIGN CHOICE, log 72). -/
def Blocks.recoveryStep (e : Env) (f : FirstFault) (b : Blocks) : Blocks :=
  match b.fu.recovery with
  | .normal => b.modFU fun x =>
      { x with
        recovery := .recovering
        first := some f
        watch := some { vehicle := f.vehicle, deadline := after e.now (e.cfg.tRec * 1000) } }
  | .recovering =>
    if f.vehicle.isSome ∧ (b.fu.first.bind FirstFault.vehicle) = f.vehicle then b
    else
      (b.modFU fun x => { (x.setMulti f.kind) with recovery := .restricted, watch := none }
        ).endCalling e
  | .restricted => b.modFU fun x => x.setMulti f.kind

/-- The recovery watch is satisfied (R162). -/
def Blocks.watchDone (b : Blocks) : Blocks :=
  if b.fu.recovery = .recovering then
    (b.modFU fun x => { x with recovery := .normal, watch := none }).wantCall
  else b

/-- The vehicle the recovery watch holds has reported NONE, or has left the roster (R162). -/
def Blocks.watchVehicle (id : Nat) (b : Blocks) : Blocks :=
  if (b.fu.watch.bind Watch.vehicle) = some id then b.watchDone else b

/-! ### Vehicle faults (R159, R160) -/

/-- The fault is urgent: a move of this node or a carrier depends on the vehicle (R159). -/
def Env.urgent (e : Env) (v : Vehicle) (i : Incident) : Bool :=
  i == .loadFailed || i == .unloadFailed || v.bound.any e.ownTag || v.carrier

def Incident.kind : Incident → FaultKind
  | .loadFailed => .carrier
  | .unloadFailed => .carrier
  | _ => .vehicle

/-- The states of a vehicle under way with a delivery (R12, R14, R36). -/
def RosterState.delivers : RosterState → Bool
  | .loaded => true
  | .loadedWait => true
  | .unloading => true
  | _ => false

/-- The vehicle delivers under its job's tag. One bound to a tag of another bay does so from its admission on,
and while it is FAULTED (R114, R126). -/
def Vehicle.delivering (v : Vehicle) : Bool :=
  let phase := if v.state = .faulted then v.phase else v.state
  if v.bound.isSome then phase.delivers || phase == .entering else v.state.delivers

/-- The delivery of a vehicle bound to no move of this node is given up: the reservation its job's tag
holds is dropped (R32, R119). The job of a vehicle marked RELEARN is not known, and drops none (log 78). -/
def Blocks.dropCarried (e : Env) (v : Vehicle) (b : Blocks) : Blocks :=
  if !v.relearn ∧ v.delivering then
    match v.job.bind Job.tag with
    | some t => b.dropDelivery e t
    | none => b
  else b

/-- A deferrable fault of vehicle `v`: the delivery of one that falls SILENT, or is bound to no tag, is given
up, and one that falls SILENT, or is on its way out for an award, is unbound (R17, R32, R159). Any other that
is bound to a tag of another bay and empty, its carrier set down, stays bound and reports no DONE (DESIGN
CHOICE, log 86). -/
def Blocks.deferredFault (e : Env) (v : Vehicle) (i : Incident) (b : Blocks) : Blocks :=
  let b := if i = .silent ∨ v.bound.isNone then b.dropCarried e v else b
  if v.bound.isSome ∧ (v.state = .toExit ∨ i = .silent) then b.unbind v.id else b

/-- Takes a fault of vehicle `v`, given as it stood when the fault was reported (R159 to R161). The exit
clearance of a vehicle that is bound to no move stays (DESIGN CHOICE, log 81). -/
def Blocks.vehicleFault (e : Env) (v : Vehicle) (i : Incident) (b : Blocks) : Blocks :=
  let b := b.setFlag i.kind.flag
  if !e.urgent v i then b.deferredFault e v i
  else
    let plain := chooseMethod .carrying false v.state v.hoist v.carrier v.hoist i
    let (method, b) := match v.bound with
      | none => (plain, b.dropCarried e v)
      | some tag =>
        if e.ownTag tag then
          match b.move? tag with
          | none => (plain, b)
          | some m =>
            let x := chooseMethod m.state m.checkHold v.state m.lastHoist v.carrier v.hoist i
            (x, b.applyMethod e tag x)
        else (plain, b.applyForeign e tag v plain)
    b.recoveryStep e
      { kind := i.kind
        vehicle := some v.id
        tag := v.bound
        method := if v.bound.isNone && !v.carrier then none else some method
        time := e.now }

/-- The state a FAULTED vehicle had before, kept with it as its earlier phase (R16, log 57). Its exit
clearance is not withdrawn (DESIGN CHOICE, log 81). -/
def Vehicle.fault (v : Vehicle) : Vehicle :=
  { v with state := .faulted, phase := if v.state = .faulted then v.phase else v.state }

/-- The vehicle becomes FAULTED: it leaves the wait queue and the Bid List (R16, R36, R101). -/
def Blocks.becomeFaulted (id : Nat) (b : Blocks) : Blocks :=
  ((b.leaveQueue id).modVehicle id Vehicle.fault).releaseBids fun x => x.vehicle == id

/-- The record that names a vehicle as the one doing its work, or holding its carrier (R18, R42). -/
def Blocks.recordOf (b : Blocks) (id : Nat) : Option Move :=
  b.moveList.find? fun m => m.vehicle == some id &&
    (m.state == .bound || m.state == .loading || m.state == .carrying || m.state == .suspended)

/-- The CONSIGNED record that names a vehicle as the one that left with its carrier (R18, R42). -/
def Blocks.consignedOf (b : Blocks) (id : Nat) : Option Move :=
  b.moveList.find? fun m => m.vehicle == some id && m.state == .consigned

/-- The vehicle becomes SILENT, and the event is passed to FU (R9). The binding of a RELEARN entry
is found in the Move Table. -/
def Blocks.becomeSilent (e : Env) (v : Vehicle) (b : Blocks) : Blocks :=
  let v' := if v.relearn then { v with bound := (b.recordOf v.id).map Move.tag } else v
  let b := (b.leaveQueue v.id).modVehicle v.id fun x => { x with state := .silent, bound := v'.bound }
  (b.releaseBids fun x => x.vehicle == v.id).vehicleFault e v' .silent

/-! ### Removal of a roster entry (R11, R54, R173) -/

/-- Frees the entry; the links it held to the wait queue, the Bid List and the recovery watch end
with it. -/
def Blocks.removeVehicle (id : Nat) (b : Blocks) : Blocks :=
  (((b.leaveQueue id).releaseBids fun x => x.vehicle == id).modRoster
    (freeWhere fun v => v.id == id)).watchVehicle id |>.wantPark

/-- The removal effects of VEHICLE-OUT on the vehicle's move (R54, R173). An empty vehicle TO-EXIT under a
foreign tag was sent for an award. A reservation that a BOUND move holds, as a follow-on does, stays with
it when the removal makes it WAITING with CLEAN (DESIGN CHOICE, log 82). Of an entry marked RELEARN only the
move of this node is settled, as the Move Table names it: no DONE is sent and no other reservation is dropped
(DESIGN CHOICE, log 78). -/
def Blocks.vehicleGone (e : Env) (id : Nat) (b : Blocks) : Blocks :=
  match b.vehicle? id with
  | none => b
  | some v =>
    let bound : Option Tag := if v.relearn then (b.recordOf id).map Move.tag else v.bound
    let b : Blocks := match bound with
      | none => b.dropCarried e v
      | some tag =>
        if e.ownTag tag then
          match b.move? tag with
          | none => b
          | some m =>
            if m.state = .bound then
              (b.enterWaiting e tag true).modMove tag fun x => { x with endMethod := some .clean }
            else if m.state = .loading ∨ m.state = .carrying ∨ m.state = .suspended then
              b.strand e tag
            else b
        else if v.state = .toExit ∧ !v.carrier then b
        else (b.sendDone e tag id (.fault false)).dropDelivery e tag
    b.removeVehicle id

end Sys2Proof.Machine
end

