-- ==== Sys2Proof/Machine/Free.lean ====
section
/-! DEFINITION. The free values whose type belongs to the state: what a table entry holds after a
parity error has spoiled its body (R63, R167, R168). -/
namespace Sys2Proof

/-- FREE VALUE (DESIGN CHOICE, log 23). The unknown fields of a POISONED record (R63). -/
opaque Config.garbledMove : Nat → Machine.Move

/-- FREE VALUE (DESIGN CHOICE, log 23). The unknown fields of a roster entry marked RELEARN (R168). -/
opaque Config.garbledVehicle : Nat → Machine.Vehicle

end Sys2Proof
end

