-- ==== Sys2Proof/Machine/Parity.lean ====
section
/-! DEFINITION. Parity errors in the Move Table, the Vehicle Roster and the Inbound List (R63, R166 to
R169). -/
namespace Sys2Proof.Machine

/-- The hoist is working, or has failed (R15). -/
def hoistWorking : Hoist → Bool
  | .lowering => true
  | .gripped => true
  | .raising => true
  | .failed => true
  | _ => false

/-- Uses up one free value (log 14). -/
def Blocks.draw (b : Blocks) : Blocks := { b with free := b.free + 1 }

/-! ### The Move Table (R167) -/

/-- What becomes of a roster vehicle whose move has been spoiled: an empty vehicle with its hoist at
rest becomes IDLE with a PASS job, any other FAULTED and unbound (R15, R16, R81, R167). No VEHICLE fault is
passed to FU for it: the MEMORY fault stands for the event (DESIGN CHOICE, log 68). -/
def Blocks.unbindSpoiled (e : Env) (v : Vehicle) (b : Blocks) : Blocks :=
  let b := b.unbind v.id
  if v.relearn ∨ v.state = .silent then b
  else if v.carrier ∨ hoistWorking v.hoist then
    (b.becomeFaulted v.id).modVehicle v.id fun x => { x with clearance := false }
  else if v.state = .faulted then b
  else ((b.leaveQueue v.id).makeIdle e v.id).wantPass v.id

/-- Unbinds every roster vehicle bound to a tag that `p` names (R167). -/
def Blocks.unbindAll (e : Env) (p : Tag → Bool) (b : Blocks) : Blocks :=
  (b.vehicles.filter fun v => v.bound.any p).foldl (fun b v => b.unbindSpoiled e v) b

/-- A POISONED record: tag and source as held, STRANDED with LOST, every other field unknown (R63,
R167). The fields that a STRANDED record does not hold are absent (R40, R42). -/
def Move.poison (n : Nat) (m : Move) : Move :=
  { Config.garbledMove n with
    tag := m.tag
    source := m.source
    state := .stranded
    poisoned := true
    endMethod := some .lost
    vehicle := none
    callId := none
    destHeld := false
    checkHold := false
    wait := none }

/-- An urgent fault of kind MEMORY (R161, R167). -/
def Blocks.memoryFault (e : Env) (tag : Option Tag) (b : Blocks) : Blocks :=
  (b.setFlag .memory).recoveryStep e
    { kind := .memory
      vehicle := none
      tag := tag
      method := tag.map fun _ => .lost
      time := e.now }

/-- A parity error in the body of a record other than FREE (R167). -/
def Blocks.poison (e : Env) (m : Move) (b : Blocks) : Blocks :=
  let b := (b.modMove m.tag (Move.poison b.free)).draw
  let b := b.memoryFault e (some m.tag)
  let b := (b.endCall e m.tag).unbindAll e fun t => t == m.tag
  (b.inboundToLoan m.tag).dropDelivery e m.tag

/-- A tag of this bay that no record other than FREE holds (R167). -/
def Blocks.stale (e : Env) (b : Blocks) (t : Tag) : Bool := e.ownTag t && (b.move? t).isNone

/-- Removes every link to a tag of this bay that names no record (R167). -/
def Blocks.dropStaleLinks (e : Env) (b : Blocks) : Blocks :=
  let gone := b.stale e
  let b := (b.modStations (updWhere (fun s => s.active.any gone) fun s =>
    { s with active := none })).wantFollow
  let b := b.unbindAll e gone
  let b := b.modInbound fun l => l.map fun i =>
    if i.kind = .emptyForMove ∧ i.tag.any gone then { i with kind := .loan, tag := none } else i
  let b := ((b.du.calls.filter fun c => gone c.tag).map CallEntry.tag).foldl
    (fun b t => b.endCall e t) b
  (b.stationList.filterMap fun s => s.reservation.bind fun t =>
    if gone t then some s.number else none).foldl (fun b n => b.dropReservation e n) b

/-- A parity error that spoils the key of a record other than FREE: the record is freed without
MOVE-DONE (R167). -/
def Blocks.loseMove (e : Env) (index : Nat) (b : Blocks) : Blocks :=
  ((b.modMoves fun l => l.set index none).memoryFault e none).dropStaleLinks e

/-! ### The Vehicle Roster (R168) -/

/-- A roster entry marked RELEARN: vehicle id as held, no grant, no clearance, its binding to be
found again, every other field unknown (R18, R168). -/
def Vehicle.spoil (n : Nat) (v : Vehicle) : Vehicle :=
  { Config.garbledVehicle n with
    id := v.id
    missed := min (Config.garbledVehicle n).missed 3
    bound := none
    reserved := false
    grant := none
    clearance := false
    arrival := none
    relearn := true
    capture := none
    blocked := none }

/-! ### The Inbound List (R168) -/

/-- Every BOUND move whose assigned vehicle stands on neither the roster nor the Inbound List returns
to WAITING (R168). -/
def Blocks.reclaimBound (e : Env) (b : Blocks) : Blocks :=
  (b.moveList.filter fun m => m.state == .bound && m.vehicle.all fun id => !b.known id).foldl
    (fun b m => b.enterWaiting e m.tag true) b

/-! ### One parity error (R166, R169) -/

/-- Takes one parity error that a read has found; an index that holds no entry to read gives none,
but for a FREE record, which is rewritten (R167, R169, log 13). The parking place that an entry marked RELEARN
gives up is no occasion for park requests (DESIGN CHOICE, log 93). -/
def Blocks.parityError (e : Env) (b : Blocks) (p : ParityError) : Blocks :=
  match p.table with
  | .move =>
    if Config.moveSize ≤ p.index then b
    else
      match (b.mm.moves[p.index]?).join with
      | none => (b.bump .parity).setFlag .memory
      | some m =>
        if p.keyFails then (b.bump .parity).loseMove e p.index else (b.bump .parity).poison e m
  | .roster =>
    match (b.zc.roster[p.index]?).join with
    | none => b
    | some v =>
      let b := (b.bump .parity).setFlag .memory
      if p.keyFails then b.vehicleGone e v.id
      else (b.modVehicle v.id (Vehicle.spoil b.free)).draw
  | .inbound =>
    match b.zc.inbound[p.index]? with
    | none => b
    | some i =>
      let b := ((b.bump .parity).setFlag .memory).dropInbound i.vehicle
      if p.keyFails then b.reclaimBound e else b.missingEffects e i

/-- The errors found by the reads of one command. -/
def Blocks.parityErrors (e : Env) (l : List ParityError) (b : Blocks) : Blocks :=
  l.foldl (Blocks.parityError e) b

/-- A command that reads the tables finds every error that waits in them (R166, log 13). -/
def Blocks.readSpoiled (e : Env) (b : Blocks) : Blocks :=
  ({ b with spoiled := [] } : Blocks).parityErrors e b.spoiled

end Sys2Proof.Machine
end

