-- ==== Sys2Proof/Machine/Passes.lean ====
section
/-! DEFINITION. The Dispatch Unit's passes (binding, park requests, calls), the supply watch, and
what runs before a command ends (R77 to R93, R106, R107). -/
namespace Sys2Proof.Machine

/-! ### The binding pass (R77, R78) -/

/-- A candidate move (R77). -/
def Move.candidate (m : Move) : Bool :=
  !m.poisoned && ((m.state == .waiting && !m.destHeld) || m.state == .calling)

def Blocks.candidateMoves (b : Blocks) : List Move := b.moveList.filter Move.candidate

/-- The segment of a move's source station. -/
def Blocks.sourceSeg (b : Blocks) (m : Move) : Nat :=
  ((b.station? m.source).map Station.segment).getD 0

/-- The vehicle nearest to a move's source (R74, R78 step 3). -/
def Blocks.nearest (e : Env) (b : Blocks) (m : Move) : Option Vehicle :=
  ((b.rank e b.candidates (.seg (b.sourceSeg m))).head?).map Prod.snd

/-- One pair of the pass: the move first in order, and the vehicle nearest to its source. -/
def Blocks.nextPair (e : Env) (b : Blocks) : Option (Move × Vehicle) :=
  match firstBy (Move.before e.now) b.candidateMoves with
  | none => none
  | some m => (b.nearest e m).map fun v => (m, v)

/-- The binding pass: pairs until no candidate is left; each pair uses up a vehicle, so the roster
size bounds the pairs (R78). -/
def Blocks.bindPairs (e : Env) : Nat → Blocks → Blocks
  | 0, b => b
  | n + 1, b =>
    match b.nextPair e with
    | none => b
    | some (m, v) => Blocks.bindPairs e n (b.bind e m v.id)

/-- After the pass, a released vehicle that no move has taken gets a PASS job on its present segment
(R81). -/
def Blocks.passReleased (e : Env) (b : Blocks) : Blocks :=
  b.agenda.released.foldl
    (fun b id =>
      match b.vehicle? id with
      | none => b
      | some v => if v.state = .idle then b.sendGoto e id (passJob v.segment) else b) b

/-! ### Park requests (R86, R87) -/

/-- An idle vehicle is due for parking (R86). -/
def Blocks.parkDue (e : Env) (b : Blocks) (v : Vehicle) : Bool :=
  v.state == .idle && b.candidate v && v.parkTarget.isNone &&
    passed e.now v.idleSince (e.cfg.tIdlePark * 1000)

/-- The parking segment for a vehicle: room above zero, least E, lower number (R87). -/
def Blocks.parkingFor (e : Env) (b : Blocks) (v : Vehicle) : Option Nat :=
  (firstBy leastFirst (((List.range b.zc.segments.length).filter fun p =>
      decide (0 < b.parkingRoom p)).filterMap fun p =>
    (b.estimateOf e v (.seg p)).map fun n => (n, p))).map Prod.snd

/-- Makes the park request of one due vehicle (R87). -/
def Blocks.parkOne (e : Env) (b : Blocks) (id : Nat) : Blocks :=
  match b.vehicle? id with
  | none => b
  | some v =>
    if b.parkDue e v then
      match b.parkingFor e v with
      | some p => b.sendGoto e id (parkJob p)
      | none => b
    else b

/-- Park requests are made in READY and CONFLICT (R86). -/
def NodeState.parks : NodeState → Bool
  | .ready => true
  | .conflict => true
  | _ => false

/-- Park requests of every due vehicle, earlier idle since first, then lower id (R87). -/
def Blocks.parkAll (e : Env) (b : Blocks) : Blocks :=
  if !e.node.parks then b
  else
    (sortBy (fun x y => earlier x.idleSince y.idleSince ||
        (x.idleSince == y.idleSince && decide (x.id < y.id)))
      (b.vehicles.filter (b.parkDue e))).foldl (fun b v => b.parkOne e v.id) b

/-! ### The call pass (R92, R93) -/

/-- The conditions a call pass needs (R92). -/
def Blocks.mayCall (e : Env) (b : Blocks) : Bool :=
  e.node == .ready && b.fu.recovery != .restricted && b.ti.linkUp &&
    decide (b.du.calls.length < Config.callSize) && decide (1 ≤ b.room)

/-- A move is eligible for a call (R92). -/
def Move.eligible (now : Time) (m : Move) : Bool :=
  m.state == .waiting && !m.destHeld && !m.poisoned &&
    (match m.recallAt with | none => true | some t => passed now t 0)

/-- The call id the next call draws (R89). -/
def Blocks.nextCall (b : Blocks) : Id8 :=
  nextFree (fun x => b.du.calls.any fun c => c.id == x) b.du.callCounter 8

/-- Opens a call (R93). -/
def Blocks.openCall (e : Env) (m : Move) (b : Blocks) : Blocks :=
  let id := b.nextCall
  let b := b.modMove m.tag fun x => { x with state := .calling, callId := some id }
  let b := b.modDU fun d =>
    { d with
      calls := d.calls ++ [{
        id := id
        tag := m.tag
        windowEnd := after e.now e.cfg.wCall
        best := none
        bids := 0
        awardDeadline := none }]
      callCounter := id + 1 }
  (b.toAll e (.call id m.tag m.cls m.source (m.urgency e.now))).bump .callsMade

/-- The call pass over the eligible moves, in the order of moves (R92). -/
def Blocks.callPass (e : Env) (b : Blocks) : Blocks :=
  (sortBy (Move.before e.now) (b.moveList.filter (Move.eligible e.now))).foldl
    (fun b m => if b.mayCall e then b.openCall e m else b) b

/-! ### Supply and the ask (R106, R107) -/

/-- The node's supply (R106). -/
def Blocks.supply (b : Blocks) : Nat :=
  b.idleCount + b.zc.inbound.countP fun i => i.kind == .emptyForMove || i.kind == .loan

/-- The starvation start follows the supply: it is set when the supply has fallen below F_min while it
is absent, whether the command found it absent or made it so (R106). Only the supply before and after the
whole command counts; one that reaches F_min for a moment within a command is not seen (DESIGN CHOICE,
log 61). -/
def Blocks.supplyWatch (e : Env) (b before : Blocks) : Blocks :=
  if e.cfg.fMin ≤ b.supply then b.modDU fun d => { d with starve := none }
  else if b.du.starve = none ∧ (e.cfg.fMin ≤ before.supply ∨ before.du.starve.isSome) then
    b.modDU fun d => { d with starve := some e.now }
  else b

/-- After an attempt that sends nothing, and when an ask closes (R106). -/
def Blocks.restartStarve (e : Env) (b : Blocks) : Blocks :=
  b.modDU fun d => { d with starve := if b.supply < e.cfg.fMin then some e.now else none }

/-- A peer qualifies as a lender (R107, R149). -/
def Blocks.lends (e : Env) (b : Blocks) (k : Nat) : Bool :=
  let p := b.peer k
  k != e.cfg.bay.val && p.presence == .present && p.node == some .ready &&
    p.recovery != some .restricted && p.link == some .good && p.holdUntil.isNone &&
    decide (0 < p.idle)

/-- The lender: the highest announced idle count, then the lower bay (R107). -/
def Blocks.lender (e : Env) (b : Blocks) : Option Nat :=
  firstBy (fun j k => decide ((b.peer k).idle < (b.peer j).idle))
    ((List.range e.cfg.nBays).filter (b.lends e))

/-- The count an attempt asks for (R107). -/
def Blocks.askCount (e : Env) (b : Blocks) : Nat := min (min 4 (e.cfg.fMin - b.supply)) b.room

/-- An ask attempt (R107). -/
def Blocks.askAttempt (e : Env) (b : Blocks) : Blocks :=
  match b.lender e with
  | none => b.restartStarve e
  | some k =>
    let n := b.askCount e
    if n = 0 then b.restartStarve e
    else
      let id := b.du.askCounter
      let b := b.modDU fun d =>
        { d with
          ask := some {
            id := id
            lender := k
            count := n
            deadline := after e.now (e.cfg.wAsk * 100) }
          askCounter := id + 1 }
      (b.toBay e k (.ask id n)).bump .loansAsked

/-! ### What runs before a command ends -/

/-- The follow-on asks an event has given occasion for (R37). -/
def Blocks.followPhase (e : Env) (b : Blocks) : Blocks :=
  if b.agenda.follow then b.askFollowOns e else b

/-- The binding pass an event has given occasion for; a call pass follows it (R78, R79, R92). No
pass runs in CONFIG or in HALTED for CONFIG-ERROR (R82). -/
def Blocks.bindPhase (e : Env) (b : Blocks) : Blocks :=
  if b.agenda.bind && e.node.running then
    ((Blocks.bindPairs e Config.rosterSize b).passReleased e).wantCall
  else b

def Blocks.parkPhase (e : Env) (b : Blocks) : Blocks := if b.agenda.park then b.parkAll e else b

def Blocks.callPhase (e : Env) (b : Blocks) : Blocks := if b.agenda.call then b.callPass e else b

/-- The passes, in order; the agenda is then empty (log 16). -/
def Blocks.passes (e : Env) (b : Blocks) : Blocks :=
  { ((((b.followPhase e).bindPhase e).parkPhase e).callPhase e) with agenda := Agenda.none }

/-- The end of a command that may have changed vehicles, moves or the trunk: the passes, TI's upkeep
and the supply watch. `before` is the state before the command. TI thus judges the hold causes and rewrites the
buffered STATUS once, after every pass, and a record that a pass places stands in the queue before the HOLD
(R140, R141; DESIGN CHOICE, log 85). -/
def Blocks.settle (e : Env) (b before : Blocks) : Blocks :=
  ((b.passes e).trunkUpkeep e).supplyWatch e before

/-- What a command answers: a next state, a fault or a refusal. -/
abbrev Answered := Host.Outcome State Fault Refusal

/-- Runs a command's effect on the blocks under what CL holds from this command on: the connections
are quiet before it, the parity errors its reads find are taken first, and what it gives occasion for
runs after it. -/
def State.runAs (cl : CL) (f : Env → Blocks → Blocks) (s : State) : State :=
  let e : Env := { now := s.now, node := cl.node, cfg := cl.cfg }
  { s with cl := cl, b := (f e (s.b.quiet.readSpoiled e)).settle e s.b }

/-- Runs a command's effect on the blocks; CL stays as it is. -/
def State.run (f : Env → Blocks → Blocks) (s : State) : State := s.runAs s.cl f

/-- Runs a command's effect while stored bits have failed: the command finds the failures in the tables
that it reads, and the others wait until a command reads them (R166, log 13). -/
def State.runFailing (read : List ParityTable) (failing : List ParityError)
    (f : Env → Blocks → Blocks) (s : State) : State :=
  let t := s.run fun e b => f e (b.parityErrors e (failing.filter fun p => read.contains p.table))
  { t with b := { t.b with
      spoiled := t.b.spoiled ++ failing.filter fun p => !read.contains p.table } }

/-- Runs an effect that gives no occasion for any pass. -/
def State.runPlain (f : Env → Blocks → Blocks) (s : State) : State :=
  { s with b := f s.env s.b.quiet }

end Sys2Proof.Machine
end

