-- ==== Sys2Proof/Machine/TrunkLine.lean ====
section
/-! DEFINITION. The meanings of the trunk-line commands: sending, arbitration, read-back, and frames
that do not reach an owner (R127 to R138, R141 to R144). -/
namespace Sys2Proof.Machine

/-! ### Sending (R130, R136, R138, R144) -/

/-- The head record goes on the line when TI may send and nothing is on the line (R136). -/
def TI.startHead (t : TI) : TI :=
  match t.queue with
  | r :: q => if t.mute ∨ t.line.isSome then t else { t with queue := q, line := some r }
  | [] => t

/-- TRANSMIT_START (R127, R136, R138): the trunk is idle and the head record is started. -/
def execTransmitStart (s : State) : Answered :=
  .next (s.run fun e b => if e.node.active then b.modTI TI.startHead else b)

/-- ARBITRATION_LOST (R129): the record returns to the head of its class; no failure is counted. -/
def execArbitrationLost (s : State) : Answered := .next (s.run fun _ b => b.modTI TI.returnLine)

/-- A failure raises the consecutive count; at 16 MUTE is set (R130, R144). -/
def TI.countFailure (t : TI) : TI :=
  let n := min (t.failures + 1) 16
  if n = 16 ∧ !t.mute then { t with failures := n, mute := true, muteHeard := 0 }
  else { t with failures := n }

/-- TRANSMIT_FAILURE (R130): the record returns to the queue and the failure is counted. -/
def execTransmitFailure (s : State) : Answered :=
  .next (s.run fun _ b =>
    if b.ti.line.isSome then (b.modTI fun t => t.returnLine.countFailure).bump .transmitFailures
    else b)

/-- A HOLD that has been sent to its last bit starts or ends the node's own holding (R141). -/
def TI.sentHold (now : Time) (r : Record) (t : TI) : TI :=
  match r.body with
  | .hold d => { t with holdingUntil := if d = 0 then none else some (after now (d * 100)) }
  | _ => t

/-- RECORD_SENT (R130, R136, R141): the record has been sent to its last bit and leaves the queue. -/
def execRecordSent (s : State) : Answered :=
  .next (s.run fun e b =>
    match b.ti.line with
    | none => b
    | some r =>
      (b.modTI fun t => ({ t with line := none, failures := 0 } : TI).sentHold e.now r).bump .sent)

/-! ### Frames that are discarded (R131 to R133, R142) -/

/-- A bad outcome, counted under its stage, in the states in which TI receives (R138, R142), whether or not a
record of this node stands on the line (R131; DESIGN CHOICE, log 108). -/
def Blocks.discard (e : Env) (k : Counter) (b : Blocks) : Blocks :=
  if e.node.running then (b.bump k).outcome e false else b

/-- TRUNK_FRAGMENT (R131): an idle gap came before the record's end. -/
def execTrunkFragment (s : State) : Answered := .next (s.run fun e b => b.discard e .fragments)

/-- MAX_RECORD_TIME_EXPIRY (R131): the record's end has not come in time; it is a fragment. -/
def execMaxRecordTimeExpiry (s : State) : Answered :=
  .next (s.run fun e b => b.discard e .fragments)

/-- BAD_RECORD (R132): the record fails its CRC. -/
def execBadRecord (s : State) : Answered := .next (s.run fun e b => b.discard e .bad)

/-- MALFORMED_RECORD (R131, R133): a length that cannot be followed, or a record that makes no
sense. -/
def execMalformedRecord (s : State) : Answered := .next (s.run fun e b => b.discard e .malformed)

/-! ### Records of the own bay and of other bays (R134, R135) -/

/-- A record bearing this bay's number halts a node in LISTEN, READY or CONFLICT and empties its
Transmit Queue; it is counted as received and good, and is not passed on (R134, R138, log 19). -/
def State.heardOwn (s : State) : State :=
  if s.cl.node.active then
    s.runAs { s.cl with node := .haltedDuplicate, listenEnd := none } fun e b =>
      let b := (b.bump .received).outcome e true
      { b with
        ti := { b.ti with queue := [], line := none }
        zc := { b.zc with census := none } }
  else s.run fun e b => if e.node.running then (b.bump .received).outcome e true else b

/-- DUPLICATE_BAY (R134). -/
def execDuplicateBay (s : State) : Answered := .next s.heardOwn

/-- A well-formed record from another node: TI and the Peer Directory take note of it, then its
owner acts, under what CL holds from this record on (R135, R148). The sender is refreshed, with all that follows
from it, before the contents are taken (DESIGN CHOICE, log 100). A record whose counts lie outside their ranges
is malformed (R133, log 17). It is taken like any other while a record of this node stands on the line, as the
winner's record after a lost arbitration is (R131; DESIGN CHOICE, log 108). -/
def State.heardAs (cl : CL) (sender : Bay) (inRange : Bool) (act : Env → Blocks → Blocks)
    (s : State) : State :=
  if !s.cl.node.running then s.runPlain fun _ b => b
  else if !inRange then s.run fun e b => b.discard e .malformed
  else if sender = s.cl.cfg.bay then s.heardOwn
  else s.runAs cl fun e b => act e ((b.heard e).refresh e sender)

/-- A well-formed record that leaves CL as it is. -/
def State.heardFrom (sender : Bay) (body : Body) (act : Env → Blocks → Blocks) (s : State) : State :=
  s.heardAs s.cl sender (bodyInRange body) act

/-- OTHER_BAY_RECORD (R135): a record for another bay refreshes its sender and counts as good. -/
def execOtherBayRecord (sender : Bay) (s : State) : Answered :=
  .next (s.heardAs s.cl sender true fun _ b => b)

end Sys2Proof.Machine
end

