-- ==== Sys2Proof/Machine/Records.lean ====
section
/-! DEFINITION. The meanings of the fourteen trunk kinds: announcements to the Peer Directory, calls,
bids, awards and loans to the Dispatch Unit, consignment to the Move Manager (R57, R94 to R98, R102
to R105, R108, R109, R121, R125, R149, R150, R154). -/
namespace Sys2Proof.Machine

/-! ### STATUS, HOLD, LINK (R149, R150, R154) -/

/-- A STATUS overwrites the sender's entry (R149). -/
def Peer.announced (st : StatusBody) (p : Peer) : Peer :=
  { p with
    window := some (st.base, st.limit)
    sectionTime := some st.sectionTime
    period := some st.period
    idle := st.idle
    node := some st.node
    recovery := some st.recovery
    link := some st.link
    offline := st.offline
    overflow := st.overflow }

/-- The entry of bay `k` takes a STATUS. Its moves are re-evaluated, those it formerly owned among
them; a changed window takes back the carriers it gives an owner, those turned from an ABSENT owner among
them (R124, R149; DESIGN CHOICE, log 84). -/
def Blocks.takeStatus (e : Env) (k : Nat) (st : StatusBody) (b : Blocks) : Blocks :=
  let b' := b.modPeer k (Peer.announced st)
  let moved := (b.peer k).window != some (st.base, st.limit)
  let listed := (b.peer k).offline != st.offline || (b.peer k).overflow != st.overflow
  let b'' := if moved ∨ listed then
      b'.reevaluate e fun m => b.owner e m.dest == some k || b'.owner e m.dest == some k
    else b'
  if moved then b''.takeBack e fun _ => true else b''

/-- A STATUS whose window is new and overlaps the own window, from a lower bay (R154). -/
def State.overlapped (s : State) (sender : Bay) (st : StatusBody) : Bool :=
  bodyInRange (.status st) && decide (sender.val < s.cl.cfg.bay.val) &&
    (s.b.peer sender.val).window != some (st.base, st.limit) &&
    overlap (st.base, st.limit) s.cl.cfg.base s.cl.cfg.limit

/-- STATUS (R149, R154): in READY an overlapping window of a lower bay puts the node in CONFLICT, which
ends its CALLING calls (R100). -/
def execStatus (sender : Bay) (st : StatusBody) (s : State) : Answered :=
  let clash : Bool := decide (s.cl.node = .ready) && s.overlapped sender st
  let cl : CL := if clash then { s.cl with node := .conflict } else s.cl
  .next (s.heardAs cl sender (bodyInRange (.status st)) fun e b =>
    let b := b.takeStatus e sender.val st
    if clash then b.endCalling e else b)

/-- A HOLD sets or clears the sender's hold; only its start and its end are reported (R150). -/
def Blocks.takeHold (e : Env) (k duration : Nat) (b : Blocks) : Blocks :=
  let held := (b.peer k).holdUntil.isSome
  let b := b.modPeer k fun p =>
    { p with holdUntil := if duration = 0 then none else some (after e.now (duration * 100)) }
  if held = decide (duration = 0) then b.reevaluateBay e k else b

/-- HOLD (R150). -/
def execHold (sender : Bay) (duration : Nat) (s : State) : Answered :=
  .next (s.heardFrom sender (.hold duration) fun e b => b.takeHold e sender.val duration)

/-- LINK (R150). -/
def execLink (sender : Bay) (state : LinkState) (bad : Nat) (s : State) : Answered :=
  .next (s.heardFrom sender (.link state bad) fun _ b =>
    b.modPeer sender.val fun p => { p with link := some state, bad := some bad })

/-! ### CALL (R102) -/

/-- The conditions for a bid (R102). -/
def Blocks.mayBid (e : Env) (b : Blocks) (caller : Nat) (id : Id8) : Bool :=
  decide (caller < e.cfg.nBays) && caller != e.cfg.bay.val &&
    !(b.du.bids.any fun x => x.caller == caller && x.id == id) &&
    e.node == .ready && b.fu.recovery == .normal && b.ti.linkUp && b.candidateMoves.isEmpty &&
    decide (b.du.bids.length < Config.bidSize) && decide (e.cfg.kKeep < b.idleCount)

/-- Bids for a call with the candidate vehicle of least exit ETA (R102). -/
def Blocks.takeCall (e : Env) (caller : Nat) (id : Id8) (tag : Tag) (urgency : Nat) (b : Blocks) :
    Blocks :=
  if !b.mayBid e caller id then b
  else
    match b.rank e b.candidates .exit with
    | [] => b
    | (eta, v) :: _ =>
      let b := b.modBids fun l => l ++ [{
        caller := caller
        id := id
        tag := tag
        urgency := urgency
        vehicle := v.id
        eta := eta
        holdEnd := after e.now (e.cfg.wCall + 1000) }]
      let b := b.modVehicle v.id fun x => { x with reserved := true }
      (b.toBay e caller (.bid id v.id eta)).bump .bidsMade

/-- CALL (R102). The class and the source station are not used. -/
def execCall (sender : Bay) (id : Id8) (tag : Tag) (cls : MoveClass) (source urgency : Nat)
    (s : State) : Answered :=
  .next (s.heardFrom sender (.call id tag cls source urgency) fun e b =>
    b.takeCall e sender.val id tag urgency)

/-! ### BID (R94) -/

/-- The state of the move of a call. -/
def Blocks.callState (b : Blocks) (c : CallEntry) : Option MoveState :=
  (b.move? c.tag).map Move.state

/-- A bid enters the comparison; one from a bay off the loop becomes best only as the first received
(R70, R76, R94). -/
def CallEntry.take (offLoop : Bool) (bid : BestBid) (c : CallEntry) : CallEntry :=
  { c with
    bids := min (c.bids + 1) 255
    best := match c.best with
      | none => some bid
      | some x => if !offLoop ∧ bid.before x then some bid else some x }

/-- A BID for a call whose move is CALLING (R94). -/
def Blocks.takeBid (e : Env) (bidder : Nat) (id : Id8) (vehicle eta : Nat) (b : Blocks) : Blocks :=
  match b.du.calls.find? fun c => c.id == id with
  | none => b
  | some c =>
    match b.move? c.tag with
    | none => b
    | some m =>
      if m.state ≠ .calling ∨ vehicle < 1 ∨ 254 < vehicle then b
      else
        let bid : BestBid :=
          { bay := bidder, vehicle := vehicle, cost := b.remoteCost e bidder eta (b.sourceSeg m) }
        b.modCalls fun l => l.map fun x =>
          if x.id = id then x.take (decide (e.cfg.nBays ≤ bidder)) bid else x

/-- BID (R94). -/
def execBid (sender : Bay) (id : Id8) (vehicle eta : Nat) (s : State) : Answered :=
  .next (s.heardFrom sender (.bid id vehicle eta) fun e b => b.takeBid e sender.val id vehicle eta)

/-! ### AWARD and CANCEL (R103 to R105) -/

/-- An award is honoured: the vehicle is sent out and SENT carries its exit ETA as it stood before
(R103). The tag is that of the Bid List entry, where one stands (log 30). -/
def Blocks.honour (e : Env) (caller : Nat) (id : Id8) (tag : Option Tag) (v : Vehicle) (b : Blocks) :
    Blocks :=
  let eta := b.exitEta e v
  (((b.sendOut e v.id tag caller).toBay e caller (.sent id v.id eta))).bump .bidsWon

def Blocks.retract (e : Env) (caller : Nat) (id : Id8) (vehicle : Nat) (r : RetractReason)
    (b : Blocks) : Blocks := b.toBay e caller (.retract id vehicle r)

/-- A late award, answered from the state of the vehicle it names (R105). `tag` is that of the call's Bid List
entry when the award names another vehicle than the entry does, and absent when no entry stands (log 30). One
marked RELEARN is no candidate,
and until it falls SILENT its state is a free value (DESIGN CHOICE, log 62). -/
def Blocks.lateAward (e : Env) (caller : Nat) (id : Id8) (tag : Option Tag) (vehicle : Nat)
    (b : Blocks) : Blocks :=
  if e.node.halted then b
  else
    match b.vehicle? vehicle with
    | none => b.retract e caller id vehicle .gone
    | some v =>
      if b.candidate v then
        if e.node = .ready ∧ b.fu.recovery = .normal then b.honour e caller id tag v
        else b.retract e caller id vehicle .expired
      else if v.state = .faulted ∨ v.state = .silent then b.retract e caller id vehicle .faulted
      else b.retract e caller id vehicle .gone

/-- The Bid List entry of a caller's call. -/
def bidFor (caller : Nat) (id : Id8) (x : BidEntry) : Bool := x.caller == caller && x.id == id

/-- An AWARD (R103). In HALTED the entry is released and no answer is sent. -/
def Blocks.takeAward (e : Env) (caller : Nat) (id : Id8) (winner vehicle : Nat) (b : Blocks) :
    Blocks :=
  match b.du.bids.find? (bidFor caller id) with
  | none => if winner = e.cfg.bay.val then b.lateAward e caller id none vehicle else b
  | some x =>
    let b := b.releaseBids (bidFor caller id)
    if e.node.halted ∨ winner ≠ e.cfg.bay.val then b
    else if vehicle = x.vehicle then
      match b.vehicle? vehicle with
      | some v => b.honour e caller id (some x.tag) v
      | none => b
    else b.lateAward e caller id (some x.tag) vehicle

/-- AWARD (R103, R105). -/
def execAward (sender : Bay) (id : Id8) (winner vehicle : Nat) (s : State) : Answered :=
  .next (s.heardFrom sender (.award id winner vehicle) fun e b =>
    b.takeAward e sender.val id winner vehicle)

/-- CANCEL (R104): the entry for that caller and call is released. -/
def execCancel (sender : Bay) (id : Id8) (s : State) : Answered :=
  .next (s.heardFrom sender (.cancel id) fun _ b => b.releaseBids (bidFor sender.val id))

/-! ### SENT and RETRACT (R96 to R98) -/

/-- The open call that an answer from `bay` concerns: its move is AWARDED and its best bid came from
that bay (R96, R97). -/
def Blocks.awardedCall (b : Blocks) (bay : Nat) (id : Id8) : Option CallEntry :=
  b.du.calls.find? fun c =>
    c.id == id && b.callState c == some .awarded && c.best.any fun x => x.bay == bay

/-- The award has failed: the move returns to WAITING with its retry count raised (R97). -/
def Blocks.awardFailed (e : Env) (c : CallEntry) (b : Blocks) : Blocks :=
  (b.removeCall c.tag).enterWaiting e c.tag true

/-- A lent vehicle's Inbound entry (R98, R109). -/
def loanEntry (vehicle source : Nat) (ref : Id8) (expected : Time) : Inbound where
  vehicle := vehicle
  kind := .loan
  source := source
  tag := none
  ref := ref
  dest := none
  cls := none
  carrierId := none
  expected := expected
  recirc := 0
  late := false

/-- A SENT for a call no longer open is taken as a loan while there is room (R98). -/
def Blocks.straySent (e : Env) (bay : Nat) (id : Id8) (vehicle eta : Nat) (b : Blocks) : Blocks :=
  if b.known vehicle ∨ b.room = 0 then b
  else b.addInbound (loanEntry vehicle bay id (b.arrivalTime e bay eta))

/-- A SENT for an awarded call whose vehicle is on the main loop: the place becomes an entry, and the
move is BOUND to the vehicle (R96). -/
def Blocks.sentInbound (e : Env) (c : CallEntry) (bay vehicle eta : Nat) (b : Blocks) : Blocks :=
  let b := b.modCalls fun l => l.filter fun x => x.tag != c.tag
  let b := b.addInbound
    { loanEntry vehicle bay c.id (b.arrivalTime e bay eta) with
      kind := .emptyForMove
      tag := some c.tag }
  b.modMove c.tag fun m => { m with state := .bound, vehicle := some vehicle, callId := none }

/-- A SENT (R96, R98, R118). A roster vehicle whose entry is marked RELEARN is no candidate, and the move is
treated as under a RETRACT (DESIGN CHOICE, log 107). -/
def Blocks.takeSent (e : Env) (bay : Nat) (id : Id8) (vehicle eta : Nat) (b : Blocks) : Blocks :=
  match b.awardedCall bay id with
  | none => b.straySent e bay id vehicle eta
  | some c =>
    match b.vehicle? vehicle, b.move? c.tag with
    | some v, some m =>
      if b.candidate v then
        ((b.removeCall c.tag).bind e m vehicle).modVehicle vehicle fun x =>
          { x with unexpected := false }
      else b.awardFailed e c
    | _, _ =>
      if (b.inbound? vehicle).isSome then b.awardFailed e c
      else b.sentInbound e c bay vehicle eta

/-- SENT (R96, R98). -/
def execSent (sender : Bay) (id : Id8) (vehicle eta : Nat) (s : State) : Answered :=
  .next (s.heardFrom sender (.sent id vehicle eta) fun e b =>
    b.takeSent e sender.val id vehicle eta)

/-- RETRACT (R97). -/
def execRetract (sender : Bay) (id : Id8) (vehicle : Nat) (reason : RetractReason) (s : State) :
    Answered :=
  .next (s.heardFrom sender (.retract id vehicle reason) fun e b =>
    match b.awardedCall sender.val id with
    | none => b
    | some c => (b.awardFailed e c).bump (.retracts reason))

/-! ### ASK and LOAN (R108, R109) -/

/-- The grant (R108). -/
def Blocks.grantCount (e : Env) (b : Blocks) (n : Nat) : Nat :=
  if e.node ≠ .ready ∨ b.fu.recovery ≠ .normal ∨ !b.candidateMoves.isEmpty then 0
  else min n (b.idleCount - e.cfg.kKeep)

/-- An ASK is answered with LOAN, the exit ETA of the last vehicle taken before any is sent (R108). A
LOAN without vehicles has no last one, and its exit ETA is a free value (log 15). -/
def Blocks.takeAsk (e : Env) (bay : Nat) (id : Id8) (n : Nat) (b : Blocks) : Blocks :=
  if e.node.halted ∨ (b.peer bay).holdUntil.isSome then b
  else
    let sent := (b.rank e b.candidates .exit).take (b.grantCount e n)
    let eta := (sent.getLast?.map Prod.fst).getD (sat16 (Config.unknownEta 0))
    let b := sent.foldl (fun b x => b.sendOut e x.2.id none bay) b
    (b.toBay e bay (.loan id eta (sent.map fun x => x.2.id))).bumpBy .loansGranted sent.length

/-- ASK (R108). -/
def execAsk (sender : Bay) (id : Id8) (count : Nat) (s : State) : Answered :=
  .next (s.heardFrom sender (.ask id count) fun e b => b.takeAsk e sender.val id count)

/-- One vehicle of a LOAN: an entry from one of the ask's places while places remain, and otherwise
while there is room (R109). -/
def Blocks.lendOne (bay : Nat) (id : Id8) (expected : Time) (b : Blocks) (vehicle : Nat) : Blocks :=
  let entry := loanEntry vehicle bay id expected
  if b.known vehicle then b
  else
    match b.du.ask with
    | some a =>
      if 0 < a.count then
        (b.modDU fun d => { d with ask := some { a with count := a.count - 1 } }).addInbound entry
      else if b.room = 0 then b
      else b.addInbound entry
    | none => if b.room = 0 then b else b.addInbound entry

/-- One vehicle of a late loan: an entry while there is room (R109). -/
def Blocks.lendLate (bay : Nat) (id : Id8) (expected : Time) (b : Blocks) (vehicle : Nat) : Blocks :=
  if b.known vehicle ∨ b.room = 0 then b else b.addInbound (loanEntry vehicle bay id expected)

/-- The ask closes: its places are released and the starvation start begins again (R90, R106,
R109). -/
def Blocks.closeAsk (e : Env) (b : Blocks) : Blocks :=
  ((b.modDU fun d => { d with ask := none }).restartStarve e).wantCall

/-- A LOAN, for the open ask or late (R109). -/
def Blocks.takeLoan (e : Env) (bay : Nat) (id : Id8) (eta : Nat) (vehicles : List Nat) (b : Blocks) :
    Blocks :=
  let expected := b.arrivalTime e bay eta
  let before := b.zc.inbound.length
  if b.du.ask.any fun a => a.lender == bay && a.id == id then
    let b := vehicles.foldl (Blocks.lendOne bay id expected) b
    (b.closeAsk e).bumpBy .loansReceived (b.zc.inbound.length - before)
  else
    let b := vehicles.foldl (Blocks.lendLate bay id expected) b
    b.bumpBy .loansReceived (b.zc.inbound.length - before)

/-- LOAN (R109). -/
def execLoan (sender : Bay) (id : Id8) (eta : Nat) (vehicles : List Nat) (s : State) : Answered :=
  .next (s.heardFrom sender (.loan id eta vehicles) fun e b =>
    b.takeLoan e sender.val id eta vehicles)

/-! ### CONSIGN (R118, R125) -/

/-- A CONSIGN marks a loaded vehicle that is already on the roster: arrival details, and the tag where
the echoed one differs (R118). The tag of a vehicle bound to a move of this node is no echoed one and
stays, and a tag of this bay binds no vehicle here (R42, log 31). A vehicle whose entry is marked RELEARN,
in a state that is not known, is not marked (DESIGN CHOICE, log 74). -/
def Blocks.markConsigned (e : Env) (bay : Nat) (id : Id8) (v : Vehicle) (tag : Tag) (dest : Nat)
    (cls : MoveClass) (carrier : Option CarrierId) (b : Blocks) : Blocks :=
  let carries := v.state == .loaded || v.state == .loadedWait || v.state == .unloading
  if !carries ∨ v.relearn then b
  else
    let own := v.bound.any e.ownTag
    let old := if own then none else v.job.bind Job.tag
    let b := b.modVehicle v.id fun x =>
      { x with
        bound := if own ∨ e.ownTag tag then x.bound else some tag
        job := if own then x.job else x.job.map fun j => { j with tag := some tag }
        unexpected := false
        arrival := some {
          kind := .loaded
          source := bay
          tag := some tag
          ref := id
          dest := some dest
          cls := some cls
          carrierId := carrier
          recirc := (x.arrival.map Arrival.recirc).getD 0 } }
    match old with
    | none => b
    | some t => b.modStations (updWhere (fun s => s.reservation == some t) fun s =>
        { s with reservation := some tag })

/-- Checks 6 to 8: an entry of another kind is removed, and the room decides (R125). -/
def Blocks.consignRoom (e : Env) (bay : Nat) (id : Id8) (vehicle : Nat) (tag : Tag) (dest : Nat)
    (cls : MoveClass) (carrier : Option CarrierId) (eta : Nat) (b : Blocks) :
    AcceptResult × Blocks :=
  let b := b.removeInbound e vehicle
  if b.room = 0 then (.busy, b)
  else
    (.taken, (b.addInbound {
      vehicle := vehicle
      kind := .loaded
      source := bay
      tag := some tag
      ref := id
      dest := some dest
      cls := some cls
      carrierId := carrier
      expected := b.arrivalTime e bay eta
      recirc := 0
      late := false }).reserve dest tag)

/-- The answer to a CONSIGN and what taking it does, by the first check that applies (R125); none in
HALTED. -/
def Blocks.judgeConsign (e : Env) (bay : Nat) (id : Id8) (vehicle : Nat) (tag : Tag) (dest : Nat)
    (cls : MoveClass) (carrier : Option CarrierId) (eta : Nat) (b : Blocks) :
    Option (AcceptResult × Blocks) :=
  if e.node.halted then none
  else if e.node = .listen then some (.busy, b)
  else if (b.station? dest).isNone then some (.unknownStation, b)
  else
    match b.zc.inbound.find? fun i => i.kind == .loaded && i.source == bay && i.ref == id with
    | some i =>
      some (.taken, b.moveInbound { i with expected := b.arrivalTime e bay eta, late := false })
    | none =>
      match b.vehicle? vehicle with
      | some v => some (.taken, b.markConsigned e bay id v tag dest cls carrier)
      | none => some (b.consignRoom e bay id vehicle tag dest cls carrier eta)

/-- CONSIGN (R125): the answer goes to the sender. -/
def execConsign (sender : Bay) (id : Id8) (vehicle : Nat) (tag : Tag) (dest : Nat) (cls : MoveClass)
    (carrier : Option CarrierId) (eta : Nat) (s : State) : Answered :=
  .next (s.heardFrom sender (.consign id vehicle tag dest cls carrier eta) fun e b =>
    match b.judgeConsign e sender.val id vehicle tag dest cls carrier eta with
    | none => b
    | some (r, b) => b.toBay e sender.val (.accept id vehicle r))

/-! ### ACCEPT and DONE (R57, R121) -/

/-- The move an ACCEPT is taken for (R121). -/
def Blocks.acceptedMove (b : Blocks) (id : Id8) (vehicle : Nat) : Option Move :=
  b.moveList.find? fun m =>
    m.consignId == some id && m.vehicle == some vehicle && m.state == .carrying && m.wait.isSome

/-- An ACCEPT acts by its result and the phase of the wait (R121). A FAULTED vehicle is sent back when it
recovers, by `Blocks.takeUp`. -/
def Blocks.takeAccept (e : Env) (bay : Nat) (id : Id8) (vehicle : Nat) (r : AcceptResult)
    (b : Blocks) : Blocks :=
  match b.acceptedMove id vehicle with
  | none => b
  | some m =>
    match r with
    | .taken =>
      ((b.modVehicle vehicle fun v => { v with clearance := !v.relearn }).modMove m.tag fun x =>
        { x with consignee := some bay, wait := none, cleared := true }).bump .taken
    | .busy =>
      if m.wait.any ConsignWait.retry then b
      else (b.modMove m.tag fun x =>
        { x with wait := some { retry := true, deadline := after e.now (e.cfg.wRetry * 1000) } }
          ).bump .busy
    | .unknownStation =>
      (if b.carrierFaulted m then (b.modMove m.tag Move.returned).reserve m.source m.tag
        else b.returnMove e m.tag).bump .consignReturned

/-- ACCEPT (R121). -/
def execAccept (sender : Bay) (id : Id8) (vehicle : Nat) (result : AcceptResult) (s : State) :
    Answered :=
  .next (s.heardFrom sender (.accept id vehicle result) fun e b =>
    b.takeAccept e sender.val id vehicle result)

/-- The record a DONE is taken for: CONSIGNED or SUSPENDED, not POISONED, its consignee the sender
(R57, R63). -/
def Blocks.doneMove (e : Env) (b : Blocks) (bay : Nat) (tag : Tag) : Option Move :=
  if e.ownTag tag then
    (b.move? tag).filter fun m => !m.poisoned && m.consignee == some bay &&
      (m.state == .consigned || m.state == .suspended)
  else none

/-- A DONE (R57); any other is counted as stray. A move that it leaves SUSPENDED loses its reservation
(R32). -/
def Blocks.takeDone (e : Env) (bay : Nat) (tag : Tag) (vehicle : Nat) (o : DoneOutcome)
    (b : Blocks) : Blocks :=
  match b.doneMove e bay tag with
  | none => b.bump .strayDone
  | some _ =>
    match o with
    | .deliveredPort _ => b.freeMove e tag .delivered
    | .deliveredShelf _ => b.freeMove e tag .deliveredToShelf
    | .fault true => (b.modMove tag fun m =>
        { m with state := .suspended, endMethod := some .held, vehicle := some vehicle }
          ).dropDelivery e tag
    | .fault false => b.strand e tag
    | .missing => b.strand e tag

/-- DONE (R57). -/
def execDone (sender : Bay) (tag : Tag) (vehicle : Nat) (outcome : DoneOutcome) (s : State) :
    Answered :=
  .next (s.heardFrom sender (.done tag vehicle outcome) fun e b =>
    b.takeDone e sender.val tag vehicle outcome)

end Sys2Proof.Machine
end

