-- ==== Sys2Proof/Machine/StationLink.lean ====
section
/-! DEFINITION. The meanings of the station-link commands: MOVE-REQ, CANCEL-REQ, PORT-STATE,
SHELF-STATE and a bad frame (R26, R28, R29, R43, R58). -/
namespace Sys2Proof.Machine

/-- MOVE-ACK with a refusal code; the refusal is counted (R43, R58). -/
def Blocks.refuseMove (c : RefusalCode) (tag : Option Tag) (b : Blocks) : Blocks :=
  (b.emitStation (.refused c tag)).bump (.refusal c)

/-- MOVE_REQ (R26, R43, R44): the checks in order, then acceptance. -/
def execMoveReq (source dest : Nat) (cls : MoveClass) (carrier : Option CarrierId)
    (deadline : Option Nat) (s : State) : Answered :=
  .next (s.run fun e b =>
    if !e.node.running then b
    else
      match b.checkMove e source dest with
      | some c => b.refuseMove c none
      | none =>
        let m := b.newMove e source dest cls carrier deadline
        (b.emitStation (.accepted m.tag)).acceptMove e m)

/-- A move that has not begun to load can be cancelled (R58). -/
def MoveState.cancellable : MoveState → Bool
  | .waiting => true
  | .calling => true
  | .awarded => true
  | .bound => true
  | _ => false

/-- CANCEL_REQ (R58). -/
def execCancelReq (tag : Tag) (s : State) : Answered :=
  .next (s.run fun e b =>
    if !e.node.running then b
    else
      match (if e.ownTag tag then b.move? tag else none) with
      | none => b.refuseMove .unknownTag (some tag)
      | some m =>
        if m.state.cancellable then b.freeMove e tag .cancelled
        else b.refuseMove .tooLate (some tag))

/-! ### PORT-STATE (R28) -/

/-- The state a PORT-STATE reports. -/
def portState : PortReport → StationState
  | .empty => .empty
  | .occupied => .occupied
  | .offline => .offline

/-- A port is reported OFFLINE: the vehicles whose hoist works at it keep that in mind (R30, log 50). What the
entry of a vehicle marked RELEARN keeps of it is unknown (DESIGN CHOICE, log 97). -/
def Blocks.markPortOff (n : Nat) (b : Blocks) : Blocks :=
  b.modRoster (updWhere (fun v =>
      (v.state == .loading && v.aim .load == some n) ||
        (v.state == .unloading && v.aim .unload == some n))
    fun v => { v with portOff := true })

/-- A port leaves EMPTY by a report: its reservation is dropped, its delivery decided again, and the
follow-ons that wait for it are no longer due (R28, R35, R37). -/
def Blocks.closePort (e : Env) (s : Station) (st : StationState) (carrier : Option CarrierId)
    (b : Blocks) : Blocks :=
  let b := b.modStation s.number fun x =>
    { x with state := st, carrierId := carrier, reservation := none }
  let b := (b.clearDue s.number).reevaluateOwn e
  match s.reservation with
  | some t => b.redecide e s.number s.segment t
  | none => b

/-- A port becomes EMPTY by a report: its move is told, and the port is offered (R28). -/
def Blocks.emptyPort (e : Env) (s : Station) (b : Blocks) : Blocks :=
  let b := (b.modStation s.number fun x =>
    { x with state := .empty, carrierId := none }).reevaluateOwn e
  let b := match s.active with
    | some t => b.sourceGone e t
    | none => b
  b.offerPort e s.number

/-- PORT_STATE (R26, R28). -/
def execPortState (station : Nat) (st : PortReport) (carrier : Option CarrierId) (s : State) :
    Answered :=
  .next (s.run fun e b =>
    if !e.node.running ∨ !b.si.linkReset then b
    else
      match b.station? station with
      | none => b
      | some x =>
        let read := if st = .occupied then carrier else none
        let b := if x.kind = .port ∧ st = .offline then b.markPortOff station else b
        if x.kind = .shelf ∨ (x.state = portState st ∧ x.carrierId = read) then b
        else if st = .empty then b.emptyPort e x
        else b.closePort e x (portState st) read)

/-! ### SHELF-STATE (R29) -/

/-- A SHELF-STATE of DISABLED (R29). -/
def Blocks.reportDisabled (e : Env) (s : Station) (b : Blocks) : Blocks :=
  match s.state with
  | .free =>
    if b.unloadingAt s.number then
      b.modStation s.number fun x => { x with disablePending := true }
    else
      let b := (b.modStation s.number fun x =>
        { x with state := .disabled, reservation := none }).reevaluateOwn e
      match s.reservation with
      | some t => b.redecide e s.number s.segment t
      | none => b
  | .holding =>
    if b.loadingAt s.number then
      (b.modStation s.number fun x =>
        { x with state := .disabled, reservation := none, followOnDue := false }).reevaluateOwn e
    else (b.leftForFloor e s.number).reevaluateOwn e
  | _ => b

/-- A DISABLED shelf returns to service, by SHELF-STATE FREE or by RESTORE-SHELF (R29, R36, R39). -/
def Blocks.freeShelf (e : Env) (n : Nat) (b : Blocks) : Blocks :=
  ((b.modStation n Station.freed).reevaluateOwn e).offerShelf e n

/-- A SHELF-STATE of FREE (R29). -/
def Blocks.reportFree (e : Env) (s : Station) (b : Blocks) : Blocks :=
  if s.state = .disabled then b.freeShelf e s.number
  else b.modStation s.number fun x => { x with disablePending := false }

/-- SHELF_STATE (R26, R29). -/
def execShelfState (station : Nat) (disabled : Bool) (s : State) : Answered :=
  .next (s.run fun e b =>
    if !e.node.running ∨ !b.si.linkReset then b
    else
      match b.station? station with
      | none => b
      | some x =>
        if x.kind = .port then b
        else if disabled then b.reportDisabled e x
        else b.reportFree e x)

/-- STATION_FRAME_BAD (R26): the frame is discarded and no answer is sent. -/
def execStationFrameBad (s : State) : Answered := .next (s.runPlain fun _ b => b)

end Sys2Proof.Machine
end

