-- ==== Sys2Proof/Machine/Arrival.lean ====
section
/-! DEFINITION. Vehicles that come into the roster: the decision at the divert point, admission,
refusal, misrouted vehicles, orphans, roll-call answers, and the refused enter job (R21, R113 to
R119). -/
namespace Sys2Proof.Machine

/-- BLOCKED is recorded as STOPPED (R7). -/
def recordedMotion : Motion → Motion
  | .moving => .moving
  | _ => .stopped

/-- A roster entry made from a REPORT (R7, R10). Its idle since is the present node time until an
entry into IDLE sets it (log 24). BLOCKED is recorded as STOPPED and is no segment fault here (DESIGN CHOICE,
log 90). -/
def newVehicle (e : Env) (r : Report) (seg : Nat) (st : RosterState) : Vehicle where
  id := r.vehicle
  segment := seg
  motion := recordedMotion r.motion
  carrier := r.carrier
  carrierId := r.carrierId
  hoist := r.hoist
  level := r.level
  state := st
  bound := none
  reserved := false
  job := none
  echo := none
  grant := none
  clearance := false
  lastReport := e.now
  missed := 0
  idleSince := e.now
  unexpected := false
  arrival := none
  relearn := false
  capture := none
  blocked := none
  jobDone := false
  phase := st
  portOff := false
  given := false

/-- Makes a roster entry; it takes the free entry of the lowest index (log 7). -/
def Blocks.enterRoster (v : Vehicle) (b : Blocks) : Blocks := b.modRoster (putFree v)

/-! ### Orphans (R119) -/

/-- Binds a loaded vehicle to the tag it carries: a tag of another home bay always, a tag of this
bay when it names a CONSIGNED record, which becomes CARRYING again (R119, R123). -/
def Blocks.bindOrphan (e : Env) (id : Nat) (tag : Option Tag) (b : Blocks) : Blocks :=
  match tag with
  | none => b
  | some t =>
    let bound := b.modVehicle id fun v => { v with bound := some t }
    if e.ownTag t then
      if (b.move? t).any fun m => m.state == .consigned then
        bound.modMove t fun m => { m with state := .carrying, vehicle := some id, wait := none }
      else b
    else bound

/-! ### Admission (R114) -/

/-- The enter job; it carries the tag and the destination of a loaded vehicle (log 11). -/
def enterJob (tag : Option Tag) (dest : Option Nat) : Job where
  target := .segment 1
  action := .pass
  tag := tag
  dest := dest
  destBay := none

/-- The arrival details that an Inbound entry leaves with the roster entry (R114). -/
def Inbound.details (i : Inbound) : Arrival where
  kind := i.kind
  source := i.source
  tag := i.tag
  ref := i.ref
  dest := i.dest
  cls := i.cls
  carrierId := i.carrierId
  recirc := i.recirc

/-- Fault level MINOR in the REPORT that makes a roster entry is passed to FU (R16, R159). -/
def Blocks.minorFault (r : Report) (b : Blocks) : Blocks :=
  if r.level = .minor then b.setFlag .vehicle else b

/-- Makes the ENTERING entry of an admitted vehicle and sends the enter job (R114). A REPORT with fault
level MAJOR admits as well, and passes no fault to FU: the vehicle's next REPORT does (DESIGN CHOICE,
log 73). -/
def Blocks.takeIn (e : Env) (r : Report) (entry : Option Inbound) (tag : Option Tag)
    (dest : Option Nat) (b : Blocks) : Blocks :=
  let v : Vehicle :=
    { newVehicle e r 0 .entering with
      unexpected := entry.isNone
      arrival := entry.map Inbound.details
      capture := some { marker := .divert, time := e.now, stopped := false } }
  let b := (((b.enterRoster v).sendGoto e r.vehicle (enterJob tag dest)).bump .admissions
    ).minorFault r
  if entry.isSome then b.dropInbound r.vehicle else b

/-- Admits a vehicle that has an entry (R114). -/
def Blocks.admitEntry (e : Env) (r : Report) (i : Inbound) (b : Blocks) : Blocks :=
  match i.kind with
  | .loaded => (b.takeIn e r (some i) i.tag i.dest).bindOrphan e r.vehicle i.tag
  | .emptyForMove =>
    (b.takeIn e r (some i) none none).modVehicle r.vehicle fun v => { v with bound := i.tag }
  | .loan => b.takeIn e r (some i) none none

/-- Admits an orphan (R114, R119, log 25). -/
def Blocks.admitOrphan (e : Env) (r : Report) (b : Blocks) : Blocks :=
  ((b.takeIn e r none r.echo.tag r.echo.dest).bump .orphans).bindOrphan e r.vehicle r.echo.tag

/-! ### Refusal (R115, R117) -/

/-- Refuses a vehicle: RECIRCULATE back to this bay, the rest of its job kept; its entry, if any,
moves on by one loop time (R115, log 11). -/
def Blocks.refuse (e : Env) (r : Report) (entry : Option Inbound) (b : Blocks) : Blocks :=
  let b := (b.emitZone (.goto r.vehicle
    (recirculateJob r.echo.tag r.echo.dest (some e.cfg.bay.val)))).bump .recirculations
  match entry with
  | none => b
  | some i => b.moveInbound
      { i with
        recirc := min (i.recirc + 1) 7
        expected := after i.expected (b.loopTime e * 100)
        late := false }

/-- Sends a misrouted vehicle on: to the owner of its destination, or with its destination bay
unchanged (R117). -/
def Blocks.misroute (e : Env) (r : Report) (b : Blocks) : Blocks :=
  let bay := (r.echo.dest.bind (b.owner e)) <|> r.echo.destBay
  (b.emitZone (.goto r.vehicle (recirculateJob r.echo.tag r.echo.dest bay))).bump .misrouted

/-! ### The decision at the divert point (R113) -/

/-- The vehicle's condition contradicts its entry (R117). -/
def Inbound.contradicts (i : Inbound) (carrier : Bool) : Bool :=
  match i.kind with
  | .loaded => !carrier
  | _ => carrier

/-- Segment 0 has room (R113). -/
def Blocks.spurRoom (b : Blocks) : Bool := decide (b.occupancy 0 < b.working 0)

/-- The decision for a vehicle whose condition does not contradict its entry (R113, R117). The node's own
vehicle that comes round for a destination outside the window and has no entry is misrouted by R117, though
R123 calls it an orphan (DESIGN CHOICE, log 83). -/
def Blocks.decideDivert (e : Env) (r : Report) (b : Blocks) : Blocks :=
  let f := b.freeSlots
  match b.inbound? r.vehicle with
  | some i =>
    let need := if r.carrier then 1 else 1 + e.cfg.rLoaded
    if need ≤ f ∧ b.spurRoom then b.admitEntry e r i else b.refuse e r (some i)
  | none =>
    if r.carrier then
      if r.echo.dest.any e.inWindow then
        if 1 ≤ f ∧ b.spurRoom then b.admitOrphan e r else b.refuse e r none
      else b.misroute e r
    else if 1 + e.cfg.rLoaded ≤ f ∧ b.spurRoom ∧ b.fu.recovery ≠ .restricted ∧ !b.ti.holding then
      b.takeIn e r none none none
    else b.refuse e r none

/-- Decides a REPORT at the divert marker; an entry that the vehicle contradicts is removed first
with the effects of MISSING (R113, R117). Decisions are made in READY and CONFLICT. -/
def Blocks.divert (e : Env) (r : Report) (b : Blocks) : Blocks :=
  if e.node = .ready ∨ e.node = .conflict then
    (if (b.inbound? r.vehicle).any fun i => i.contradicts r.carrier
      then b.removeInbound e r.vehicle else b).decideDivert e r
  else b

/-! ### Roll call (R20, R21) -/

/-- Enters a loaded vehicle found in the zone (R21). -/
def Blocks.enterLoaded (e : Env) (r : Report) (seg dest : Nat) (b : Blocks) : Blocks :=
  if e.inWindow dest then
    let b := (b.enterRoster (newVehicle e r seg .loaded)).bindOrphan e r.vehicle r.echo.tag
    b.sendUnload e r.vehicle dest r.echo.tag dest
  else
    let bay := (b.owner e dest) <|> r.echo.destBay
    let v : Vehicle := { newVehicle e r seg .toExit with clearance := true }
    (b.enterRoster v).sendGoto e r.vehicle
      { exitJob r.echo.tag (some dest) 0 with destBay := bay }

/-- Enters a vehicle that answers roll call from segment `seg` (R21). A motion BLOCKED in the answer raises no
segment fault and sets no blocked mark, until the vehicle's next REPORT (DESIGN CHOICE, log 90). -/
def Blocks.enterAnswer (e : Env) (r : Report) (seg : Nat) (b : Blocks) : Blocks :=
  if b.freeSlots = 0 then b
  else
    let b := (b.removeInbound e r.vehicle).minorFault r
    if r.level = .major ∨ hoistWorking r.hoist then
      (b.enterRoster (newVehicle e r seg .faulted)).setFlag .vehicle
    else if !r.carrier then
      (b.enterRoster (newVehicle e r seg .idle)).makeIdle e r.vehicle
    else
      match r.echo.dest with
      | some d => b.enterLoaded e r seg d
      | none => b.enterRoster (newVehicle e r seg .faulted)

/-- A roll-call answer or late answer from a vehicle not on the roster; a place that is no segment
of the zone enters nothing (R6, R21). -/
def Blocks.answer (e : Env) (r : Report) (b : Blocks) : Blocks :=
  match r.place with
  | .segment n => if n ≤ e.exitSeg then b.enterAnswer e r n else b
  | _ => b

/-! ### The refused enter job (R12, R116) -/

/-- The entry that arrival details stood for, made anew. -/
def Arrival.entry (id : Nat) (expected : Time) (a : Arrival) : Inbound where
  vehicle := id
  kind := a.kind
  source := a.source
  tag := a.tag
  ref := a.ref
  dest := a.dest
  cls := a.cls
  carrierId := a.carrierId
  expected := expected
  recirc := min (a.recirc + 1) 7
  late := false

/-- A vehicle that passed the switch before its enter job reached it: its roster entry is removed,
its move of this bay is CONSIGNED again, and its Inbound entry is restored while there is room (R116). A
vehicle sent for a move of this bay whose arrival details a parity error took is on neither table, and its
move waits again (R168, log 80). A move that a fault in ENTERING has made SUSPENDED stays so (DESIGN CHOICE,
log 91). -/
def Blocks.enterRefused (e : Env) (v : Vehicle) (b : Blocks) : Blocks :=
  let b := (b.removeVehicle v.id).bump .recirculations
  let b := match v.bound with
    | some t =>
      if e.ownTag t ∧ (b.move? t).any fun m => m.state == .carrying then
        b.modMove t fun m => { m with state := .consigned, wait := none }
      else b
    | none => b
  match v.arrival with
  | none => if v.bound.any e.ownTag then b.reclaimBound e else b
  | some a =>
    let i := a.entry v.id (e.inDs (b.loopTime e))
    if 1 ≤ b.room then b.addInbound i else b.missingEffects e i

end Sys2Proof.Machine
end

