-- ==== Sys2Proof/Machine/Hoists.lean ====
section
/-! DEFINITION. Hoist work at a station: what a load or unload that completes or fails does to the
station, the move and the vehicle (R13, R14, R30, R38, R49 to R51, R55, R124, R126). -/
namespace Sys2Proof.Machine

/-! ### Stations (R30, R38) -/

/-- The own offline list has lost a port, by the node's own hoist work (R39, R47). -/
def Blocks.portBack (e : Env) (s : Station) (b : Blocks) : Blocks :=
  if s.state = .offline then b.reevaluateOwn e else b

/-- A load completes at station `n`; `off` says that the port was reported OFFLINE while the hoist worked
at it (R30, log 50). A shelf that a DISABLED report took out of service during the load and a FREE report
returned to it is left FREE (DESIGN CHOICE, log 105). -/
def Blocks.loadDone (e : Env) (n : Nat) (off : Bool) (b : Blocks) : Blocks :=
  match b.station? n with
  | none => b
  | some s =>
    match s.kind with
    | .port =>
      if s.state = .offline ∧ off then b
      else ((b.modStation n fun x => { x with state := .empty, carrierId := none }).portBack e s
        ).offerPort e n
    | .shelf =>
      if s.state = .disabled ∨ s.disablePending then
        (b.modStation n fun x =>
          { x.emptied with state := .disabled, reservation := none, disablePending := false }
          ).reevaluateOwn e
      else (b.modStation n fun x => { x.emptied with state := .free }).offerShelf e n

/-- A carrier has been set down on a shelf whose final destination is a port that stands EMPTY,
unreserved and wanted by no waiting vehicle: the follow-on is raised at once (R37). -/
def Blocks.raiseFollowOn (e : Env) (port : Nat) (b : Blocks) : Blocks :=
  if (b.oldestWaiter fun j => j.dest == some port).isSome then b else b.offerPort e port

/-- An unload completes at station `n`; `dest` is the job's destination station, and `off` says that the
port was reported OFFLINE while the hoist worked at it (R30, log 50). A shelf that is DISABLED already, with
no disable pending, becomes HOLDING as any other and so is in service again (DESIGN CHOICE, log 95). -/
def Blocks.unloadDone (e : Env) (n : Nat) (off : Bool) (carrier : Option CarrierId)
    (dest : Option Nat) (cls : MoveClass) (b : Blocks) : Blocks :=
  match b.station? n with
  | none => b
  | some s =>
    match s.kind with
    | .port =>
      if s.state = .offline ∧ off then b.modStation n fun x => { x with reservation := none }
      else ((b.modStation n fun x =>
        { x with state := .occupied, carrierId := carrier, reservation := none }).clearDue n
        ).portBack e s
    | .shelf =>
      let final := dest.filter fun d => d != n
      let b := b.modStation n fun x =>
        { x with
          state := .holding
          reservation := none
          carrierId := carrier
          finalDest := final
          heldClass := some cls
          holdingSince := some e.now
          hoistFailures := 0 }
      if s.disablePending then (b.leftForFloor e n).reevaluateOwn e
      else
        let b := if s.state = .disabled then b.reevaluateOwn e else b
        match final with
        | some port => b.raiseFollowOn e port
        | none => b

/-- A shelf becomes DISABLED by its own failures, or by a disable that was pending (R30, R38). -/
def Blocks.disableShelf (e : Env) (n : Nat) (b : Blocks) : Blocks :=
  if (b.station? n).any fun s => s.state == .holding then (b.leftForFloor e n).reevaluateOwn e
  else
    (b.modStation n fun s =>
      { s with
        state := .disabled
        reservation := none
        followOnDue := false
        disablePending := false }).reevaluateOwn e

/-- A shelf hoist failure that left the carrier where it was is counted; the second in a row
disables the shelf (R38). -/
def Blocks.shelfFailure (e : Env) (s : Station) (b : Blocks) : Blocks :=
  let n := min (s.hoistFailures + 1) 2
  let b := (b.setFlag .shelf).modStation s.number fun x => { x with hoistFailures := n }
  if 2 ≤ n ∧ s.state ≠ .disabled then b.disableShelf e s.number else b

/-- A load fails at a station (R30, R38). -/
def Blocks.loadFailedAt (e : Env) (n : Nat) (hoist : Hoist) (carrier : Bool) (b : Blocks) : Blocks :=
  match b.station? n with
  | none => b
  | some s => if s.kind = Kind.shelf ∧ hoist = .failed ∧ !carrier then b.shelfFailure e s else b

/-- An unload fails at a station; the reservation of its delivery is dropped, and a disable that was pending
is carried out (R30, R38). An unload that a MAJOR fault or silence cuts short is no failed one and leaves
disable pending set on the FREE shelf (DESIGN CHOICE, log 64). -/
def Blocks.unloadFailedAt (e : Env) (n : Nat) (tag : Option Tag) (carrier : Bool) (b : Blocks) :
    Blocks :=
  let b : Blocks := match b.station? n with
    | none => b
    | some s => if s.kind = Kind.shelf ∧ carrier then b.shelfFailure e s else b
  let b := if (b.station? n).any Station.disablePending then b.disableShelf e n else b
  match tag with
  | some t => b.dropDelivery e t
  | none => b

/-! ### Loading (R13, R49 to R51) -/

/-- Two carrier ids are present and differ (R51). -/
def mismatch : Option CarrierId → Option CarrierId → Bool
  | some a, some c => a != c
  | _, _ => false

/-- A load completes: the carrier check, the station, and the vehicle sent on (R50 to R52,
log 26). -/
def Blocks.loadComplete (e : Env) (v : Vehicle) (m : Move) (b : Blocks) : Blocks :=
  let id := v.id
  let read := v.carrierId
  let b := b.modVehicle id fun x => { x with jobDone := true }
  let differs := mismatch m.carrierId read
  let b := if differs then b.bump .mismatch else b
  if differs ∧ e.cfg.checkMode = .holdMismatch then
    (((b.modMove m.tag fun x =>
      { x with
        state := .suspended
        endMethod := some .held
        checkHold := true
        lastHoist := .done }).loadDone e m.source v.portOff).dropDelivery e m.tag).setFlag .carrier
  else
    let b := b.modMove m.tag fun x =>
      { x with carrierId := m.carrierId <|> read, state := .carrying, lastHoist := .done }
    let b := b.loadDone e m.source v.portOff
    if differs ∧ e.cfg.checkMode = .ret then b.returnMove e m.tag
    else if b.ownsStation e m.dest then
      (b.reserve m.dest m.tag).sendUnload e id m.dest (some m.tag) m.dest
    else b.sendExit e m id true

/-- A load fails: the station, then the Fault Unit, which makes the vehicle FAULTED (R13, R160). -/
def Blocks.loadFailed (e : Env) (v : Vehicle) (m : Move) (b : Blocks) : Blocks :=
  ((b.loadFailedAt e m.source v.hoist v.carrier).becomeFaulted v.id).vehicleFault e v .loadFailed

/-- A hoist state of LOADING (R13, R49). -/
def Blocks.loadHoist (e : Env) (v : Vehicle) (m : Move) (b : Blocks) : Blocks :=
  let b := b.modMove m.tag fun x => { x with lastHoist := v.hoist }
  if v.hoist = .done ∧ v.carrier then b.loadComplete e v m
  else if v.hoist = .done ∨ v.hoist = .failed then b.loadFailed e v m
  else b

/-- The hoist shows work that lowers, grips or raises (R13, R14). -/
def hoistMoves : Hoist → Bool
  | .lowering => true
  | .gripped => true
  | .raising => true
  | _ => false

/-- The vehicle's job aims it at a station for `a`, and the REPORT shows the vehicle acting under a
job of the same target and action (R13, R14, log 27). -/
def Vehicle.under (v : Vehicle) (a : Action) (echo : Job) : Bool :=
  (v.aim a).isSome && v.job.any fun j => j.target == echo.target && j.action == echo.action

/-- The first REPORT of hoist work: a moving hoist, or the job echoed as DONE (R13, R14). -/
def Vehicle.begins (v : Vehicle) (a : Action) (r : Report) : Bool :=
  (v.under a r.echo && hoistMoves r.hoist) ||
    ((v.aim a).isSome && r.jobDone && v.job == some r.echo)

/-- The hoist state of a first REPORT is taken at once when it lies beyond LOWERING (R13, R14). -/
def hoistBeyond : Hoist → Bool
  | .gripped => true
  | .raising => true
  | .done => true
  | .failed => true
  | _ => false

/-- The hoist begins its work at a station: the vehicle becomes LOADING or UNLOADING, and no report of the
port has come since (R13, R14, R30). -/
def Blocks.beginHoist (id : Nat) (st : RosterState) (b : Blocks) : Blocks :=
  b.modVehicle id fun v => { v with state := st, portOff := false }

/-- The transitions at the source station (R13). A LOAD job of an older move starts no load (R81, R82). -/
def Blocks.loadStep (e : Env) (r : Report) (b : Blocks) : Blocks :=
  match b.vehicle? r.vehicle with
  | none => b
  | some v =>
    match (v.bound.filter e.ownTag).bind b.move? with
    | none => b
    | some m =>
      if v.state = .toSource ∧ m.state = .bound ∧ v.holdsLoad ∧ v.begins .load r then
        let v' := { v with state := .loading, portOff := false }
        let m' := { m with state := .loading, lastHoist := .lowering }
        let b := (b.beginHoist v.id .loading).modMove m.tag fun _ => m'
        if hoistBeyond r.hoist then b.loadHoist e v' m' else b
      else if v.state = .loading ∧ m.state = .loading then b.loadHoist e v m
      else b

/-! ### Unloading (R14, R55, R124, R126) -/

/-- The class a held carrier takes: of the move, of the consignment, or NORMAL (R30). -/
def Blocks.carriedClass (e : Env) (b : Blocks) (v : Vehicle) : MoveClass :=
  match (v.bound.filter e.ownTag).bind b.move? with
  | some m => m.cls
  | none => (v.arrival.bind Arrival.cls).getD .normal

/-- A carrier for another bay has been set down on a shelf here: its move waits at that shelf
(R57, R124, log 42). -/
def Blocks.shelved (e : Env) (m : Move) (id n : Nat) (b : Blocks) : Blocks :=
  let b := (b.clearActive m.tag).setActive n m.tag
  let b := b.modMove m.tag fun x => { x with source := n, shelfSourced := true }
  let b := b.enterWaiting e m.tag true
  let b := (b.unbind id).makeIdle e id
  if (b.station? n).any fun s => s.state == .disabled then b.sourceGone e m.tag else b

/-- The delivery that ends at station `n` was turned aside: it ends away from the job's destination, or at
a shelf that was given to the vehicle in the wait queue (R30, R36, log 79). -/
def Blocks.turnedAside (b : Blocks) (v : Vehicle) (n : Nat) : Bool :=
  v.job.bind Job.dest != some n || (v.given && (b.station? n).any fun s => s.kind == .shelf)

/-- An unload completes (R14, R30, R55, R124, R126). `read` is the carrier id the vehicle read. For a move
that is no longer CARRYING it is no completion (R160). -/
def Blocks.unloadComplete (e : Env) (v : Vehicle) (n : Nat) (read : Option CarrierId) (b : Blocks) :
    Blocks :=
  let dest := v.job.bind Job.dest
  let shelf := (b.station? n).any fun s => s.kind == .shelf
  let aside := b.turnedAside v n
  let move := (v.bound.filter e.ownTag).bind b.move?
  let b := b.modVehicle v.id fun x => { x with jobDone := true }
  let b := b.unloadDone e n v.portOff read dest (b.carriedClass e v)
  match move with
  | some m =>
    if m.state ≠ .carrying then (b.unbind v.id).makeIdle e v.id
    else if m.dest ≠ m.source ∧ !e.inWindow m.dest then b.shelved e m v.id n
    else
      let b := if aside ∧ shelf then b.bump .toShelf else b
      b.freeMove e m.tag
        (if m.dest = m.source then .returned else if aside then .deliveredToShelf else .delivered)
  | none =>
    let b := if aside ∧ shelf then b.bump .toShelf else b
    let b := match v.bound with
      | some t => b.sendDone e t v.id
          (if aside then .deliveredShelf (some n) else .deliveredPort (some n))
      | none => b
    (b.unbind v.id).makeIdle e v.id

/-- An unload fails: the station, then the Fault Unit (R14, R160). -/
def Blocks.unloadFailed (e : Env) (v : Vehicle) (n : Nat) (b : Blocks) : Blocks :=
  ((b.unloadFailedAt e n (v.job.bind Job.tag) v.carrier).becomeFaulted v.id).vehicleFault e v
    .unloadFailed

/-- A hoist state of UNLOADING (R14). -/
def Blocks.unloadHoist (e : Env) (v : Vehicle) (n : Nat) (read : Option CarrierId) (b : Blocks) :
    Blocks :=
  let b := match v.bound.filter e.ownTag with
    | some t => b.modMove t fun x => { x with lastHoist := v.hoist }
    | none => b
  if v.hoist = .done ∧ !v.carrier then b.unloadComplete e v n read
  else if v.hoist = .done ∨ v.hoist = .failed then b.unloadFailed e v n
  else b

/-- The transitions at the delivery target (R14). -/
def Blocks.unloadStep (e : Env) (r : Report) (read : Option CarrierId) (b : Blocks) : Blocks :=
  match b.vehicle? r.vehicle with
  | none => b
  | some v =>
    match v.aim .unload with
    | none => b
    | some n =>
      if v.state = .loaded ∧ v.begins .unload r then
        let v' := { v with state := .unloading, portOff := false }
        let b := b.beginHoist v.id .unloading
        if r.hoist = .idle then b else b.unloadHoist e v' n read
      else if v.state = .unloading then b.unloadHoist e v n read
      else b

end Sys2Proof.Machine
end

