-- ==== Sys2Proof/Machine/Reports.lean ====
section
/-! DEFINITION. What a REPORT from a roster vehicle does: its fields and its place, the job echo, the
rebuilding of a RELEARN entry, and the transitions of R12 to R19 (R7 to R19, R22). -/
namespace Sys2Proof.Machine

/-! ### Polls without an answer (R9) -/

/-- A POLL got no well-formed REPORT (R9). -/
def Blocks.missPoll (e : Env) (id : Nat) (b : Blocks) : Blocks :=
  match b.vehicle? id with
  | none => b
  | some v =>
    let n := min (v.missed + 1) 3
    let b := b.modVehicle id fun x => { x with missed := n }
    if n = 3 ∧ v.state ≠ .silent then b.becomeSilent e { v with missed := n } else b

/-- The place names no segment beyond L+1 (R7). -/
def placed (e : Env) (r : Report) : Bool :=
  match r.place with
  | .segment n => decide (n ≤ e.exitSeg)
  | _ => true

/-! ### Fields and place (R5, R7, R22, R165) -/

/-- Copies the fields of a REPORT (R7). -/
def Blocks.takeFields (e : Env) (r : Report) (b : Blocks) : Blocks :=
  b.modVehicle r.vehicle fun v =>
    { v with
      missed := 0
      lastReport := e.now
      motion := recordedMotion r.motion
      carrier := r.carrier
      carrierId := r.carrierId
      hoist := r.hoist
      level := r.level }

/-- A new place becomes the entry's segment and ends its grant; a segment the vehicle held no grant
for is an overrun, a MINOR fault (R5, R7). `v` is the entry before the REPORT. -/
def Blocks.takePlace (e : Env) (v : Vehicle) (r : Report) (b : Blocks) : Blocks :=
  match r.place with
  | .segment n =>
    if v.relearn then b.modVehicle v.id fun x => { x with segment := n }
    else if n = v.segment then b
    else
      let b := b.modVehicle v.id fun x => { x with segment := n, grant := none, blocked := none }
      if v.grant = some n then b else b.setFlag .vehicle
  | _ => if v.relearn then b.modVehicle v.id fun x => { x with segment := e.exitSeg } else b

/-- BLOCKED is a segment fault of the reported segment, which sets the SEGMENT flag at each REPORT and is
admitted once for each standstill; MOVING clears the mark (R7, R159, R165). -/
def Blocks.takeBlocked (r : Report) (b : Blocks) : Blocks :=
  match r.motion, r.place with
  | .moving, _ => b.modVehicle r.vehicle fun x => { x with blocked := none }
  | .blocked, .segment n =>
    let b' := (b.modSeg n Seg.countFault).setFlag .segment
    if (b.vehicle? r.vehicle).any fun v => v.blocked == some n then b'
    else (b'.segmentFault n).modVehicle r.vehicle fun x => { x with blocked := some n }
  | _, _ => b

/-- The at-marker flag takes a capture; a later standstill sets the stopped mark (R22). A RELEARN or
SILENT vehicle's capture is dropped first. `v` is the entry before the REPORT. -/
def Blocks.takeCapture (e : Env) (v : Vehicle) (r : Report) (b : Blocks) : Blocks :=
  let prev := if v.relearn ∨ v.state = .silent then none else v.capture
  if r.atMarker then b.capture e v.id prev (e.markerOf v.segment r.place)
  else b.modVehicle v.id fun x =>
    { x with capture := if r.motion = .moving then prev
        else prev.map fun c => { c with stopped := true } }

/-! ### The job echo (R8) -/

/-- Sends the commanded job again (R8); this is no new GOTO in the sense of R6. -/
def Blocks.resend (id : Nat) (j : Job) (c : EchoCount) (b : Blocks) : Blocks :=
  (b.modVehicle id fun v => { v with echo := some c, jobDone := false }).emitZone (.goto id j)

/-- Compares the job echo with the commanded job; an equal echo tells whether the job's action is
complete (R5, R8). -/
def Blocks.takeEcho (r : Report) (b : Blocks) : Blocks :=
  match b.vehicle? r.vehicle with
  | none => b
  | some v =>
    match v.job, v.echo with
    | none, _ => b
    | some j, none =>
      if r.echo = j then b.modVehicle v.id fun x => { x with jobDone := r.jobDone }
      else b.resend v.id j { reports := 0, sendings := 1 }
    | some j, some c =>
      if r.echo = j then b.modVehicle v.id fun x => { x with echo := none, jobDone := r.jobDone }
      else if c.reports + 1 < 2 then
        b.modVehicle v.id fun x => { x with echo := some { c with reports := c.reports + 1 } }
      else if c.sendings < 3 then
        b.resend v.id j { reports := 0, sendings := c.sendings + 1 }
      else (b.setFlag .vehicle).resend v.id j { reports := 0, sendings := 1 }

/-! ### The rebuilding of a RELEARN entry (R18) -/

/-- The REPORT places the vehicle on a segment other than the exit spur. -/
def inZone (e : Env) (r : Report) : Bool :=
  match r.place with
  | .segment n => n != e.exitSeg
  | _ => false

/-- The state of a bound vehicle with a carrier, read from its job echo (R18, log 28). An EXIT for a station
of this window, or a RECIRCULATE short of the exit spur, is a job from before the vehicle came in. -/
def carryingState (e : Env) (r : Report) : RosterState :=
  match r.echo.target, r.echo.action with
  | .exit, _ => if r.echo.dest.any e.inWindow then .loaded else .toExit
  | .recirculate, _ => if inZone e r then .loaded else .toExit
  | .station _, .unload => if hoistWorking r.hoist || r.jobDone then .unloading else .loaded
  | _, _ => .loaded

/-- The earlier phase of a vehicle that is rebuilt FAULTED with a SUSPENDED move: a PASS job on the loop is
LOADED-WAIT's (R16, R54, log 28). -/
def rebuiltPhase (e : Env) (r : Report) : RosterState :=
  match r.echo.target, r.echo.action with
  | .segment _, .pass => if r.place = .segment 0 then .entering else .loadedWait
  | _, _ => carryingState e r

/-- The REPORT shows an empty vehicle stopped at its parking place with a PARK job (R18). -/
def standsParked (r : Report) : Bool :=
  match r.echo.target, r.place with
  | .park p, .segment n => p == n && r.motion != .moving
  | _, _ => false

/-- The state a rebuilt entry takes from its binding (R18). -/
def Blocks.rebuiltState (e : Env) (r : Report) (bound : Option Tag) (b : Blocks) : RosterState :=
  match bound with
  | none => if r.carrier then .faulted else if standsParked r then .parked else .idle
  | some t =>
    match (if e.ownTag t then b.move? t else none) with
    | none => carryingState e r
    | some m =>
      match m.state with
      | .bound => .toSource
      | .loading => .loading
      | .suspended => if m.checkHold then .loading else .faulted
      | _ => carryingState e r

/-- Exit clearance shown by the bound move: its consignment has been answered TAKEN, the vehicle goes round the loop to
this bay, or its tag is another bay's and roll call had sent it out (R18, R21, R121, R123, log 28). -/
def Blocks.clearedMove (e : Env) (r : Report) (bound : Option Tag) (b : Blocks) : Bool :=
  bound.any fun t =>
    if e.ownTag t then
      (b.move? t).any fun m => m.state == .carrying &&
        ((r.echo.target == .exit && !b.ownsStation e m.dest && m.cleared && m.wait.isNone) ||
          r.echo.target == .recirculate)
    else r.echo.target == .exit

/-- What an entry rebuilt FAULTED passes on: the vehicle leaves the lists that name it, and an unbound one
with a carrier is a fault of its own; a vehicle whose move is SUSPENDED already gives no new one
(R7, R16, R18, R36, R101, R159). -/
def Blocks.rebuiltFaulted (e : Env) (r : Report) (b : Blocks) : Blocks :=
  let b := (b.modVehicle r.vehicle fun v => { v with state := rebuiltPhase e r }).becomeFaulted r.vehicle
  match b.vehicle? r.vehicle with
  | none => b
  | some v =>
    if v.bound.isSome then b
    else
      let v := { v with state := .loaded }
      if r.level = .major then b.vehicleFault e v .major
      else
        let b := b.dropCarried e v
        if hoistWorking r.hoist then b.setFlag .vehicle else b

/-- A vehicle reports a MAJOR fault: it becomes FAULTED, and FU deals with its move (R16). `v` is the entry as
the fault finds it. -/
def Blocks.majorFault (e : Env) (v : Vehicle) (b : Blocks) : Blocks :=
  (b.becomeFaulted v.id).vehicleFault e v .major

/-- The hoist of the REPORT is the one at the moment of the fault, for a vehicle whose phase is LOADING or
UNLOADING (R13, R14, R49; DESIGN CHOICE, log 103). -/
def Blocks.faultHoist (e : Env) (v : Vehicle) (b : Blocks) : Blocks :=
  match v.bound.filter e.ownTag with
  | some t =>
    if v.state = .loading ∨ v.state = .unloading then b.modMove t fun x => { x with lastHoist := v.hoist }
    else b
  | none => b

/-- An entry rebuilt under fault level MAJOR, `v` as its binding would have it: it is FAULTED before anything
else, and its hoist begins and ends no work (R18, R16). -/
def Blocks.rebuiltMajor (e : Env) (r : Report) (b : Blocks) : Blocks :=
  match b.vehicle? r.vehicle with
  | none => b
  | some v => (b.faultHoist e v).majorFault e v

/-- The binding found again (R18): the record that names the vehicle at work; else, for one with a carrier, the
CONSIGNED record that names it, or the tag of its echo, where R119 binds an orphan to it. An empty vehicle is
bound to no CONSIGNED record (R42; DEDUCED, log 89). -/
def Blocks.findBinding (e : Env) (r : Report) (b : Blocks) : Blocks :=
  match b.recordOf r.vehicle with
  | some m => b.modVehicle r.vehicle fun v => { v with bound := some m.tag }
  | none =>
    if r.carrier then
      b.bindOrphan e r.vehicle (((b.consignedOf r.vehicle).map Move.tag) <|> r.echo.tag)
    else b

/-- A rebuilt vehicle in good order goes on with its delivery, or to the source of its BOUND move when it
holds no LOAD job for it (R14, R18, R114, R124, R126, log 28). -/
def Blocks.goOn (e : Env) (r : Report) (b : Blocks) : Blocks :=
  match b.vehicle? r.vehicle with
  | none => b
  | some v =>
    if hoistWorking r.hoist then b
    else
      match (v.bound.filter e.ownTag).bind b.move? with
      | some m =>
        if m.state = .carrying then b.takeUp e m v.id
        else if m.state = .bound ∧ inZone e r ∧ !v.holdsLoad then
          b.sendGoto e v.id (loadJob m.source m.tag)
        else b
      | none =>
        if v.state ≠ .loaded then b
        else
          match v.aim .unload, r.echo.dest.filter e.inWindow with
          | none, some d => b.sendUnload e v.id d v.bound d
          | _, _ => b.decideIfThere e v.id

/-- Rebuilds a RELEARN entry from its vehicle's REPORT, whose fields stand in the entry (R18). A vehicle that
proves neither IDLE nor PARKED is reserved no longer (R101). One without a carrier that no record names takes no
tag of another bay, and the reservation of such a delivery stays (DESIGN CHOICE, log 78). Whether the port its
hoist works at was reported OFFLINE meanwhile is a free value from then on (DESIGN CHOICE, log 97). One whose
BOUND move was freed meanwhile becomes IDLE with the LOAD job it echoes and is owed no PASS job (DESIGN CHOICE,
log 106). -/
def Blocks.rebuild (e : Env) (r : Report) (b : Blocks) : Blocks :=
  let id := r.vehicle
  let b := (b.leaveQueue id).modVehicle id fun v =>
    { v with
      relearn := false
      job := some r.echo
      echo := none
      jobDone := r.jobDone
      reserved := b.bidNames id }
  let b := b.findBinding e r
  let bound := (b.vehicle? id).bind Vehicle.bound
  let st := b.rebuiltState e r bound
  let b := b.modVehicle id fun v =>
    { v with state := st, clearance := st == .toExit && b.clearedMove e r bound }
  if r.level = .major ∧ st ≠ .faulted then b.rebuiltMajor e r
  else
    match st with
    | .idle => b.makeIdle e id
    | .parked => b.wantBind
    | .faulted => b.rebuiltFaulted e r
    | _ => (b.releaseBids fun x => x.vehicle == id).goOn e r

/-! ### Travel (R12, R57, R116, R123) -/

/-- The vehicle of a CARRYING move has left at the merge marker: the move is CONSIGNED; a vehicle
that goes round the loop to this bay is entered in the Inbound List while there is room
(R57, R123). -/
def Blocks.consigned (e : Env) (m : Move) (id : Nat) (round : Bool) (b : Blocks) : Blocks :=
  let b := b.modMove m.tag fun x => { x with state := .consigned, wait := none }
  if !round then b
  else
    let ref := m.consignId.getD b.nextConsign
    let b := if m.consignId.isSome then b
      else { b with mm := { b.mm with consignCounter := ref + 1 } }
    let b := b.modMove m.tag fun x => { x with consignId := some ref }
    if 1 ≤ b.room then
      b.addInbound {
        vehicle := id
        kind := .loaded
        source := e.cfg.bay.val
        tag := some m.tag
        ref := ref
        dest := some m.dest
        cls := some m.cls
        carrierId := m.carrierId
        expected := e.inDs (b.loopTime e)
        recirc := 0
        late := false }
    else b

/-- A roster vehicle reports MERGED: in the ordinary way when it is TO-EXIT with exit clearance, in
any other case without clearance, as if it had fallen SILENT first (R12, R57, log 29). -/
def Blocks.leave (e : Env) (v : Vehicle) (b : Blocks) : Blocks :=
  if v.state = .toExit ∧ v.clearance then
    let b := b.removeVehicle v.id
    match (v.bound.filter e.ownTag).bind b.move? with
    | none => b
    | some m =>
      if m.state = .carrying then
        b.consigned e m v.id (v.job.any fun j => j.target == .recirculate)
      else b
  else (if v.state = .silent then b else b.becomeSilent e v).removeVehicle v.id

/-- An ENTERING vehicle has passed the loop marker (R12, R114, R123). -/
def Blocks.enterLoop (e : Env) (v : Vehicle) (b : Blocks) : Blocks :=
  match (v.bound.filter e.ownTag).bind b.move? with
  | some m =>
    if m.state = .bound then
      (b.setVehicleState v.id .toSource).sendGoto e v.id (loadJob m.source m.tag)
    else if m.state = .carrying then
      if b.ownsStation e m.dest then b.sendUnload e v.id m.dest (some m.tag) m.dest
      else if b.ownerGone e m.dest then b.ownerAbsent e m.tag
      else b.sendExit e m v.id false
    else b
  | none =>
    match (v.job.bind Job.dest) <|> (v.arrival.bind Arrival.dest) with
    | some d => b.sendUnload e v.id d (v.bound <|> v.job.bind Job.tag) d
    | none => b.makeIdle e v.id

/-- The REPORT of a vehicle that passed the switch before its enter job came (R11, R12, R116,
log 12). -/
def refusedEntry (r : Report) (v : Vehicle) : Bool :=
  r.echo.target == .recirculate && r.jobDone &&
    (r.place == .divert || (r.place == .merged && v.state == .entering))

/-- The transitions of travel (R12). -/
def Blocks.travelStep (e : Env) (r : Report) (b : Blocks) : Blocks :=
  match b.vehicle? r.vehicle with
  | none => b
  | some v =>
    if refusedEntry r v then b.enterRefused e v
    else
      match r.place with
      | .merged => b.leave e v
      | .segment n => if v.state = .entering ∧ n ≠ 0 then b.enterLoop e v else b
      | .divert => b

/-! ### Faults, recovery and parking (R15 to R17, R19) -/

/-- The hoist works out of place: in a state without hoist work, or under another job than the one
that brought the vehicle here, such as the LOAD of an older move (R15, R81, log 27). -/
def Vehicle.strays (v : Vehicle) (r : Report) : Bool :=
  hoistWorking r.hoist &&
    match v.state with
    | .toSource => !(v.holdsLoad && v.under .load r.echo)
    | .loaded => !v.under .unload r.echo
    | .loading => false
    | .unloading => false
    | .faulted => false
    | .silent => false
    | _ => true

/-- Hoist work out of place makes the vehicle FAULTED, a deferrable fault (R15); under fault level MAJOR the
fault is R16's, and `Blocks.majorStep` takes it (log 27). A bound TO-SOURCE or LOADED vehicle that works under
an older job loses its move under the end-method of the Fault Unit (R81); its fault is classed as a MAJOR one
would be, urgent and with a recovery step (DESIGN CHOICE, log 94). An empty vehicle on its way out for an award
is unbound (R159). The delivery of one that is bound to no tag is given up (R32). -/
def Blocks.strayStep (e : Env) (r : Report) (b : Blocks) : Blocks :=
  match b.vehicle? r.vehicle with
  | none => b
  | some v =>
    if v.strays r ∧ r.level ≠ .major then
      let b := b.becomeFaulted v.id
      if v.bound.isSome ∧ (v.state = .toSource ∨ v.state = .loaded) then b.vehicleFault e v .major
      else
        let b := b.setFlag .vehicle
        let b := if v.bound.isNone then b.dropCarried e v else b
        if v.state = .toExit ∧ !v.carrier ∧ !v.bound.any e.ownTag then b.unbind v.id else b
    else b

/-- A MAJOR fault makes the vehicle FAULTED (R16). It does not end a disable that is pending at the shelf of
an UNLOADING vehicle (log 64). -/
def Blocks.majorStep (e : Env) (r : Report) (b : Blocks) : Blocks :=
  match b.vehicle? r.vehicle with
  | none => b
  | some v =>
    if r.level = .major ∧ v.state ≠ .faulted ∧ v.state ≠ .silent then
      b.majorFault e v
    else b

/-- A vehicle whose fault ended no move takes its earlier phase again (R15, R16, log 27). -/
def Blocks.restorePhase (e : Env) (v : Vehicle) (m : Move) (b : Blocks) : Blocks :=
  match v.phase with
  | .entering =>
    if v.segment = 0 then b.setVehicleState v.id .entering else b.enterLoop e v
  | .loadedWait => (b.waitAgain v.id).takeUp e m v.id
  | .toExit => (b.setVehicleState v.id .toExit).takeUp e m v.id
  | _ => b

/-- A vehicle that was FAULTED when the REPORT came leaves that state (R16, R51, R54, R126). -/
def Blocks.clearStep (e : Env) (r : Report) (b : Blocks) : Blocks :=
  match b.vehicle? r.vehicle with
  | none => b
  | some v =>
    if v.state ≠ .faulted ∨ r.level ≠ .none ∨ hoistWorking r.hoist then b
    else
      match v.bound with
      | some t =>
        if e.ownTag t then
          match b.move? t with
          | none => b
          | some m =>
            if m.state = .suspended then
              if m.checkHold then b.setVehicleState v.id .loading else b.resumeMove e t
            else b.restorePhase e v m
        else b.resumeForeign e v
      | none => if v.carrier then b else b.idleAfterFault e v.id

/-- The first well-formed REPORT of a SILENT vehicle sets its state (R17, log 52). Exit clearance is
withdrawn, though R17 does not name it and R9 keeps the other fields (DESIGN CHOICE, log 81). -/
def Blocks.silentStep (e : Env) (r : Report) (b : Blocks) : Blocks :=
  match b.vehicle? r.vehicle with
  | none => b
  | some v =>
    let faulted := b.modVehicle v.id fun x => { x with state := .faulted, clearance := false }
    if r.level = .major then faulted.vehicleFault e v .major
    else if hoistWorking r.hoist then faulted.setFlag .vehicle
    else if r.carrier then faulted
    else b.idleAfterFault e v.id

/-- Parking: the vehicle reaches its place, or leaves it on its own (R19, log 36). -/
def Blocks.parkStep (e : Env) (r : Report) (b : Blocks) : Blocks :=
  match b.vehicle? r.vehicle with
  | none => b
  | some v =>
    if v.state = .idle ∧ v.parkTarget = some v.segment ∧ r.place = .segment v.segment ∧
        r.motion = .stopped ∧ v.job = some r.echo ∧ r.jobDone then
      b.setVehicleState v.id .parked
    else if v.state = .parked ∧ r.motion = .moving then
      ((b.modVehicle v.id fun x => { x with job := none, echo := none }).makeIdle e v.id).wantPark
    else b

/-! ### The whole REPORT (R7) -/

/-- What a REPORT's fields do before any transition (R5, R7, R8, R18, R22, R162). -/
def Blocks.takeReport (e : Env) (v : Vehicle) (r : Report) (b : Blocks) : Blocks :=
  let b := ((((b.takeFields e r).takePlace e v r).takeBlocked r).takeCapture e v r)
  let b := if v.relearn then b.rebuild e r else b.takeEcho r
  let b := if r.level = .none then b.watchVehicle v.id else b
  if r.level = .minor then b.setFlag .vehicle else b

/-- The transitions of a vehicle that was not SILENT, in the order of the rules (R12 to R16, R19); one that
leaves FAULTED is not parked by the same REPORT (R88). `read` is the carrier id the vehicle has read. -/
def Blocks.transitions (e : Env) (r : Report) (read : Option CarrierId) (b : Blocks) : Blocks :=
  let wasFaulted := (b.vehicle? r.vehicle).any fun v => v.state == .faulted
  let b := ((b.travelStep e r).loadStep e r).unloadStep e r read
  let b := (b.strayStep e r).majorStep e r
  if wasFaulted then b.clearStep e r else b.parkStep e r

/-- A REPORT from a roster vehicle (R7). An entry marked RELEARN is rebuilt by R18 alone, were its vehicle
SILENT before or not: the spec does not say which of R17 and R18 governs an entry that is both (DESIGN
CHOICE, log 58). -/
def Blocks.report (e : Env) (r : Report) (b : Blocks) : Blocks :=
  match b.vehicle? r.vehicle with
  | none => b
  | some v =>
    if !placed e r then b.missPoll e v.id
    else
      let b := b.takeReport e v r
      if v.state = .silent ∧ !v.relearn then
        let b := b.travelStep e r
        if b.onRoster v.id then b.silentStep e r else b
      else b.transitions e r (r.carrierId <|> v.carrierId)

end Sys2Proof.Machine
end

