-- ==== Sys2Proof/Machine/ZoneLine.lean ====
section
/-! DEFINITION. The meanings of the zone-line commands: poll rounds, reports, missed polls and the
entry-watch slot (R5 to R9, R14, R33, R113). -/
namespace Sys2Proof.Machine

/-! ### Poll rounds (R5, R6, R14) -/

/-- The segment of the station at which a LOADED vehicle is to unload is `n` (R14). -/
def Blocks.approaches (b : Blocks) (v : Vehicle) (n : Nat) : Bool :=
  v.state == .loaded && (v.aim .unload).any fun x => (b.station? x).any fun s => s.segment == n

/-- The segment into which the vehicle is granted entry at this poll (R5). -/
def Blocks.grantNow (e : Env) (b : Blocks) (v : Vehicle) : Option Nat :=
  if b.grantable v then (e.successor v).filter b.segRoom else none

/-- The proceed indication: GO for a vehicle with a grant, or with exit clearance on segment L+1
(R5); HOLD for a RELEARN entry (R18). -/
def Vehicle.goes (e : Env) (v : Vehicle) : Bool :=
  !v.relearn && (v.grant.isSome || (v.clearance && v.segment == e.exitSeg))

/-- One POLL: the grant is decided, POLL is sent, and a LOADED vehicle granted into the segment of its
target is made known to SI (R5, R6, R14, log 9). A grant it held before is no such moment (DESIGN CHOICE,
log 88). -/
def Blocks.poll (e : Env) (b : Blocks) (id : Nat) : Blocks :=
  match b.vehicle? id with
  | none => b
  | some v =>
    match b.grantNow e v with
    | none => b.emitZone (.poll id (v.goes e))
    | some n =>
      let b := (b.modVehicle id fun x => { x with grant := some n }).emitZone (.poll id true)
      if b.approaches v n then b.decideDelivery e id else b

/-- POLL_ROUND (R6): the entries in use are polled once each, in roster-index order. Nothing is sent in
CONFIG and in HALTED for CONFIG-ERROR. The roster is read (log 13). -/
def execPollRound (parity : List ParityError) (s : State) : Answered :=
  .next (s.runFailing [.roster] parity fun e b =>
    if e.node.running then (b.vehicles.map Vehicle.id).foldl (Blocks.poll e) b else b)

/-! ### Reports -/

/-- REPORT (R7): the answer of a roster vehicle. The roster and the Move Table are read (log 13). -/
def execReport (r : Report) (parity : List ParityError) (s : State) : Answered :=
  .next (s.runFailing [.roster, .move] parity fun e b =>
    if e.node.running then b.report e r else b)

/-- MISSED_POLL (R9): a POLL got no well-formed REPORT in its reply slot. -/
def execMissedPoll (vehicle : Nat) (s : State) : Answered :=
  .next (s.run fun e b => if e.node.running then b.missPoll e vehicle else b)

/-- ENTRY_WATCH_REPORT (R6, R113): handled by its place; a vehicle already on the roster is heard as
in its own slot. -/
def execEntryWatchReport (r : Report) (s : State) : Answered :=
  .next (s.run fun e b =>
    if !e.node.running then b
    else if b.onRoster r.vehicle then b.report e r
    else
      match r.place with
      | .divert => b.divert e r
      | .segment _ => b.answer e r
      | .merged => b)

end Sys2Proof.Machine
end

