-- ==== Sys2Proof/Machine/Service.lean ====
section
/-! DEFINITION. The meanings of the service-port commands (R61 to R63, R163, R165, R171 to R174). -/
namespace Sys2Proof.Machine

/-! ### Answers (R171) -/

/-- The result code of a command, and its effect when that is OK; a refused command changes nothing
(R171). -/
def Blocks.serve (check : Result) (act : Blocks → Blocks) (b : Blocks) : Blocks :=
  (if check = .ok then act b else b).reply (.result check)

/-- A failed bit waits in one of the tables `l` (R166). -/
def Blocks.spoiledIn (b : Blocks) (l : List ParityTable) : Bool :=
  b.spoiled.any fun p => l.contains p.table

/-- The commands taken in LISTEN, READY and CONFLICT: the state is checked first, then what the command
requires. A refused command changes nothing, but that its check finds the parity errors of the tables it
reads, `reads` (R166, R171, logs 13, 21). -/
def State.serveActive (reads : Env → Blocks → List ParityTable) (check : Env → Blocks → Result)
    (act : Env → Blocks → Blocks) (s : State) : State :=
  if !s.cl.node.active then s.runPlain fun _ b => b.reply (.result .wrongState)
  else if check s.env s.b ≠ .ok ∧ !s.b.spoiledIn (reads s.env s.b) then
    s.runPlain fun e b => b.reply (.result (check e b))
  else s.run fun e b => b.serve (check e b) (act e)

/-! ### READ, READ-STATUS, READ-COUNTERS (R171, R172) -/

/-- A Segment Table entry before any image has been accepted: nothing configured (log 6). -/
def blankSeg : Seg where
  configured := 0
  working := 0
  t := 0
  degraded := false
  faults := 0
  parking := 0
  clampRun := 0

/-- A Segment Table entry with what is derived from the roster (R4). -/
def Blocks.segView (b : Blocks) (i : Nat) : SegView :=
  let g := (b.seg? i).getD blankSeg
  { configured := g.configured
    working := g.working
    t := g.t
    occupancy := b.occupancy i
    grantedIn := b.grantedIn i
    degraded := g.degraded
    faults := g.faults
    parking := g.parking
    clampRun := g.clampRun
    discarded := (b.zc.discarded[i]?).getD 0
    parkingRoom := b.parkingRoom i }

/-- How many entries a table of READ has, in the order of the table codes (R171, R176). Before an
image is accepted every segment number reads (log 6). -/
def tableSize (e : Env) : Nat → Nat
  | 0 => Config.moveSize
  | 1 => Config.rosterSize
  | 2 => Config.inboundSize
  | 3 => if e.node.running then e.exitSeg + 1 else Config.segmentSize
  | 4 => Config.stationSize
  | 5 => 32
  | 6 => Config.callSize
  | 7 => Config.bidSize
  | _ => 0

/-- The entry READ returns; the own Peer Table entry is the derived one, with CL's node state (R147, R155,
R171). Before an image is accepted the own bay is not known, and every index answers an UNKNOWN entry
(DESIGN CHOICE, log 99). -/
def Blocks.entryOf (e : Env) (b : Blocks) (table i : Nat) : ReadEntry :=
  match table with
  | 0 => .move (b.mm.moves[i]?).join
  | 1 => .roster (b.zc.roster[i]?).join
  | 2 => .inbound b.zc.inbound[i]?
  | 3 => .segment (b.segView i)
  | 4 => .station (b.si.stations[i]?).join
  | 5 => if i = e.cfg.bay.val ∧ e.node.running then .own e.node (b.ownEntry e) else .peer (b.peer i)
  | 6 => .call b.du.calls[i]?
  | _ => .bid b.du.bids[i]?

/-- The read of an entry that READ returns, or that it is derived from, meets the parity error `p`
(R4, R147, R166). -/
def metBy (e : Env) (table index : Nat) (p : ParityError) : Bool :=
  match table with
  | 0 => p.table == .move && p.index == index
  | 1 => p.table == .roster && p.index == index
  | 2 => p.table == .inbound && p.index == index
  | 3 => p.table == .roster
  | 5 => p.table == .roster && index == e.cfg.bay.val
  | _ => false

/-- READ (R171). A READ that meets a parity error returns the entry as it then stands (R166, R167,
log 13). -/
def execRead (table index : Nat) (s : State) : Answered :=
  let answer (e : Env) (b : Blocks) : Blocks :=
    if index < tableSize e table then b.reply (.entry (b.entryOf e table index))
    else b.reply (.result .badIndex)
  .next (if index < tableSize s.env table ∧ s.b.spoiled.any (metBy s.env table index) then
      s.run answer
    else s.runPlain answer)

/-- What READ-STATUS returns, with the raised token (R172). -/
def Blocks.statusView (e : Env) (b : Blocks) : StatusView where
  node := e.node
  recovery := b.fu.recovery
  lost := b.ti.lost
  receive := b.ti.receive
  mute := b.ti.mute
  first := b.fu.first
  multiVehicle := b.fu.multiVehicle
  multiCarrier := b.fu.multiCarrier
  multiMemory := b.fu.multiMemory
  sticky := b.sp.sticky
  changed := (List.finRange 32).map fun k => b.flag (.changed k)
  token := b.sp.token

/-- The token is raised and the snapshot becomes the set of flags now set (R172). -/
def Blocks.snap (b : Blocks) : Blocks :=
  b.modSP fun p => { p with token := p.token + 1, snapshot := b.flagsSet }

/-- READ_STATUS (R172). -/
def execReadStatus (s : State) : Answered :=
  .next (s.runPlain fun e b => b.snap.reply (.status (b.snap.statusView e)))

/-- READ_COUNTERS (R171): every counter, in the order of the counter table. -/
def execReadCounters (s : State) : Answered :=
  .next (s.runPlain fun _ b => b.reply (.counters b.sp.counters))

/-! ### CLEAR-STICKY (R172) -/

/-- Clears every flag of the snapshot and empties it (R172). -/
def Blocks.clearSnapshot (b : Blocks) : Blocks :=
  (b.sp.snapshot.foldl (fun b f => b.writeFlag f false) b).modSP fun p => { p with snapshot := [] }

/-- CLEAR_STICKY (R171, R172): refused in CONFIG, and with a stale token. -/
def execClearSticky (token : Nat) (s : State) : Answered :=
  .next (s.runPlain fun e b => b.serve
    (if e.node = .config then .wrongState
      else if token = b.sp.token.toNat then .ok else .staleToken)
    Blocks.clearSnapshot)

/-! ### RESOLVE (R61 to R63) -/

/-- A carrier stands at the station: an OCCUPIED port or a HOLDING shelf (R61). -/
def Station.occupied (s : Station) : Bool := s.state == .occupied || s.state == .holding

/-- The checks of RESOLVE for a STRANDED move (R61, R63). -/
def Blocks.checkStranded (b : Blocks) (m : Move) : Answer → Result
  | .remove => .ok
  | .atSource =>
    if m.poisoned then .wrongState
    else if (b.station? m.source).any Station.occupied then .ok else .wrongState
  | .atStation n =>
    if m.poisoned then .wrongState
    else
      match b.station? n with
      | none => .badIndex
      | some s => if s.active.isNone ∧ n ≠ m.dest ∧ s.occupied then .ok else .wrongState

/-- The move's vehicle is on the roster: bound to it, or marked RELEARN, when the rebuilding will find
the binding again (R18, R62, log 49). -/
def Blocks.vehicleHere (b : Blocks) (m : Move) : Option Vehicle :=
  (m.vehicle.bind b.vehicle?).filter fun v => v.relearn || v.bound == some m.tag

/-- The checks of RESOLVE for a SUSPENDED move (R62, log 49). -/
def Blocks.checkSuspended (e : Env) (b : Blocks) (m : Move) : Answer → Result
  | .remove => .ok
  | .atSource => if (b.vehicleHere m).isSome then .ok else .wrongState
  | .atStation n =>
    if (b.vehicleHere m).isNone then .wrongState
    else if e.inWindow n ∧ (b.station? n).isNone then .badIndex
    else if (b.owner e n).isSome ∧ n ≠ m.source then .ok
    else .wrongState

/-- The checks of RESOLVE (R61 to R63). AT-STATION with an unconfigured station, for a move that is neither
STRANDED nor SUSPENDED, answers WRONG-STATE where BAD-INDEX would fit as well (DESIGN CHOICE, log 21). -/
def Blocks.checkResolve (e : Env) (b : Blocks) (tag : Tag) (how : Answer) : Result :=
  match (if e.ownTag tag then b.move? tag else none) with
  | none => .badIndex
  | some m =>
    match m.state with
    | .stranded => b.checkStranded m how
    | .suspended => b.checkSuspended e m how
    | _ => .wrongState

/-- RESOLVE's effect on a STRANDED move (R61). -/
def Blocks.resolveStranded (e : Env) (m : Move) (how : Answer) (b : Blocks) : Blocks :=
  match how with
  | .remove => b.freeMove e m.tag .removed
  | .atSource => b.enterWaiting e m.tag true
  | .atStation n =>
    let b := (b.clearActive m.tag).setActive n m.tag
    let b := b.modMove m.tag fun x =>
      { x with
        source := n
        shelfSourced := (b.station? n).any fun s => s.kind == .shelf }
    b.enterWaiting e m.tag true

/-- The move's vehicle is FAULTED, or not known to be otherwise until its entry is rebuilt: what RESOLVE
orders waits for its recovery (R62, log 49). -/
def Blocks.waitsForVehicle (b : Blocks) (m : Move) : Bool :=
  (b.vehicleHere m).any fun v => v.relearn || v.state == .faulted

/-- RESOLVE's effect on a SUSPENDED move (R62): a destination in another bay drops the consign id; a return
at once is R52's. -/
def Blocks.resolveSuspended (e : Env) (m : Move) (how : Answer) (b : Blocks) : Blocks :=
  match how with
  | .remove => b.freeMove e m.tag .removed
  | .atSource =>
    let b := b.modMove m.tag fun x => { x with checkHold := false, dest := m.source }
    if b.waitsForVehicle m then b else b.returnMove e m.tag
  | .atStation n =>
    let b := b.modMove m.tag fun x =>
      { x with
        checkHold := false
        dest := n
        consignId := if e.inWindow n then m.consignId else none }
    if b.waitsForVehicle m then b else b.resumeMove e m.tag

/-- The tables that the check of RESOLVE reads: the Move Table for a tag of this bay, and the roster for the
vehicle of a SUSPENDED move (R61, R62). -/
def Blocks.resolveReads (e : Env) (b : Blocks) (tag : Tag) : List ParityTable :=
  if e.ownTag tag then
    if (b.move? tag).any fun m => m.state == .suspended then [.move, .roster] else [.move]
  else []

/-- RESOLVE (R61 to R63, R171). -/
def execResolve (tag : Tag) (how : Answer) (s : State) : Answered :=
  .next (s.serveActive (fun e b => b.resolveReads e tag) (fun e b => b.checkResolve e tag how) fun e b =>
    match b.move? tag with
    | none => b
    | some m =>
      if m.state = .stranded then b.resolveStranded e m how else b.resolveSuspended e m how)

/-! ### VEHICLE-OUT, RESTORE-SEGMENT, RESTORE-SHELF (R165, R173, R174) -/

/-- VEHICLE_OUT (R173): an id from 1 to 254 is looked for in the roster. -/
def execVehicleOut (vehicle : Nat) (s : State) : Answered :=
  .next (s.serveActive
    (fun _ _ => if vehicle < 1 ∨ 254 < vehicle then [] else [.roster])
    (fun _ b =>
      if vehicle < 1 ∨ 254 < vehicle then .badIndex
      else if b.onRoster vehicle then .ok else .wrongState)
    fun e b => b.vehicleGone e vehicle)

/-- A segment restored to its configured capacity (R24, R165). -/
def Seg.restore (g : Seg) : Seg :=
  { g with working := g.configured, degraded := false, faults := 0, clampRun := 0 }

/-- RESTORE_SEGMENT (R165): an occasion for park requests. -/
def execRestoreSegment (index : Nat) (s : State) : Answered :=
  .next (s.serveActive (fun _ _ => []) (fun e _ => if index ≤ e.exitSeg then .ok else .badIndex)
    fun _ b => (b.modSeg index Seg.restore).wantPark)

/-- The checks of RESTORE-SHELF, by Station Table index (R174). -/
def Blocks.checkShelf (b : Blocks) (index : Nat) : Result :=
  match (b.si.stations[index]?).join with
  | none => .badIndex
  | some s =>
    if s.kind = .port then .badIndex else if s.state = .disabled then .ok else .wrongState

/-- RESTORE_SHELF (R29, R174). -/
def execRestoreShelf (index : Nat) (s : State) : Answered :=
  .next (s.serveActive (fun _ _ => []) (fun _ b => b.checkShelf index) fun e b =>
    match (b.si.stations[index]?).join with
    | none => b
    | some x => b.freeShelf e x.number)

/-! ### RESUME and RESTART (R163, R170, R174) -/

/-- RESUME is taken in RESTRICTED, while no roster entry is FAULTED or SILENT (R163). An entry marked RELEARN is
judged by the state it holds, a free value (DESIGN CHOICE, log 101). -/
def Blocks.checkResume (b : Blocks) : Result :=
  if b.fu.recovery ≠ .restricted then .wrongState
  else if b.vehicles.any fun v => v.state == .faulted || v.state == .silent then .notClear
  else .ok

/-- RESUME clears the multiple-fault flags; the First-Fault Record stays (R163). -/
def FU.resume (f : FU) : FU :=
  { f with recovery := .normal, multiVehicle := false, multiCarrier := false, multiMemory := false }

/-- RESUME (R163): a call pass follows. The roster is read in RESTRICTED alone. -/
def execResume (s : State) : Answered :=
  .next (s.serveActive (fun _ b => if b.fu.recovery = .restricted then [.roster] else []) (fun _ => Blocks.checkResume) fun _ b => (b.modFU FU.resume).wantCall)

/-- The Fault Unit after RESTART: the record and the flags stay, and RESTRICTED is resumed when a flag
is set (R170). -/
def FU.restart (f : FU) : FU :=
  { f with recovery := if f.anyMulti then .restricted else .normal, watch := none }

/-- RESTART (R170, R174): answered OK, then the node enters CONFIG as at power-on; the counters, the
measurements-discarded counts, the First-Fault Record and the multiple-fault flags stay. Node time
runs on (log 1). -/
def execRestart (s : State) : Answered :=
  .next { s with
    cl := CL.reset
    b := { Blocks.reset s.b.sp.counters s.b.zc.discarded s.b.fu.restart with
      out := { Out.none with service := some (.result .ok) }
      free := s.b.free } }

/-- SERVICE_FRAME_BAD (R175, R176): the frame is discarded. -/
def execServiceFrameBad (s : State) : Answered := .next (s.runPlain fun _ b => b)

end Sys2Proof.Machine
end

