-- ==== Sys2Proof/Machine/Operands.lean ====
section
/-! DEFINITION. The byte layouts of every frame and of the configuration image, the CRC, and the
checks that turn bytes into a command (R127 to R133, R156, R175, R176). -/
namespace Sys2Proof.Machine

/-! ### Bits and bytes (R128) -/

/-- One byte as the trunk carries it: dominant start bit, eight data bits with the most significant
first, recessive stop bit (R128). -/
def frameByte (x : Byte) : List Bool :=
  false :: ((List.range 8).map fun i => x.getLsbD (7 - i)) ++ [true]

/-- Twelve consecutive recessive bit times are the idle gap (R128). -/
def idleGap (heard : List Bool) : Bool :=
  decide (12 ≤ heard.length) && (heard.take 12).all id

def byte (n : Nat) : Byte := BitVec.ofNat 8 n

/-- A field of two bytes, high byte first (R175). -/
def word (n : Nat) : List Byte := [byte (n / 256), byte n]
def ofWord (hi lo : Byte) : Nat := hi.toNat * 256 + lo.toNat

/-! ### CRC-16 (R132) -/

/-- One bit of the CRC with polynomial 0x1021. -/
def crcBit (crc : BitVec 16) (bit : Bool) : BitVec 16 :=
  let out := crc.getLsbD 15 != bit
  if out then (crc <<< 1) ^^^ 0x1021#16 else crc <<< 1

def crcByte (crc : BitVec 16) (x : Byte) : BitVec 16 :=
  (List.range 8).foldl (fun c i => crcBit c (x.getLsbD (7 - i))) crc

/-- The CRC of a frame: initial value 0xFFFF, most significant bit first, no final inversion. -/
def crc16 (l : List Byte) : BitVec 16 := l.foldl crcByte 0xFFFF#16

/-- A frame closed by its CRC, high byte first. -/
def withCrc (l : List Byte) : List Byte := l ++ word (crc16 l).toNat

/-- The frame before its CRC, when the CRC it carries is the computed one. -/
def checked (l : List Byte) : Option (List Byte) :=
  let body := l.take (l.length - 2)
  if 2 ≤ l.length ∧ l = withCrc body then some body else none

/-! ### The code table (R175) -/

def classes : List MoveClass := [.hot, .express, .normal, .ret]
def nodeAnns : List NodeAnn := [.listen, .ready, .conflict]
def recoveries : List Recovery := [.normal, .recovering, .restricted]
def linkStates : List LinkState := [.good, .degraded]
def retractReasons : List RetractReason := [.gone, .faulted, .expired]
def acceptResults : List AcceptResult := [.taken, .busy, .unknownStation]
def moveOutcomes : List MoveOutcome :=
  [.delivered, .deliveredToShelf, .cancelled, .sourceGone, .returned, .removed]
def portReports : List PortReport := [.empty, .occupied, .offline]
def actions : List Action := [.load, .unload, .pass, .none]
def motions : List Motion := [.moving, .stopped, .blocked]
def hoists : List Hoist := [.idle, .lowering, .gripped, .raising, .done, .failed]
def levels : List Level := [.none, .minor, .major]
def results : List Result := [.ok, .wrongState, .badIndex, .notClear, .staleToken]

/-- The code of a value: its place in the list. -/
def code [BEq α] (l : List α) (a : α) : Byte := byte (l.idxOf a)

/-- The value of a code; none for a code outside the table. -/
def coded (l : List α) (x : Byte) : Option α := l[x.toNat]?

/-! ### Common fields (R175) -/

/-- A move tag. R175 fixes only the home bay of an absent one, and its sequence byte is sent as 0 (DESIGN
CHOICE, log 87). -/
def tagBytes : Option Tag → List Byte
  | some t => [byte t.home, t.seq]
  | none => [0xFF#8, 0]

def ofTag (home seq : Byte) : Option Tag :=
  if home = 0xFF#8 then none else some { home := home.toNat, seq := seq }

def stationBytes : Option Nat → List Byte
  | some n => word n
  | none => [0xFF#8, 0xFF#8]

def ofStation (hi lo : Byte) : Option Nat :=
  if ofWord hi lo = 0xFFFF then none else some (ofWord hi lo)

/-- The eight bytes of a carrier id, 0 where it is absent. -/
def carrierBytes : Option CarrierId → List Byte
  | some c => c
  | none => List.replicate 8 0

def flagByte (x : Bool) : Byte := if x then 1 else 0

/-! ### Trunk records (R127, R133, R175) -/

/-- The bytes of a body. -/
def bodyBytes : Body → List Byte
  | .status s =>
    [code nodeAnns s.node, code recoveries s.recovery, code linkStates s.link,
      byte (s.offline.length + if s.overflow then 128 else 0)] ++
      word s.base ++ word s.limit ++ word s.sectionTime ++ [byte s.period, byte s.idle] ++
      s.offline.flatMap word
  | .call id tag cls source u =>
    id :: tagBytes (some tag) ++ [code classes cls] ++ word source ++ word u
  | .bid id v eta => [id, byte v] ++ word eta
  | .award id w v => [id, byte w, byte v, 0]
  | .cancel id => [id, 0, 0, 0]
  | .sent id v eta => [id, byte v] ++ word eta
  | .retract id v r => [id, byte v, code retractReasons r, 0]
  | .ask id n => [id, byte n, 0, 0]
  | .loan id eta vs => [id, byte vs.length] ++ word eta ++ vs.flatMap fun v => [byte v, 0]
  | .consign id v tag dest cls carrier eta =>
    [id, byte v] ++ tagBytes (some tag) ++ word dest ++
      [code classes cls, flagByte carrier.isSome] ++ carrierBytes carrier ++ word eta
  | .accept id v r => [id, byte v, code acceptResults r, 0]
  | .done tag v o =>
    let (oc, em, st) : Byte × Byte × Option Nat := match o with
      | .deliveredPort s => (0, 0, s)
      | .deliveredShelf s => (1, 0, s)
      | .fault held => (2, if held then 1 else 2, none)
      | .missing => (3, 0, none)
    tagBytes (some tag) ++ [byte v, oc, em, flagByte st.isSome] ++ stationBytes st
  | .hold d => [byte d, 0, 0, 0]
  | .link st n => [code linkStates st, byte n, 0, 0]

/-- The envelope of a record from this bay (R127, R175). -/
def envelope (bay : Nat) (r : Record) : List Byte :=
  [arbitrationField r.cls bay, byte (kindCode r.body),
    match r.dest with
    | some d => byte d
    | none => 0xFF#8,
    byte (bodyBytes r.body).length]

/-- A record as it goes on the line. -/
def recordBytes (bay : Nat) (r : Record) : List Byte := withCrc (envelope bay r ++ bodyBytes r.body)

/-- The pairs of bytes that follow a counted body. -/
def pairs : List Byte → Option (List (Byte × Byte))
  | [] => some []
  | [_] => none
  | x :: y :: l => (pairs l).map fun ps => (x, y) :: ps

/-- A carrier id under its presence flag. -/
def ofCarrier (flag : Bool) (l : List Byte) : Option CarrierId := if flag then some l else none

/-- The outcome of a DONE from its codes, each outcome with the end-method that goes with it
(R133). -/
def ofOutcome (oc em flag : Byte) (hi lo : Byte) : Option DoneOutcome :=
  let st := if flag.getLsbD 0 then some (ofWord hi lo) else none
  match oc.toNat, em.toNat with
  | 0, 0 => some (.deliveredPort st)
  | 1, 0 => some (.deliveredShelf st)
  | 2, 1 => some (.fault true)
  | 2, 2 => some (.fault false)
  | 3, 0 => some .missing
  | _, _ => none

/-- A STATUS body (R133). -/
def readStatusBody : List Byte → Option Body
  | n :: r :: k :: c :: b1 :: b0 :: l1 :: l0 :: x1 :: x0 :: p :: i :: rest =>
    match coded nodeAnns n, coded recoveries r, coded linkStates k, pairs rest with
    | some node, some recovery, some link, some ps =>
      if ps.length = c.toNat % 128 then
        some (.status {
          node := node
          recovery := recovery
          link := link
          base := ofWord b1 b0
          limit := ofWord l1 l0
          sectionTime := ofWord x1 x0
          period := p.toNat
          idle := i.toNat
          offline := ps.map fun q => ofWord q.1 q.2
          overflow := c.getLsbD 7 })
      else none
    | _, _, _, _ => none
  | _ => none

/-- A body of the given kind; none where its length or a coded field is wrong (R133). Of the carrier flag of
a CONSIGN and the station flag of a DONE only bit 0 is read (DESIGN CHOICE, log 76). -/
def readBody (kind : Nat) (l : List Byte) : Option Body :=
  match kind, l with
  | 0, l => readStatusBody l
  | 1, [id, h, q, c, s1, s0, u1, u0] =>
    (coded classes c).map fun cls => .call id ⟨h.toNat, q⟩ cls (ofWord s1 s0) (ofWord u1 u0)
  | 2, [id, v, e1, e0] => some (.bid id v.toNat (ofWord e1 e0))
  | 3, [id, w, v, _] => some (.award id w.toNat v.toNat)
  | 4, [id, _, _, _] => some (.cancel id)
  | 5, [id, v, e1, e0] => some (.sent id v.toNat (ofWord e1 e0))
  | 6, [id, v, r, _] => (coded retractReasons r).map fun x => .retract id v.toNat x
  | 7, [id, n, _, _] => some (.ask id n.toNat)
  | 8, id :: g :: e1 :: e0 :: rest =>
    match pairs rest with
    | some ps => if ps.length = g.toNat
        then some (.loan id (ofWord e1 e0) (ps.map fun q => q.1.toNat)) else none
    | none => none
  | 9, [id, v, h, q, d1, d0, c, f, a, b, c2, d, e, g, i, j, e1, e0] =>
    (coded classes c).map fun cls => .consign id v.toNat ⟨h.toNat, q⟩ (ofWord d1 d0) cls
      (ofCarrier (f.getLsbD 0) [a, b, c2, d, e, g, i, j]) (ofWord e1 e0)
  | 10, [id, v, r, _] => (coded acceptResults r).map fun x => .accept id v.toNat x
  | 11, [h, q, v, oc, em, f, s1, s0] =>
    (ofOutcome oc em f s1 s0).map fun o => .done ⟨h.toNat, q⟩ v.toNat o
  | 12, [d, _, _, _] => some (.hold d.toNat)
  | 13, [st, n, _, _] => (coded linkStates st).map fun x => .link x n.toNat
  | _, _ => none

/-- What TI makes of a frame it has heard (R131 to R135). -/
inductive Heard
  | fragment | malformed | bad | ownBay | otherBay (sender : Bay) | record (sender : Bay) (body : Body)
deriving DecidableEq, Repr

/-- The checks of a whole record, in their order (R131 to R135). `own` is this node's bay. An addressee
byte of 32 to 254, which names no bay and is not ALL, makes the record malformed (DESIGN CHOICE,
log 66). -/
def hear (own : Nat) (l : List Byte) : Heard :=
  match l with
  | a :: k :: d :: n :: rest =>
    if n.toNat < 4 ∨ 40 < n.toNat then .malformed
    else if rest.length < n.toNat + 2 then .fragment
    else
      match checked (l.take (n.toNat + 6)) with
      | none => .bad
      | some frame =>
        let sender : Bay := Fin.ofNat 32 a.toNat
        match readBody k.toNat (frame.drop 4) with
        | none => .malformed
        | some body =>
          if !bodyInRange body then .malformed
          else if a.toNat / 32 ≠ kindClass k.toNat then .malformed
          else if (d = 0xFF#8) ≠ kindToAll k.toNat then .malformed
          else if d ≠ 0xFF#8 ∧ 31 < d.toNat then .malformed
          else if sender.val = own then .ownBay
          else if d = 0xFF#8 ∨ d.toNat = own then .record sender body
          else .otherBay sender
  | _ => .fragment

/-- The command of a body that TI passes on. -/
def Heard.ofBody (sender : Bay) : Body → Instr
  | .status st => .status sender st
  | .call id tag cls source u => .call sender id tag cls source u
  | .bid id v eta => .bid sender id v eta
  | .award id w v => .award sender id w v
  | .cancel id => .cancel sender id
  | .sent id v eta => .sent sender id v eta
  | .retract id v r => .retract sender id v r
  | .ask id n => .ask sender id n
  | .loan id eta vs => .loan sender id eta vs
  | .consign id v tag dest cls carrier eta => .consign sender id v tag dest cls carrier eta
  | .accept id v r => .accept sender id v r
  | .done tag v o => .done sender tag v o
  | .hold d => .hold sender d
  | .link st n => .link sender st n

/-- The command that a heard frame gives. -/
def Heard.command : Heard → Instr
  | .fragment => .trunkFragment
  | .malformed => .malformedRecord
  | .bad => .badRecord
  | .ownBay => .duplicateBay
  | .otherBay s => .otherBayRecord s
  | .record s body => Heard.ofBody s body

/-! ### The station link (R26, R175) -/

/-- A station link frame: kind, body length, body, CRC. -/
def stationFrame (kind : Nat) (body : List Byte) : List Byte :=
  withCrc (byte kind :: byte body.length :: body)

/-- A message the node sends on the station link. -/
def stationMsgBytes : StationMsg → List Byte
  | .accepted tag => stationFrame 5 (0 :: tagBytes (some tag))
  | .refused c tag => stationFrame 5 (byte (refusalCode c) :: tagBytes tag)
  | .moveDone tag o => stationFrame 6 (tagBytes (some tag) ++ [code moveOutcomes o])
  | .linkReset => stationFrame 7 []

/-- A message the concentrator sends, from its kind and body. Of a flag byte only the bits that R175 names are
read: bit 0 for the carrier id, in MOVE-REQ also bit 1 for the tag (DESIGN CHOICE, log 76). -/
def readStationBody (kind : Nat) (l : List Byte) : Option Instr :=
  match kind, l with
  | 1, [s1, s0, d1, d0, c, f, a, b, c2, d, e, g, i, j, t1, t0] =>
    (coded classes c).map fun cls => .moveReq (ofWord s1 s0) (ofWord d1 d0) cls
      (ofCarrier (f.getLsbD 0) [a, b, c2, d, e, g, i, j])
      (if f.getLsbD 1 then some (ofWord t1 t0) else none)
  | 2, [h, q] => some (.cancelReq ⟨h.toNat, q⟩)
  | 3, [s1, s0, st, f, a, b, c, d, e, g, i, j] =>
    (coded portReports st).map fun x => .portState (ofWord s1 s0) x
      (ofCarrier (f.getLsbD 0) [a, b, c, d, e, g, i, j])
  | 4, [s1, s0, st] =>
    match st.toNat with
    | 0 => some (.shelfState (ofWord s1 s0) false)
    | 1 => some (.shelfState (ofWord s1 s0) true)
    | _ => none
  | _, _ => none

/-- The command of a frame from the concentrator; a frame that fails a check is discarded (R26). -/
def readStationFrame (l : List Byte) : Instr :=
  match checked l with
  | some (k :: n :: body) =>
    if n.toNat = body.length then (readStationBody k.toNat body).getD .stationFrameBad
    else .stationFrameBad
  | _ => .stationFrameBad

/-! ### The zone line (R6 to R8, R175) -/

/-- The nine bytes of a job. The target value of EXIT and RECIRCULATE, which name neither a station nor a
segment, is sent as 0, and an absent destination bay, for which R175 has no form, as 0xFF (DESIGN CHOICE,
log 87). -/
def jobBytes (j : Job) : List Byte :=
  let (k, v) : Nat × Nat := match j.target with
    | .station n => (0, n)
    | .segment n => (1, n)
    | .exit => (2, 0)
    | .park n => (3, n)
    | .recirculate => (4, 0)
  byte k :: word v ++ [code actions j.action] ++ tagBytes j.tag ++ stationBytes j.dest ++
    [match j.destBay with
      | some b => byte b
      | none => 0xFF#8]

def ofTarget (kind v : Nat) : Option Target :=
  match kind with
  | 0 => some (.station v)
  | 1 => some (.segment v)
  | 2 => some .exit
  | 3 => some (.park v)
  | 4 => some .recirculate
  | _ => none

def ofJob : List Byte → Option Job
  | [k, v1, v0, a, h, q, d1, d0, b] =>
    match ofTarget k.toNat (ofWord v1 v0), coded actions a with
    | some target, some action => some {
        target := target
        action := action
        tag := ofTag h q
        dest := ofStation d1 d0
        destBay := if b = 0xFF#8 then none else some b.toNat }
    | _, _ => none
  | _ => none

/-- A message the node sends on the zone line. -/
def zoneMsgBytes : ZoneMsg → List Byte
  | .poll v go => withCrc [1, byte v, flagByte go]
  | .goto v j => withCrc ([2, byte v] ++ jobBytes j)
  | .rollCall => withCrc [2, 255]

def ofPlace (x : Byte) : Option Place :=
  if x = 0xFE#8 then some .divert
  else if x = 0xFF#8 then some .merged
  else if x.toNat < Config.segmentSize then some (.segment x.toNat)
  else none

/-- A REPORT from its bytes; none where the frame is discarded. Of the flags the three bits that R175 names are
read (DESIGN CHOICE, log 76). -/
def readReport (l : List Byte) : Option Report :=
  match checked l with
  | some (t :: v :: p :: f :: m :: h :: lv :: rest) =>
    match ofPlace p, coded motions m, coded hoists h, coded levels lv, ofJob ((rest.drop 8).take 9),
      rest.drop 17 with
    | some place, some motion, some hoist, some level, some echo, [g] =>
      if t = 3 ∧ g.toNat ≤ 1 then
        some {
          vehicle := v.toNat
          place := place
          atMarker := f.getLsbD 0
          motion := motion
          carrier := f.getLsbD 1
          carrierId := ofCarrier (f.getLsbD 2) (rest.take 8)
          hoist := hoist
          level := level
          echo := echo
          jobDone := g = 1 }
      else none
    | _, _, _, _, _, _ => none
  | _ => none

/-! ### The service port (R171, R175, R176) -/

/-- The command of a service frame: code, length, arguments, CRC. -/
def readServiceArgs (kind : Nat) (l : List Byte) : Option Instr :=
  match kind, l with
  | 1, [t, i] => some (.read t.toNat i.toNat)
  | 2, [] => some .readStatus
  | 3, [] => some .readCounters
  | 4, [t1, t0] => some (.clearSticky (ofWord t1 t0))
  | 5, [h, q, a, s1, s0] =>
    match a.toNat with
    | 0 => some (.resolve ⟨h.toNat, q⟩ .atSource)
    | 1 => some (.resolve ⟨h.toNat, q⟩ (.atStation (ofWord s1 s0)))
    | 2 => some (.resolve ⟨h.toNat, q⟩ .remove)
    | _ => none
  | 6, [v] => some (.vehicleOut v.toNat)
  | 7, [s] => some (.restoreSegment s.toNat)
  | 8, [s] => some (.restoreShelf s.toNat)
  | 9, [] => some .resume
  | 10, [] => some .restart
  | _, _ => none

/-- The command of a frame from the service terminal. A frame that is discarded gives no command of its
own (R175). -/
def readServiceFrame (l : List Byte) : Instr :=
  match checked l with
  | some (k :: n1 :: n0 :: args) =>
    if ofWord n1 n0 = args.length then (readServiceArgs k.toNat args).getD .serviceFrameBad
    else .serviceFrameBad
  | _ => .serviceFrameBad

/-- A field of four bytes, high byte first. -/
def word32 (n : Nat) : List Byte := word (n / 65536) ++ word (n % 65536)

/-! ### The configuration image (R156, R176) -/

def byteAt (l : List Byte) (i : Nat) : Nat := (l.getD i 0).toNat
def wordAt (l : List Byte) (i : Nat) : Nat := byteAt l i * 256 + byteAt l (i + 1)

/-- The length that the image's own L and station count call for (R176). -/
def imageLength (l : List Byte) : Nat := 66 + 4 * (byteAt l 9 + 2) + 4 * byteAt l 51

/-- The settings an image spells, before they are checked (R176). -/
def imageCfg (l : List Byte) : Cfg where
  bay := Fin.ofNat 32 (byteAt l 2)
  nBays := byteAt l 3
  base := wordAt l 4
  limit := wordAt l 6
  rate := if byteAt l 8 = 0 then .k250 else if byteAt l 8 = 1 then .k500 else .k1000
  loopLen := byteAt l 9
  sectionTime := wordAt l 10
  xDefault := wordAt l 12
  deadlineHot := wordAt l 14
  deadlineExpress := wordAt l 16
  deadlineNormal := wordAt l 18
  deadlineReturn := wordAt l 20
  checkMode := if byteAt l 22 = 0 then .ignore else if byteAt l 22 = 1 then .holdMismatch else .ret
  wCall := wordAt l 23
  wSend := wordAt l 25
  wRecall := byteAt l 27
  wAccept := byteAt l 28
  wRetry := byteAt l 29
  wAsk := byteAt l 30
  tStarve := byteAt l 31
  fMin := byteAt l 32
  kKeep := byteAt l 33
  slackIn := wordAt l 34
  tRec := wordAt l 36
  tIdlePark := wordAt l 38
  hThr := byteAt l 40
  quanta := byteAt l 41
  q := byteAt l 42
  parkPenalty := byteAt l 43
  rLoaded := byteAt l 44
  pPoll := wordAt l 45
  pStatus := wordAt l 47
  tSilent := byteAt l 49
  tAbsent := byteAt l 50
  segments := (List.range (byteAt l 9 + 2)).map fun i =>
    { t := wordAt l (64 + 4 * i)
      capacity := byteAt l (66 + 4 * i)
      parking := byteAt l (67 + 4 * i) }
  stations := (List.range (byteAt l 51)).map fun i =>
    let o := 64 + 4 * (byteAt l 9 + 2) + 4 * i
    { number := wordAt l o
      kind := if byteAt l (o + 2) = 0 then .port else .shelf
      segment := byteAt l (o + 3) }

def within (lo hi n : Nat) : Bool := decide (lo ≤ n ∧ n ≤ hi)

/-- Check 3: every setting lies in its range (R156). -/
def imageRanges (l : List Byte) (c : Cfg) : Bool :=
  within 0 31 (byteAt l 2) && within 2 32 c.nBays && decide (c.base ≤ c.limit) &&
  within 0 4095 c.limit && within 0 31 (c.limit - c.base) && within 0 2 (byteAt l 8) &&
  within 4 38 c.loopLen && within 1 4095 c.sectionTime && within 1 4095 c.xDefault &&
  within 10 4095 c.deadlineHot && within 10 4095 c.deadlineExpress &&
  within 10 4095 c.deadlineNormal && within 10 4095 c.deadlineReturn &&
  within 0 2 (byteAt l 22) && within 200 2000 c.wCall && within 500 10000 c.wSend &&
  within 1 30 c.wRecall && within 5 100 c.wAccept && within 1 30 c.wRetry &&
  within 5 100 c.wAsk && within 2 120 c.tStarve && within 0 4 c.fMin && within 0 4 c.kKeep &&
  within 10 300 c.slackIn && within 10 600 c.tRec && within 5 300 c.tIdlePark &&
  within 0 6 c.hThr && within 10 255 c.quanta && within 0 15 c.q && within 0 255 c.parkPenalty &&
  within 0 4 c.rLoaded && within 100 1000 c.pPoll && within 500 5000 c.pStatus &&
  within 1 10 c.tSilent && within 5 60 c.tAbsent && within 0 32 (byteAt l 51) &&
  (c.segments.all fun g => within 8 32760 g.t && within 1 6 g.capacity && within 0 4 g.parking) &&
  (c.stations.all fun s => within c.base c.limit s.number && within 1 c.loopLen s.segment) &&
  ((List.range (byteAt l 51)).all fun i =>
    within 0 1 (byteAt l (64 + 4 * (byteAt l 9 + 2) + 4 * i + 2)))

/-- Check 4: the settings agree with one another (R156). -/
def imageConsistent (c : Cfg) : Bool :=
  decide (c.bay.val < c.nBays) && decide (c.stations.map StationCfg.number).Nodup &&
  decide ((c.segments.map SegCfg.capacity).sum ≤ 24) &&
  (c.segments.all fun g => decide (g.parking ≤ g.capacity)) &&
  (c.segments.head?.all fun g => g.parking == 0) &&
  (c.segments.getLast?.all fun g => g.parking == 0)

/-- The four checks of the image, in order (R156). `none` is a memory that does not answer. -/
def readImage (image : Option (List Byte)) : Except ImageCheck Cfg :=
  match image with
  | none => .error .read
  | some l =>
    let n := wordAt l 0
    if l.length < n ∨ l.length < 64 ∨ n ≠ imageLength l then .error .read
    else if (checked (l.take n)).isNone then .error .crc
    else if !imageRanges l (imageCfg l) then .error .ranges
    else if !imageConsistent (imageCfg l) then .error .consistency
    else .ok (imageCfg l)

end Sys2Proof.Machine
end

