-- ==== Sys2Proof/Machine/Start.lean ====
section
/-! DEFINITION. The meanings of the start-up commands: power-on, the configuration image, roll call and
the end of LISTEN (R20, R21, R27, R155 to R158). -/
namespace Sys2Proof.Machine

/-- POWER_ON (R155): every block takes its reset state and the node enters CONFIG. Commands that wait
go on waiting. -/
def execPowerOn (s : State) : Answered := .next { State.reset with pending := s.pending }

/-! ### The configuration image -/

/-- A Segment Table entry after reset (R4). -/
def segOf (c : SegCfg) : Seg where
  configured := c.capacity
  working := c.capacity
  t := c.t
  degraded := false
  faults := 0
  parking := c.parking
  clampRun := 0

/-- A Station Table entry after reset (R25); the held fields of a shelf are absent
(log 34). -/
def stationOf (c : StationCfg) : Station where
  number := c.number
  kind := c.kind
  segment := c.segment
  state := match c.kind with
    | .port => .offline
    | .shelf => .free
  reservation := none
  active := none
  carrierId := none
  finalDest := none
  heldClass := none
  holdingSince := none
  followOnDue := false
  disablePending := false
  hoistFailures := 0

/-- The tables that the image shapes: index i of the Station Table holds station base + i
(R4, R25). -/
def Blocks.configure (c : Cfg) (b : Blocks) : Blocks :=
  (b.modSegments fun _ => c.segments.map segOf).modStations fun _ =>
    (List.range Config.stationSize).map fun i =>
      (c.stations.find? fun x => x.number == c.base + i).map stationOf

/-- STATUS is placed with the buffered period, and the buffered value becomes the interval that
starts now (R139, R140): a timer that is taken late is set again from the node time of its command (DESIGN
CHOICE, log 109). -/
def Blocks.sendStatus (e : Env) (b : Blocks) : Blocks :=
  (b.toAll e (.status (b.statusBody e))).modTI fun t =>
    { t with interval := t.buffered, statusDue := after e.now t.buffered }

/-- The entry into LISTEN (R20, R139, R140, R143, R157). -/
def Blocks.enterListen (e : Env) (b : Blocks) : Blocks :=
  let b := (b.configure e.cfg).periodUpkeep e
  let b := (b.sendStatus e).modTI fun t => { t with heardAt := e.now }
  { b.emitZone .rollCall with zc := { b.zc with census := some 1 } }

/-- The length of LISTEN in ms (R157). -/
def listenTime : Nat := 2000

/-- CONFIG_IMAGE_READ (R156, R157): an accepted image puts the node in LISTEN, a refused one in
HALTED with CONFIG-ERROR. -/
def execConfigImageRead (image : Option (List Byte)) (s : State) : Answered :=
  if s.cl.node ≠ .config then .next (s.runPlain fun _ b => b)
  else
    match readImage image with
    | .error c => .next { s.runPlain fun _ b => b with
        cl := { s.cl with node := .haltedConfig c } }
    | .ok cfg => .next (s.runAs
        { node := .listen, cfg := cfg, listenEnd := some (after s.now listenTime) }
        Blocks.enterListen)

/-! ### Roll call -/

/-- ROLL_CALL_ANSWER (R20, R21): an answer in a census slot, taken when the slot is the vehicle's own;
a vehicle already on the roster has its entry updated (R11). -/
def execRollCallAnswer (r : Report) (s : State) : Answered :=
  .next (s.run fun e b =>
    if e.node = .listen ∧ b.zc.census = some r.vehicle then
      if b.onRoster r.vehicle then b.report e r else b.answer e r
    else b)

/-- The census slot after slot `v` (R20). -/
def nextSlot (v : Nat) : Option Nat := if v < 254 then some (v + 1) else none

/-- CENSUS_SLOT_END (R20): the next vehicle id has the next slot. -/
def execCensusSlotEnd (s : State) : Answered :=
  .next (s.runPlain fun e b =>
    if e.node = .listen then { b with zc := { b.zc with census := b.zc.census.bind nextSlot } }
    else b)

/-! ### The end of LISTEN -/

/-- The starvation check at the entry into READY (R106). -/
def Blocks.starveCheck (e : Env) (b : Blocks) : Blocks :=
  if b.supply < e.cfg.fMin then b.modDU fun d => { d with starve := some e.now } else b

/-- What the end of LISTEN occasions (R20, R27, R37, R92, R106, R158). -/
def Blocks.endListen (e : Env) (b : Blocks) : Blocks :=
  let b := { b with
    zc := { b.zc with census := none }
    si := { b.si with linkReset := true } }
  let b := b.emitStation .linkReset
  if e.node = .ready then ((b.starveCheck e).wantFollow).wantCall else b

/-- LISTEN_END (R158): 2000 ms of LISTEN have passed; READY, or CONFLICT when a lower bay holds an
overlapping window. -/
def execListenEnd (s : State) : Answered :=
  match s.cl.node, s.cl.listenEnd with
  | .listen, some t =>
    if passed s.now t 0 then
      let node : NodeState := if s.b.lowerOverlap s.env then .conflict else .ready
      .next (s.runAs { s.cl with node := node, listenEnd := none } Blocks.endListen)
    else .next (s.runPlain fun _ b => b)
  | _, _ => .next (s.runPlain fun _ b => b)

end Sys2Proof.Machine
end

