-- ==== Sys2Proof/Machine/Timers.lean ====
section
/-! DEFINITION. The meanings of the commands at which a window, a deadline or a timer runs out. Each
checks against node time that it is due, and changes nothing when it is not (log 3). Two check nothing: the
age review, which has no deadline (log 60), and RECALL_TIME_PASSED, whose call pass itself leaves out the moves
whose recall time has not passed (log 3). -/
namespace Sys2Proof.Machine

/-! ### Trunk timers (R139 to R143, R152) -/

/-- STATUS_TIMER (R139, R140): the status timer runs in LISTEN, READY and CONFLICT. -/
def execStatusTimer (s : State) : Answered :=
  .next (s.run fun e b =>
    if e.node.active ∧ passed e.now b.ti.statusDue 0 then b.sendStatus e else b)

/-- Every PRESENT entry becomes STALE when the link is LOST (R152). -/
def Blocks.staleAll (e : Env) (b : Blocks) : Blocks :=
  (List.finRange 32).foldl
    (fun b k => if (b.peer k.val).presence = .present ∧ k ≠ e.cfg.bay then b.setPresence e k .stale
      else b) b

/-- LINK_LOST (R142, R143, R152): T_silent has passed without a well-formed record. -/
def execLinkLost (s : State) : Answered :=
  .next (s.run fun e b =>
    if e.node.running ∧ !b.ti.lost ∧ passed e.now b.ti.heardAt (e.cfg.tSilent * 1000) then
      (b.modTI fun t => { t with lost := true }).staleAll e
    else b)

/-- HOLD_HALF_ELAPSED (R141): half of the node's own holding has run. With less than half left the upkeep that
ends every command renews the HOLD. -/
def execHoldHalfElapsed (s : State) : Answered :=
  .next (s.run fun e b =>
    if 2 * b.holdLeft e = (e.cfg.quanta * 100 : Nat) then b.holdUpkeep e true else b)

/-- HOLD_DURATION_END (R141): the node stops holding. -/
def execHoldDurationEnd (s : State) : Answered :=
  .next (s.run fun e b =>
    if b.ti.holdingUntil.any fun t => passed e.now t 0 then
      b.modTI fun t => { t with holdingUntil := none }
    else b)

/-! ### Peers (R150, R151) -/

/-- PEER_HOLD_EXPIRY (R150): a peer's hold ends by its own time. -/
def execPeerHoldExpiry (bay : Bay) (s : State) : Answered :=
  .next (s.run fun e b =>
    if (b.peer bay.val).holdUntil.any fun t => passed e.now t 0 then
      (b.modPeer bay.val fun p => { p with holdUntil := none }).reevaluateBay e bay.val
    else b)

/-- Three announced periods in ms, or of the greatest period where none is announced (R151). -/
def Peer.patience (p : Peer) : Nat := 3 * p.period.getD 50 * 100

/-- PEER_STALE (R151). -/
def execPeerStale (bay : Bay) (s : State) : Answered :=
  .next (s.run fun e b =>
    let p := b.peer bay.val
    if e.node.running ∧ bay ≠ e.cfg.bay ∧ p.presence = .present ∧
        p.lastHeard.any fun t => passed e.now t p.patience then
      b.setPresence e bay .stale
    else b)

/-- PEER_ABSENT (R124, R151): the moves that wait for that peer's answer are turned to shelves. -/
def execPeerAbsent (bay : Bay) (s : State) : Answered :=
  .next (s.run fun e b =>
    let p := b.peer bay.val
    if e.node.running ∧ bay ≠ e.cfg.bay ∧ p.presence = .stale ∧
        p.staleSince.any fun t => passed e.now t (e.cfg.tAbsent * 1000) then
      (b.setPresence e bay .absent).turnFromAbsent e bay.val
    else b)

/-! ### Calls, bids and asks (R92, R95, R97, R104, R106, R107, R109) -/

/-- The call window has ended without a bid: WAITING, with a recall time (R95). -/
def Blocks.noBid (e : Env) (c : CallEntry) (b : Blocks) : Blocks :=
  ((b.removeCall c.tag).modMove c.tag fun m =>
    { m with recallAt := some (after e.now (e.cfg.wRecall * 1000)) }).enterWaiting e c.tag false

/-- The call is awarded to its best bid (R95). -/
def Blocks.awardCall (e : Env) (c : CallEntry) (best : BestBid) (b : Blocks) : Blocks :=
  let b := b.toAll e (.award c.id best.bay best.vehicle)
  let b := b.modMove c.tag fun m => { m with state := .awarded }
  (b.modCalls fun l => l.map fun x =>
    if x.id = c.id then { x with awardDeadline := some (after e.now e.cfg.wSend) } else x).bump
    .callsAwarded

/-- CALL_WINDOW_END (R95, R100): in HALTED the call ends as one without a bid. -/
def execCallWindowEnd (id : Id8) (s : State) : Answered :=
  .next (s.run fun e b =>
    match b.du.calls.find? fun c => c.id == id with
    | none => b
    | some c =>
      if b.callState c = some .calling ∧ passed e.now c.windowEnd 0 then
        match c.best with
        | some best => if e.node.halted then b.noBid e c else b.awardCall e c best
        | none => b.noBid e c
      else b)

/-- AWARD_DEADLINE (R97): no answer has come to the award. -/
def execAwardDeadline (id : Id8) (s : State) : Answered :=
  .next (s.run fun e b =>
    match b.du.calls.find? fun c => c.id == id with
    | none => b
    | some c =>
      if b.callState c = some .awarded ∧ c.awardDeadline.any fun t => passed e.now t 0 then
        (b.awardFailed e c).bump .awardUnanswered
      else b)

/-- RECALL_TIME_PASSED (R92): a call pass runs whenever the command is sent; the pass takes no move whose
recall time has not passed, but may take another (DESIGN CHOICE, log 3). -/
def execRecallTimePassed (s : State) : Answered := .next (s.run fun _ b => b.wantCall)

/-- BID_HOLD_END (R104): the hold of a bid has ended and its entry is released. -/
def execBidHoldEnd (caller : Bay) (id : Id8) (s : State) : Answered :=
  .next (s.run fun e b =>
    b.releaseBids fun x => bidFor caller.val id x && passed e.now x.holdEnd 0)

/-- ASK_DEADLINE (R109): the ask closes unanswered. -/
def execAskDeadline (s : State) : Answered :=
  .next (s.run fun e b =>
    if b.du.ask.any fun a => passed e.now a.deadline 0 then b.closeAsk e else b)

/-- The conditions of an ask attempt (R106). -/
def Blocks.mayAsk (e : Env) (b : Blocks) : Bool :=
  e.node == .ready && b.fu.recovery != .restricted && b.ti.linkUp

/-- STARVE_EXPIRY (R106, R107): an ask attempt is made, or passed by. -/
def execStarveExpiry (s : State) : Answered :=
  .next (s.run fun e b =>
    if b.du.ask.isNone ∧ b.du.starve.any fun t => passed e.now t (e.cfg.tStarve * 1000) then
      if b.mayAsk e then b.askAttempt e else b.modDU fun d => { d with starve := some e.now }
    else b)

/-! ### The consignment wait (R120, R121) -/

/-- The deadline of a move's consignment wait has passed in the given phase (R121). -/
def Blocks.waitDue (e : Env) (b : Blocks) (tag : Tag) (retry : Bool) : Bool :=
  (b.move? tag).any fun m => m.state == .carrying &&
    m.wait.any fun w => w.retry == retry && passed e.now w.deadline 0

/-- Starts a phase of a move's consignment wait (R120, R121). -/
def Blocks.startWait (e : Env) (tag : Tag) (retry : Bool) (b : Blocks) : Blocks :=
  let ms := if retry then e.cfg.wRetry * 1000 else e.cfg.wAccept * 100
  b.modMove tag fun m => { m with wait := some { retry := retry, deadline := after e.now ms } }

/-- ACCEPT_DEADLINE (R120, R121): RETRY follows; a CONSIGN still queued starts the same phase
afresh. -/
def execAcceptDeadline (tag : Tag) (s : State) : Answered :=
  .next (s.run fun e b =>
    if b.waitDue e tag false then
      if b.consignQueued tag then b.startWait e tag false else b.startWait e tag true
    else b)

/-- RETRY_DEADLINE (R120, R121, R124): CONSIGN is sent again with the same consign id. -/
def execRetryDeadline (tag : Tag) (s : State) : Answered :=
  .next (s.run fun e b =>
    if b.waitDue e tag true then
      if b.consignQueued tag then b.startWait e tag true else b.consignSend e tag false
    else b)

/-! ### The Inbound List, parking, recovery and age (R72, R86, R111, R112, R162) -/

/-- INBOUND_LATE (R111): an ON-TIME entry becomes LATE. The Inbound List is read (log 13). -/
def execInboundLate (vehicle : Nat) (parity : List ParityError) (s : State) : Answered :=
  .next (s.runFailing [.inbound] parity fun e b =>
    match b.inbound? vehicle with
    | none => b
    | some i =>
      if !i.late ∧ passed e.now i.expected (e.cfg.slackIn * 1000) then
        (b.modInbound fun l => l.map fun x =>
          if x.vehicle = vehicle then { x with late := true } else x).bump .lateEntries
      else b)

/-- INBOUND_MISSING (R112): three times slack_in has passed; the entry is removed. -/
def execInboundMissing (vehicle : Nat) (s : State) : Answered :=
  .next (s.run fun e b =>
    match b.inbound? vehicle with
    | none => b
    | some i =>
      if passed e.now i.expected (3 * e.cfg.slackIn * 1000) then
        (b.removeInbound e vehicle).bump .missingEntries
      else b)

/-- IDLE_PARK_DUE (R86, R87): a due vehicle's park request is made. -/
def execIdleParkDue (vehicle : Nat) (s : State) : Answered :=
  .next (s.run fun e b => if e.node.parks then b.parkOne e vehicle else b)

/-- RECOVERY_DEADLINE (R162): T_rec has passed in RECOVERING. -/
def execRecoveryDeadline (s : State) : Answered :=
  .next (s.run fun e b =>
    if b.fu.watch.any fun w => passed e.now w.deadline 0 then b.watchDone else b)

/-- Draws accepted at forward for a record whose age has reached 4095 s (R72). -/
def Move.review (now : Time) (m : Move) : Move :=
  if m.age now = 4095 then { m with acceptedAt := now - BitVec.ofNat 32 4095000 } else m

/-- AGE_REVIEW (R72): every record other than FREE is read and reviewed. The command acts whenever it is
sent: State holds no time of the last review, so the pace of once a second is the sender's (DESIGN CHOICE,
log 60). -/
def execAgeReview (parity : List ParityError) (s : State) : Answered :=
  .next (s.runFailing [.move] parity fun e b =>
    b.modMoves fun l => l.map (Option.map (Move.review e.now)))

end Sys2Proof.Machine
end

