-- ==== Sys2Proof/Machine/Dispatch.lean ====
section
/-! DEFINITION. The dispatch: one arm for each command of the BN-612, one call of its meaning. -/
namespace Sys2Proof.Machine

def exec (i : Instr) (s : State) : Host.Outcome State Fault Refusal :=
  match i with
  | .powerOn => Sys2Proof.Machine.execPowerOn s
  | .configImageRead image => Sys2Proof.Machine.execConfigImageRead image s
  | .rollCallAnswer r => Sys2Proof.Machine.execRollCallAnswer r s
  | .censusSlotEnd => Sys2Proof.Machine.execCensusSlotEnd s
  | .listenEnd => Sys2Proof.Machine.execListenEnd s
  | .pollRound parity => Sys2Proof.Machine.execPollRound parity s
  | .report r parity => Sys2Proof.Machine.execReport r parity s
  | .missedPoll vehicle => Sys2Proof.Machine.execMissedPoll vehicle s
  | .entryWatchReport r => Sys2Proof.Machine.execEntryWatchReport r s
  | .moveReq source dest cls carrier deadline => Sys2Proof.Machine.execMoveReq source dest cls carrier deadline s
  | .cancelReq tag => Sys2Proof.Machine.execCancelReq tag s
  | .portState station state carrier => Sys2Proof.Machine.execPortState station state carrier s
  | .shelfState station disabled => Sys2Proof.Machine.execShelfState station disabled s
  | .stationFrameBad => Sys2Proof.Machine.execStationFrameBad s
  | .transmitStart => Sys2Proof.Machine.execTransmitStart s
  | .arbitrationLost => Sys2Proof.Machine.execArbitrationLost s
  | .transmitFailure => Sys2Proof.Machine.execTransmitFailure s
  | .recordSent => Sys2Proof.Machine.execRecordSent s
  | .trunkFragment => Sys2Proof.Machine.execTrunkFragment s
  | .maxRecordTimeExpiry => Sys2Proof.Machine.execMaxRecordTimeExpiry s
  | .badRecord => Sys2Proof.Machine.execBadRecord s
  | .malformedRecord => Sys2Proof.Machine.execMalformedRecord s
  | .duplicateBay => Sys2Proof.Machine.execDuplicateBay s
  | .otherBayRecord sender => Sys2Proof.Machine.execOtherBayRecord sender s
  | .status sender st => Sys2Proof.Machine.execStatus sender st s
  | .hold sender duration => Sys2Proof.Machine.execHold sender duration s
  | .link sender state bad => Sys2Proof.Machine.execLink sender state bad s
  | .call sender id tag cls source urgency => Sys2Proof.Machine.execCall sender id tag cls source urgency s
  | .bid sender id vehicle eta => Sys2Proof.Machine.execBid sender id vehicle eta s
  | .award sender id winner vehicle => Sys2Proof.Machine.execAward sender id winner vehicle s
  | .cancel sender id => Sys2Proof.Machine.execCancel sender id s
  | .sent sender id vehicle eta => Sys2Proof.Machine.execSent sender id vehicle eta s
  | .retract sender id vehicle reason => Sys2Proof.Machine.execRetract sender id vehicle reason s
  | .ask sender id count => Sys2Proof.Machine.execAsk sender id count s
  | .loan sender id eta vehicles => Sys2Proof.Machine.execLoan sender id eta vehicles s
  | .consign sender id vehicle tag dest cls carrier eta => Sys2Proof.Machine.execConsign sender id vehicle tag dest cls carrier eta s
  | .accept sender id vehicle result => Sys2Proof.Machine.execAccept sender id vehicle result s
  | .done sender tag vehicle outcome => Sys2Proof.Machine.execDone sender tag vehicle outcome s
  | .statusTimer => Sys2Proof.Machine.execStatusTimer s
  | .linkLost => Sys2Proof.Machine.execLinkLost s
  | .holdHalfElapsed => Sys2Proof.Machine.execHoldHalfElapsed s
  | .holdDurationEnd => Sys2Proof.Machine.execHoldDurationEnd s
  | .peerHoldExpiry bay => Sys2Proof.Machine.execPeerHoldExpiry bay s
  | .peerStale bay => Sys2Proof.Machine.execPeerStale bay s
  | .peerAbsent bay => Sys2Proof.Machine.execPeerAbsent bay s
  | .callWindowEnd id => Sys2Proof.Machine.execCallWindowEnd id s
  | .awardDeadline id => Sys2Proof.Machine.execAwardDeadline id s
  | .recallTimePassed => Sys2Proof.Machine.execRecallTimePassed s
  | .bidHoldEnd caller id => Sys2Proof.Machine.execBidHoldEnd caller id s
  | .askDeadline => Sys2Proof.Machine.execAskDeadline s
  | .starveExpiry => Sys2Proof.Machine.execStarveExpiry s
  | .acceptDeadline tag => Sys2Proof.Machine.execAcceptDeadline tag s
  | .retryDeadline tag => Sys2Proof.Machine.execRetryDeadline tag s
  | .inboundLate vehicle parity => Sys2Proof.Machine.execInboundLate vehicle parity s
  | .inboundMissing vehicle => Sys2Proof.Machine.execInboundMissing vehicle s
  | .idleParkDue vehicle => Sys2Proof.Machine.execIdleParkDue vehicle s
  | .recoveryDeadline => Sys2Proof.Machine.execRecoveryDeadline s
  | .ageReview parity => Sys2Proof.Machine.execAgeReview parity s
  | .read table index => Sys2Proof.Machine.execRead table index s
  | .readStatus => Sys2Proof.Machine.execReadStatus s
  | .readCounters => Sys2Proof.Machine.execReadCounters s
  | .clearSticky token => Sys2Proof.Machine.execClearSticky token s
  | .resolve tag how => Sys2Proof.Machine.execResolve tag how s
  | .vehicleOut vehicle => Sys2Proof.Machine.execVehicleOut vehicle s
  | .restoreSegment index => Sys2Proof.Machine.execRestoreSegment index s
  | .restoreShelf index => Sys2Proof.Machine.execRestoreShelf index s
  | .resume => Sys2Proof.Machine.execResume s
  | .restart => Sys2Proof.Machine.execRestart s
  | .serviceFrameBad => Sys2Proof.Machine.execServiceFrameBad s

end Sys2Proof.Machine
end

