-- ==== Sys2Proof/Machine/Step.lean ====
section
/-! DEFINITION. One step: the command at the front of the queue, or one tick of node time. -/
namespace Sys2Proof.Machine

/-- A tick: nothing waits, one millisecond of node time passes, and the connections are quiet (R1,
DESIGN CHOICE, log 2). -/
def State.tick (s : State) : State := { s with now := s.now + 1, b := s.b.quiet }

/-- One step: the command that has waited longest is taken and runs on the rest of the queue; on an
empty queue node time advances. -/
def step (s : State) : Host.Outcome State Fault Refusal :=
  match s.pending with
  | [] => .next s.tick
  | c :: rest => exec c { s with pending := rest }

/-- The state with the command that the word spells put at the front of its queue. -/
def State.withFetchWord (s : State) (nbits w : Nat) : State :=
  match decodeTableWord nbits w with
  | none => s
  | some c => { s with pending := c :: s.pending }

end Sys2Proof.Machine
end

