-- ==== Sys2Proof/Machine/Answers.lean ====
section
/-! DEFINITION. The byte layouts of the service port's answers: result code, length, returned fields and
CRC, each entry in the field order of the table that defines it (R4, R10, R25, R40, R89, R101, R110, R146,
R172, R175, R176). Where R175 and R176 give no code, no width or no form for a field, log 33 says what
stands there. -/
namespace Sys2Proof.Machine

/-! ### Fields (R175) -/

/-- A field of `width` bytes whose form the layouts leave open. -/
def openBytes (field : String) (width : Nat) : List Byte :=
  (List.range width).map (Config.openByte field)

/-- The code of a value that the code table does not list. -/
def openCode [BEq α] (field : String) (l : List α) (a : α) : Byte := Config.openByte field (l.idxOf a)

/-- An optional field of `width` bytes whose absent form the layouts leave open. -/
def optional (field : String) (width : Nat) (f : α → List Byte) : Option α → List Byte
  | some a => f a
  | none => openBytes field width

def timeBytes (t : Time) : List Byte := word32 t.toNat

/-- A vehicle id; an absent vehicle is 0. -/
def vehicleByte (v : Option Nat) : Byte := byte (v.getD 0)

/-- A carrier id with its presence flag. -/
def carrierField (c : Option CarrierId) : List Byte := flagByte c.isSome :: carrierBytes c

def idField (field : String) (i : Option Id8) : List Byte := optional field 1 (fun x => [x]) i

/-- NONE, HELD and LOST have codes; CLEAN has none. -/
def endMethodByte : Option EndMethod → Byte
  | none => 0
  | some .held => 1
  | some .lost => 2
  | some .clean => Config.openByte "end-method CLEAN" 0

/-- LISTEN, READY and CONFLICT have codes; CONFIG and HALTED have none. -/
def nodeByte : NodeState → Byte
  | .listen => 0
  | .ready => 1
  | .conflict => 2
  | .config => Config.openByte "node state" 0
  | .haltedConfig _ => Config.openByte "node state" 1
  | .haltedDuplicate => Config.openByte "node state" 1

def stationStateByte : StationState → Byte
  | .empty => 0
  | .occupied => 1
  | .offline => 2
  | .free => 0
  | .disabled => 1
  | .holding => Config.openByte "shelf state HOLDING" 0

def kindByte : Kind → Byte
  | .port => 0
  | .shelf => 1

def moveStates : List MoveState :=
  [.waiting, .calling, .awarded, .bound, .loading, .carrying, .suspended, .consigned, .stranded]
def rosterStates : List RosterState :=
  [.entering, .idle, .parked, .toSource, .loading, .loaded, .unloading, .toExit, .loadedWait, .faulted,
    .silent]
def inboundKinds : List InboundKind := [.loaded, .emptyForMove, .loan]
def presences : List Presence := [.unknown, .present, .stale, .absent]
def faultKinds : List FaultKind := [.vehicle, .carrier, .memory]
def imageChecks : List ImageCheck := [.read, .crc, .ranges, .consistency]

/-! ### Entries, in the field order of their tables -/

/-- R40. -/
def moveBytes (m : Move) : List Byte :=
  tagBytes (some m.tag) ++ word m.source ++ word m.dest ++ [code classes m.cls] ++
    carrierField m.carrierId ++ timeBytes m.acceptedAt ++ word m.deadline ++
    [openCode "move state" moveStates m.state, flagByte m.destHeld, vehicleByte m.vehicle] ++
    idField "call id" m.callId ++ idField "consign id" m.consignId ++
    optional "consignee" 1 (fun k => [byte k]) m.consignee ++
    [endMethodByte m.endMethod, byte m.retry, flagByte m.shelfSourced, flagByte m.poisoned,
      flagByte m.checkHold, code hoists m.lastHoist] ++
    optional "recall not before" 4 timeBytes m.recallAt

/-- A FREE move record: its optional fields are absent and its flags clear, each in its own form; the fields
that every other record holds are open (R40, R175, log 33). -/
def freeMoveBytes : List Byte :=
  tagBytes none ++ openBytes "FREE source" 2 ++ openBytes "FREE destination" 2 ++
    openBytes "FREE class" 1 ++ carrierField none ++ openBytes "FREE accepted at" 4 ++
    openBytes "FREE deadline" 2 ++ openBytes "FREE state" 1 ++ [flagByte false, vehicleByte none] ++
    idField "call id" none ++ idField "consign id" none ++ openBytes "consignee" 1 ++
    [endMethodByte none] ++ openBytes "FREE retry count" 1 ++
    [flagByte false, flagByte false, flagByte false] ++ openBytes "FREE last hoist" 1 ++
    openBytes "recall not before" 4

/-- R10's arrival details. -/
def arrivalBytes (a : Arrival) : List Byte :=
  [openCode "inbound kind" inboundKinds a.kind, byte a.source] ++ tagBytes a.tag ++ [a.ref] ++
    stationBytes a.dest ++ optional "class" 1 (fun c => [code classes c]) a.cls ++
    carrierField a.carrierId ++ [byte a.recirc]

/-- R22's capture. -/
def captureBytes (c : Capture) : List Byte :=
  (match c.marker with
    | .divert => Config.openByte "marker" 0
    | .segEnd s => Config.openByte "marker" (s + 1)) :: timeBytes c.time ++ [flagByte c.stopped]

/-- R10. The model's own fields are no part of the entry. -/
def vehicleBytes (v : Vehicle) : List Byte :=
  [byte v.id, byte v.segment, code motions v.motion, flagByte v.carrier] ++ carrierField v.carrierId ++
    [code hoists v.hoist, code levels v.level, openCode "roster state" rosterStates v.state] ++
    tagBytes v.bound ++ [flagByte v.reserved] ++ optional "job" 9 jobBytes v.job ++
    optional "pending echo" 2 (fun c => [byte c.reports, byte c.sendings]) v.echo ++
    optional "grant" 1 (fun n => [byte n]) v.grant ++ [flagByte v.clearance] ++
    timeBytes v.lastReport ++ [byte v.missed] ++ timeBytes v.idleSince ++ [flagByte v.unexpected] ++
    optional "arrival details" 18 arrivalBytes v.arrival ++ [flagByte v.relearn] ++
    optional "capture" 6 captureBytes v.capture ++ optional "blocked mark" 1 (fun n => [byte n]) v.blocked

/-- R110. -/
def inboundBytes (i : Inbound) : List Byte :=
  [byte i.vehicle, openCode "inbound kind" inboundKinds i.kind, byte i.source] ++ tagBytes i.tag ++
    [i.ref] ++ stationBytes i.dest ++ optional "class" 1 (fun c => [code classes c]) i.cls ++
    carrierField i.carrierId ++ timeBytes i.expected ++
    [byte i.recirc, Config.openByte "lateness" (if i.late then 1 else 0)]

/-- R4, and the parking room of R88, which may be negative. -/
def segBytes (g : SegView) : List Byte :=
  [byte g.configured, byte g.working] ++ word g.t ++
    [byte g.occupancy, byte g.grantedIn, flagByte g.degraded, byte g.faults, byte g.parking,
      byte g.clampRun] ++ word32 g.discarded ++ [BitVec.ofInt 8 g.parkingRoom]

/-- R25. -/
def stationEntryBytes (s : Station) : List Byte :=
  word s.number ++ [kindByte s.kind, byte s.segment, stationStateByte s.state] ++
    tagBytes s.reservation ++ tagBytes s.active ++ carrierField s.carrierId ++
    stationBytes s.finalDest ++ optional "class" 1 (fun c => [code classes c]) s.heldClass ++
    optional "holding since" 4 timeBytes s.holdingSince ++
    [flagByte s.followOnDue, flagByte s.disablePending, byte s.hoistFailures]

/-- R146; `node` is the byte of the node state, which the own entry takes from CL (R147). The status period
stands in one byte, and the offline stations behind a count byte whose bit 7 is the overflow flag, as in a
STATUS (DESIGN CHOICE, log 33). -/
def peerBytes (node : List Byte) (p : Peer) : List Byte :=
  openCode "presence" presences p.presence :: optional "last heard" 4 timeBytes p.lastHeard ++
    optional "stale since" 4 timeBytes p.staleSince ++
    optional "window" 4 (fun w => word w.1 ++ word w.2) p.window ++
    optional "section time" 2 word p.sectionTime ++ optional "period" 1 (fun n => [byte n]) p.period ++
    [byte p.idle] ++ node ++ optional "recovery" 1 (fun r => [code recoveries r]) p.recovery ++
    optional "link" 1 (fun x => [code linkStates x]) p.link ++
    optional "bad count" 1 (fun n => [byte n]) p.bad ++
    optional "hold until" 4 timeBytes p.holdUntil ++
    [byte (p.offline.length + if p.overflow then 128 else 0)] ++ p.offline.flatMap word ++
    [flagByte p.changed]

/-- R89. -/
def callBytes (c : CallEntry) : List Byte :=
  c.id :: tagBytes (some c.tag) ++ timeBytes c.windowEnd ++
    optional "best bid" 4 (fun x => [byte x.bay, byte x.vehicle] ++ word x.cost) c.best ++
    [byte c.bids] ++ optional "award deadline" 4 timeBytes c.awardDeadline

/-- R101. -/
def bidBytes (x : BidEntry) : List Byte :=
  [byte x.caller, x.id] ++ tagBytes (some x.tag) ++ word x.urgency ++ [byte x.vehicle] ++ word x.eta ++
    timeBytes x.holdEnd

/-- The fields of an entry. An index that holds nothing returns the open form of an empty entry. -/
def entryBytes : ReadEntry → List Byte
  | .move (some m) => moveBytes m
  | .move none => freeMoveBytes
  | .roster v => optional "roster entry not in use" 68 vehicleBytes v
  | .inbound i => optional "empty inbound entry" 24 inboundBytes i
  | .segment g => segBytes g
  | .station s => optional "empty station entry" 28 stationEntryBytes s
  | .peer p => peerBytes (optional "node state" 1 (fun n => [code nodeAnns n]) p.node) p
  | .own node p => peerBytes [nodeByte node] p
  | .call c => optional "empty call entry" 16 callBytes c
  | .bid x => optional "empty bid entry" 13 bidBytes x

/-! ### READ-STATUS (R172) and the whole answer (R176) -/

/-- R161's First-Fault Record; of an empty one every field is absent, in its own form where it has one (R170,
R175). -/
def firstFaultBytes (f : Option FirstFault) : List Byte :=
  [match f with
    | some f => openCode "fault kind" faultKinds f.kind
    | none => Config.openByte "fault kind" faultKinds.length,
    vehicleByte (f.bind FirstFault.vehicle)] ++ tagBytes (f.bind FirstFault.tag) ++
    [endMethodByte (f.bind FirstFault.method)] ++
    optional "first fault time" 4 (fun f => timeBytes f.time) f

/-- The cause of HALTED and the failed configuration check (R155, R156). -/
def causeBytes : NodeState → List Byte
  | .haltedConfig c => [Config.openByte "cause of HALTED" 0, openCode "configuration check" imageChecks c]
  | .haltedDuplicate => [Config.openByte "cause of HALTED" 1, Config.openByte "configuration check" 4]
  | _ => [Config.openByte "cause of HALTED" 2, Config.openByte "configuration check" 4]

/-- What READ-STATUS returns, in the order of R172's list, the new token last. The changed flags take one
place for each bay 0 to 31, the own bay's never set (DESIGN CHOICE, log 33). -/
def statusBytes (v : StatusView) : List Byte :=
  nodeByte v.node :: causeBytes v.node ++
    [code recoveries v.recovery,
      if v.lost then Config.openByte "link LOST" 0 else code linkStates v.receive,
      code linkStates v.receive, flagByte v.mute] ++
    firstFaultBytes v.first ++
    [flagByte v.multiVehicle, flagByte v.multiCarrier, flagByte v.multiMemory] ++
    [v.sticky.vehicle, v.sticky.carrier, v.sticky.memory, v.sticky.segment, v.sticky.shelf,
      v.sticky.overflow, v.sticky.link].map flagByte ++ v.changed.map flagByte ++ word v.token.toNat

/-- The result code and the returned fields of an answer. -/
def replyFields : Reply → Byte × List Byte
  | .result r => (code results r, [])
  | .entry x => (code results .ok, entryBytes x)
  | .status v => (code results .ok, statusBytes v)
  | .counters l => (code results .ok, l.flatMap word32)

/-- An answer of the service port: result code, length, returned fields, CRC (R176). -/
def replyBytes (r : Reply) : List Byte :=
  withCrc ((replyFields r).1 :: word (replyFields r).2.length ++ (replyFields r).2)

end Sys2Proof.Machine
end

