-- ==== Sys2Proof/Safety.lean ====
section
/-! DEFINITION. The terms in which claims about the BN-612 are stated: what a command answers, the
invariants of the tables, and the conditions that hold between commands. -/
namespace Sys2Proof.Machine

/-- The command completes: it answers a next state, and that state satisfies `P`. -/
def Answers (i : Instr) (s : State) (P : State → Prop) : Prop := ∃ t, exec i s = .next t ∧ P t

/-! ### Between commands -/

/-- No pass is left over from the command before (log 16), and no failed bit waits in a table to be found
(R166, log 13). -/
abbrev State.rested (s : State) : Prop := s.b.agenda = Agenda.none ∧ s.b.spoiled = []

/-- The tables have their fixed sizes and the counters their width (R2, R10, R25, R40, R142, R146), and
no pass is left over. -/
abbrev State.Sized (s : State) : Prop :=
  s.b.zc.roster.length = Config.rosterSize ∧ s.b.mm.moves.length = Config.moveSize ∧
  s.b.si.stations.length = Config.stationSize ∧ s.b.pd.peers.length = 32 ∧
  s.b.ti.outcomes.length = Config.windowSize ∧ s.b.zc.discarded.length = Config.segmentSize ∧
  s.b.sp.counters.length = SP.counterCount ∧ (∀ n ∈ s.b.sp.counters, n ≤ 4294967295) ∧
  (∀ n ∈ s.b.zc.discarded, n ≤ 4294967295) ∧ s.b.agenda = Agenda.none

/-- The tables have their sizes, and the machine is between commands with no failed bit waiting. -/
abbrev State.WellSized (s : State) : Prop := s.Sized ∧ s.rested

/-- Records from bay `k` are taken by a trunk in good order: the node receives, `k` is another bay and
PRESENT, and the link is neither LOST nor muted. -/
abbrev State.hears (s : State) (k : Bay) : Prop :=
  s.cl.node.running = true ∧ k ≠ s.cl.cfg.bay ∧ (s.b.peer k.val).presence = .present ∧
  s.b.ti.linkUp = true ∧ s.rested

/-- The Transmit Queue has room for `n` more records (R136). -/
abbrev State.roomFor (s : State) (n : Nat) : Prop := s.b.ti.count + n ≤ Config.queueSize

/-- A station number is routed: a configured station of the own window, or in the window of another bay
of the loop that the Peer Table holds, whatever that bay's presence (R43, R153). -/
abbrev State.routed (s : State) (n : Nat) : Prop :=
  (s.env.inWindow n = true ∧ (s.b.station? n).isSome = true) ∨
  (s.env.inWindow n = false ∧
    ∃ k, k < s.cl.cfg.nBays ∧ k ≠ s.cl.cfg.bay.val ∧ (s.b.peer k).serves n = true)

/-- The counter has risen by one, up to its greatest value (R2). -/
abbrev Raised (k : Counter) (s t : State) : Prop := t.b.counter k = sat32 (s.b.counter k + 1)

/-- A record waits in the Transmit Queue. -/
abbrev State.queued (s : State) (r : Record) : Prop := r ∈ s.b.ti.queue

/-! ### What a command leaves alone -/

/-- The Dispatch Unit's lists: calls, bids, the open ask and their counters. -/
abbrev SameBooks (b c : Blocks) : Prop :=
  c.du.calls = b.du.calls ∧ c.du.callCounter = b.du.callCounter ∧ c.du.bids = b.du.bids ∧
  c.du.ask = b.du.ask ∧ c.du.askCounter = b.du.askCounter

/-- The tables of the bay's own work: roster, Inbound List, segments, stations, wait queue, moves. -/
abbrev SameBay (b c : Blocks) : Prop := c.zc = b.zc ∧ c.si = b.si ∧ c.mm = b.mm

/-- The service command is refused with `r` and changes nothing (R171). -/
abbrev Refuses (i : Instr) (r : Result) (s : State) : Prop :=
  Answers i s fun t => t.b.out.service = some (.result r) ∧ SameBay s.b t.b ∧ SameBooks s.b t.b

/-- Every roster entry but that of vehicle `id`. -/
abbrev SameVehiclesBut (id : Nat) (b c : Blocks) : Prop :=
  ∀ x, x ≠ id → c.vehicle? x = b.vehicle? x

/-- Every Peer Table entry but that of bay `k`. -/
abbrev SamePeersBut (k : Nat) (b c : Blocks) : Prop := ∀ j, j ≠ k → c.peer j = b.peer j

/-- What acceptance fixes in a move record (R44). -/
abbrev Move.terms (m : Move) : Nat × Nat × MoveClass × Option CarrierId × Time × Nat :=
  (m.source, m.dest, m.cls, m.carrierId, m.acceptedAt, m.deadline)

/-- What any well-formed record does to its sender's Peer Table entry: PRESENT, last heard now, and the changed
flag set unless the peer was PRESENT already (R148, R151). -/
abbrev Peer.greeted (now : Time) (p : Peer) : Peer :=
  { p with
    presence := .present
    staleSince := if p.presence = .present then p.staleSince else none
    changed := p.changed || p.presence != .present
    lastHeard := some now }

/-- The state of the move with a tag. -/
abbrev Blocks.moveState (b : Blocks) (tag : Tag) : Option MoveState := (b.move? tag).map Move.state

/-- What a reset leaves of every block but the counters and the Fault Unit: empty tables, clear flags,
no peer known, nothing waiting to be sent (R10, R25, R40, R89, R101, R110, R137, R142, R146, R172). -/
abbrev Blocks.Cleared (b : Blocks) : Prop :=
  (∀ v ∈ b.zc.roster, v = none) ∧ b.zc.inbound = [] ∧ b.si.waitQueue = [] ∧
  (∀ x ∈ b.mm.moves, x = none) ∧ b.mm.seqCounter = 0 ∧ b.mm.consignCounter = 0 ∧
  b.du.calls = [] ∧ b.du.callCounter = 0 ∧ b.du.bids = [] ∧ b.du.ask = none ∧
  b.du.askCounter = 0 ∧ b.du.starve = none ∧ (∀ k, b.peer k = Peer.unknown) ∧
  b.ti.queue = [] ∧ b.ti.line = none ∧ b.ti.mute = false ∧ b.ti.failures = 0 ∧
  (∀ x ∈ b.ti.outcomes, x = true) ∧ b.ti.receive = .good ∧ b.ti.lost = false ∧
  b.ti.holdingUntil = none ∧ b.fu.watch = none ∧ (∀ f, b.flag f = false) ∧ b.sp.token = 0 ∧
  b.sp.snapshot = [] ∧ b.zc.segments = [] ∧ b.zc.census = none ∧
  (∀ x ∈ b.si.stations, x = none) ∧ b.si.linkReset = false ∧ b.ti.muteHeard = 0 ∧ b.spoiled = []

/-- The commands that can reach the Fault Unit's state: those that bring a vehicle's fault, its loss or
its recovery, or a parity error, and the resets (R159 to R163, R167, R170). -/
def mayFault : Instr → Bool
  | .powerOn => true
  | .restart => true
  | .resume => true
  | .recoveryDeadline => true
  | .rollCallAnswer _ => true
  | .pollRound _ => true
  | .report _ _ => true
  | .missedPoll _ => true
  | .entryWatchReport _ => true
  | .inboundLate _ _ => true
  | .ageReview _ => true
  | .vehicleOut _ => true
  | _ => false

/-- The commands that can change the Peer Table: records heard, the aging of peers, the clearing of their
changed flags, and the resets (R146, R148 to R152). -/
def mayChangePeers : Instr → Bool
  | .powerOn => true
  | .restart => true
  | .otherBayRecord _ => true
  | .status _ _ => true
  | .hold _ _ => true
  | .link _ _ _ => true
  | .call _ _ _ _ _ _ => true
  | .bid _ _ _ _ => true
  | .award _ _ _ _ => true
  | .cancel _ _ => true
  | .sent _ _ _ _ => true
  | .retract _ _ _ _ => true
  | .ask _ _ _ => true
  | .loan _ _ _ _ => true
  | .consign _ _ _ _ _ _ _ _ => true
  | .accept _ _ _ _ => true
  | .done _ _ _ _ => true
  | .linkLost => true
  | .peerHoldExpiry _ => true
  | .peerStale _ => true
  | .peerAbsent _ => true
  | .clearSticky _ => true
  | _ => false

/-! ### Invariants -/

/-- A TI record that is a HOLD. -/
def Record.isHold (r : Record) : Bool := isHoldZero r || isHoldQuanta r

/-- No vehicle id stands in two roster entries, in two Inbound entries, or in both (R11). -/
abbrev Blocks.UniqueIds (b : Blocks) : Prop :=
  (b.vehicles.map Vehicle.id ++ b.zc.inbound.map Inbound.vehicle).Nodup

/-- The Transmit Queue holds at most 16 records, in the order of their classes, and at most one
waiting STATUS and one waiting LINK (R136, R137). -/
abbrev TI.Ordered (t : TI) : Prop :=
  t.count ≤ Config.queueSize ∧ t.queue.Pairwise (fun x y => x.cls ≤ y.cls) ∧
  t.queue.countP isStatus ≤ 1 ∧ t.queue.countP isLink ≤ 1

/-- The recovery state agrees with the multiple-fault flags, the First-Fault Record and the recovery
watch (R161 to R163). -/
abbrev FU.Consistent (f : FU) : Prop :=
  (f.recovery = .restricted ↔ f.anyMulti = true) ∧
  (f.watch.isSome = true ↔ f.recovery = .recovering) ∧
  (f.recovery ≠ .normal → f.first.isSome = true)

/-- A reservation stands only on an EMPTY port or a FREE shelf (R25). -/
abbrev Blocks.ReservedOpen (b : Blocks) : Prop :=
  ∀ s ∈ b.stationList, s.reservation.isSome = true → s.open = true

/-- Each station number stands once, as index i holds base + i, and no reservation stands on a closed
station (R25, R32). -/
abbrev Blocks.StationsSound (b : Blocks) : Prop :=
  (b.stationList.map Station.number).Nodup ∧ b.ReservedOpen

/-- The Bid List holds 8 entries at most, for distinct vehicles (R101). -/
abbrev Blocks.BidsDistinct (b : Blocks) : Prop :=
  b.du.bids.length ≤ Config.bidSize ∧ (b.du.bids.map BidEntry.vehicle).Nodup

/-- Every Bid List entry names a roster vehicle that is IDLE or PARKED and bound to no move (R101); what an
entry marked RELEARN holds is not known until it is rebuilt (R18, R168). -/
abbrev Blocks.BidsFree (b : Blocks) : Prop :=
  ∀ x ∈ b.du.bids, ∃ v ∈ b.vehicle? x.vehicle, v.relearn = true ∨ v.free = true

/-- Local binding's law: beside a WAITING move without DEST-HELD there stands no candidate vehicle (R79), but
on the exit spur, from which no path leads to a station (R65, log 38). -/
abbrev State.LawOfBinding (s : State) : Prop :=
  ∀ m ∈ s.b.moveList, m.state = .waiting → m.destHeld = false → m.poisoned = false →
    ∀ v ∈ s.b.candidates, v.segment = s.cl.cfg.loopLen + 1

/-- The command is a REPORT that places a roster vehicle of the exit spur on another segment, where no rail
leads (R3). -/
def State.leavesSpur (s : State) (c : Instr) : Bool :=
  let off (r : Report) : Bool := (s.b.vehicle? r.vehicle).any fun v =>
    v.segment == s.cl.cfg.loopLen + 1 && match r.place with
      | .segment n => n != v.segment
      | _ => false
  match c with
  | .report r _ => off r
  | .entryWatchReport r => off r
  | .rollCallAnswer r => off r
  | _ => false

/-- The entries of the Inbound List and the places held in it are 16 at most (R90, R110). -/
abbrev Blocks.PlacesFit (b : Blocks) : Prop :=
  b.zc.inbound.length + b.places ≤ Config.inboundSize

/-- One HOLD at most waits, none of the content that is on the line, and nothing waits in a node that does
not send (R138, R141). A HOLD of a sending node says a duration of its own (R156). -/
abbrev State.HoldsOnce (s : State) : Prop :=
  s.b.ti.queue.countP Record.isHold ≤ 1 ∧
  ¬ (s.b.ti.queue.any isHoldZero = true ∧ s.b.ti.line.any isHoldZero = true) ∧
  ¬ (s.b.ti.queue.any isHoldQuanta = true ∧ s.b.ti.line.any isHoldQuanta = true) ∧
  (s.cl.node.active = true → 1 ≤ s.cl.cfg.quanta) ∧
  (s.cl.node.active = false → s.b.ti.queue = [] ∧ s.b.ti.line = none)

/-- The records bear tags of this bay with distinct sequence numbers; a node that is not running has none
(R40, R41). -/
abbrev State.MovesSound (s : State) : Prop :=
  s.b.mm.moves.length = Config.moveSize ∧
  (∀ m ∈ s.b.moveList, m.tag.home = s.cl.cfg.bay.val ∧ s.cl.node.running = true) ∧
  (s.b.moveList.map fun m => m.tag.seq).Nodup

/-- Every record's source bears its tag, so no two records share a source (R31, R44). -/
abbrev Blocks.SourcesNamed (b : Blocks) : Prop :=
  ∀ m ∈ b.moveList, (b.station? m.source).bind Station.active = some m.tag

/-- The calls are those of the CALLING and AWARDED records, one each (R89). -/
abbrev Blocks.CallsMatch (b : Blocks) : Prop :=
  b.du.calls.length ≤ Config.callSize ∧ (b.du.calls.map CallEntry.tag).Nodup ∧
  (∀ c ∈ b.du.calls,
    b.moveState c.tag = some .calling ∨ b.moveState c.tag = some .awarded) ∧
  (∀ m ∈ b.moveList, m.state = .calling ∨ m.state = .awarded → ∃ c ∈ b.du.calls, c.tag = m.tag)

/-- The record names the vehicle as the one doing its work (R42). -/
abbrev Move.worksWith (m : Move) (id : Nat) : Prop :=
  m.vehicle = some id ∧
    (m.state = .bound ∨ m.state = .loading ∨ m.state = .carrying ∨ m.state = .suspended)

/-- A binding to a tag of this bay is named on both sides: by the roster entry or the Inbound entry, and
by the record (R42, R96). -/
abbrev State.BindingsAgree (s : State) : Prop :=
  (∀ v ∈ s.b.vehicles, ∀ t ∈ v.bound, t.home = s.cl.cfg.bay.val →
    ∃ m ∈ s.b.move? t, m.worksWith v.id) ∧
  (∀ i ∈ s.b.zc.inbound, i.kind = .emptyForMove → ∃ t ∈ i.tag, t.home = s.cl.cfg.bay.val →
    ∃ m ∈ s.b.move? t, m.vehicle = some i.vehicle ∧ m.state = .bound) ∧
  (∀ v ∈ s.b.vehicles, ∀ a ∈ v.arrival, a.kind = .emptyForMove →
    a.tag = v.bound ∧ v.bound.isSome = true) ∧
  (∀ x ∈ s.b.du.bids, x.tag.home ≠ s.cl.cfg.bay.val) ∧
  (s.cl.node.running = false → s.b.vehicles = [] ∧ s.b.zc.inbound = [] ∧ s.b.du.bids = [])

/-- The records by which a peer says something of a move of bay `own`: a DONE names its vehicle, and a CALL
would ask for a vehicle for it (R57, R102). -/
def namesOwnMove (own : Nat) : Instr → Bool
  | .done _ tag _ _ => tag.home == own
  | .call _ _ tag _ _ _ => tag.home == own
  | _ => false

/-- The changes of node state that an event other than power-on and RESTART may make (R155). -/
def NodeState.mayBecome (a b : NodeState) : Bool :=
  a == b ||
    match a, b with
    | .config, .listen => true
    | .config, .haltedConfig _ => true
    | .listen, .ready => true
    | .listen, .conflict => true
    | .ready, .conflict => true
    | .listen, .haltedDuplicate => true
    | .ready, .haltedDuplicate => true
    | .conflict, .haltedDuplicate => true
    | _, _ => false

/-- The vehicle a POLL names. -/
def ZoneMsg.polled : ZoneMsg → Option Nat
  | .poll v _ => some v
  | _ => none

end Sys2Proof.Machine
end

