-- ==== Sys2Proof/WellFormed.lean ====
section
/-! DEFINITION. Which commands are well-formed: every number fits the field that carries it (R175,
R176). The meanings hold for any command; these are the operands that a connection can bring. -/
namespace Sys2Proof

/-- A number of one byte, of two bytes, a vehicle id (1..254), a station number (0..4095). -/
def isByte (n : Nat) : Bool := decide (n < 256)
def isWord (n : Nat) : Bool := decide (n < 65536)
def isVehicle (n : Nat) : Bool := decide (1 ≤ n ∧ n ≤ 254)
def isStation (n : Nat) : Bool := decide (n < 4096)

/-- A carrier id has eight characters (R175). -/
def carrierWf (c : Option CarrierId) : Bool := c.all fun l => l.length == 8

/-- A move tag that stands in a field: 0xFF is the form of an absent tag (R175). -/
def Tag.wf (t : Tag) : Bool := decide (t.home < 255)

def Target.wf : Target → Bool
  | .station n => isWord n
  | .segment n => isWord n
  | .park n => isWord n
  | _ => true

/-- A job fits its nine bytes, absent fields in the form that marks them (R175). -/
def Job.wf (j : Job) : Bool :=
  j.target.wf && j.tag.all Tag.wf && j.dest.all (fun n => decide (n < 65535)) &&
    j.destBay.all fun n => decide (n < 255)

def Place.wf : Place → Bool
  | .segment n => decide (n < Config.segmentSize)
  | _ => true

def Report.wf (r : Report) : Bool :=
  isVehicle r.vehicle && r.place.wf && carrierWf r.carrierId && r.echo.wf

def DoneOutcome.wf : DoneOutcome → Bool
  | .deliveredPort s => s.all isWord
  | .deliveredShelf s => s.all isWord
  | _ => true

/-- The fields of a trunk body fit their bytes, its counts lie in their ranges (R133, R175). -/
def Body.wf : Body → Bool
  | .status s =>
    decide (s.offline.length ≤ 6 ∧ 1 ≤ s.sectionTime ∧ s.sectionTime ≤ 4095 ∧ 5 ≤ s.period ∧
      s.period ≤ 50 ∧ s.base ≤ s.limit ∧ s.limit ≤ 4095 ∧ s.limit - s.base ≤ 31 ∧ s.idle ≤ 24) &&
      s.offline.all isWord
  | .call _ tag _ source u => isByte tag.home && isWord source && isWord u
  | .bid _ v eta => isByte v && isWord eta
  | .award _ w v => decide (w ≤ 31) && isByte v
  | .cancel _ => true
  | .sent _ v eta => isByte v && isWord eta
  | .retract _ v _ => isByte v
  | .ask _ n => decide (1 ≤ n ∧ n ≤ 4)
  | .loan _ eta vs => isWord eta && decide (vs.length ≤ 4) && vs.all isByte
  | .consign _ v tag dest _ carrier eta =>
    isByte v && isByte tag.home && isWord dest && carrierWf carrier && isWord eta
  | .accept _ v _ => isByte v
  | .done tag v o => isByte tag.home && isByte v && o.wf
  | .hold d => isByte d
  | .link _ n => decide (n ≤ 64)

/-- An entry that a read can reach. -/
def ParityError.wf (p : ParityError) : Bool :=
  match p.table with
  | .move => decide (p.index < Config.moveSize)
  | .roster => decide (p.index < Config.rosterSize)
  | .inbound => decide (p.index < Config.inboundSize)

def Answer.wf : Answer → Bool
  | .atStation n => isWord n
  | _ => true

/-- Well-formed commands. -/
def Instr.wf : Instr → Bool
  | .powerOn => true
  | .configImageRead _ => true
  | .rollCallAnswer r => r.wf
  | .censusSlotEnd => true
  | .listenEnd => true
  | .pollRound l => l.all ParityError.wf
  | .report r l => r.wf && l.all ParityError.wf
  | .missedPoll v => isVehicle v
  | .entryWatchReport r => r.wf
  | .moveReq source dest _ carrier deadline =>
    isWord source && isWord dest && carrierWf carrier && deadline.all isWord
  | .cancelReq tag => tag.wf
  | .portState n _ carrier => isWord n && carrierWf carrier
  | .shelfState n _ => isWord n
  | .stationFrameBad => true
  | .transmitStart => true
  | .arbitrationLost => true
  | .transmitFailure => true
  | .recordSent => true
  | .trunkFragment => true
  | .maxRecordTimeExpiry => true
  | .badRecord => true
  | .malformedRecord => true
  | .duplicateBay => true
  | .otherBayRecord _ => true
  | .status _ st => (Body.status st).wf
  | .hold _ d => (Body.hold d).wf
  | .link _ st n => (Body.link st n).wf
  | .call _ id tag cls source u => (Body.call id tag cls source u).wf
  | .bid _ id v eta => (Body.bid id v eta).wf
  | .award _ id w v => (Body.award id w v).wf
  | .cancel _ id => (Body.cancel id).wf
  | .sent _ id v eta => (Body.sent id v eta).wf
  | .retract _ id v r => (Body.retract id v r).wf
  | .ask _ id n => (Body.ask id n).wf
  | .loan _ id eta vs => (Body.loan id eta vs).wf
  | .consign _ id v tag dest cls carrier eta => (Body.consign id v tag dest cls carrier eta).wf
  | .accept _ id v r => (Body.accept id v r).wf
  | .done _ tag v o => (Body.done tag v o).wf
  | .statusTimer => true
  | .linkLost => true
  | .holdHalfElapsed => true
  | .holdDurationEnd => true
  | .peerHoldExpiry _ => true
  | .peerStale _ => true
  | .peerAbsent _ => true
  | .callWindowEnd _ => true
  | .awardDeadline _ => true
  | .recallTimePassed => true
  | .bidHoldEnd _ _ => true
  | .askDeadline => true
  | .starveExpiry => true
  | .acceptDeadline tag => tag.wf
  | .retryDeadline tag => tag.wf
  | .inboundLate v l => isByte v && l.all ParityError.wf
  | .inboundMissing v => isByte v
  | .idleParkDue v => isVehicle v
  | .recoveryDeadline => true
  | .ageReview l => l.all ParityError.wf
  | .read table index => isByte table && isByte index
  | .readStatus => true
  | .readCounters => true
  | .clearSticky token => isWord token
  | .resolve tag how => isByte tag.home && how.wf
  | .vehicleOut v => isByte v
  | .restoreSegment i => isByte i
  | .restoreShelf i => isByte i
  | .resume => true
  | .restart => true
  | .serviceFrameBad => true

end Sys2Proof
end

