-- ==== Sys2Proof/Certificates/Slice0/Obligations.lean ====
section
/-! DEFINITION. The statements about the BN-612 that are put to the provers. -/
open Sys2Proof Sys2Proof.Machine

/-! ### The step, the queue and the resets -/

/-- One step takes the command at the front of the queue and runs it on the rest. -/
def Obligations.StepRunsFrontCommand : Prop :=
  ∀ (s : State) (c : Instr) (rest : List Instr), s.pending = c :: rest →
    step s = exec c { s with pending := rest }

/-- On an empty queue one millisecond of node time passes and nothing else changes but the quiet
connections (the model's choice, log 2). -/
def Obligations.EmptyQueueLetsTimePass : Prop :=
  ∀ s : State, s.pending = [] →
    step s = .next { s with now := s.now + 1, b := { s.b with out := Out.none } }

/-- Every command completes. It leaves the queue of waiting commands alone, and node time but for
power-on; while no failed bit waits to be read, it leaves the Fault Unit alone unless it can bring a fault;
it leaves the Peer Table alone unless it comes from the trunk, ages a peer or clears a flag. The model's
choices: POWER_ON and RESTART keep the waiting commands (log 54), RESTART keeps node time (log 1), node
time stands still within a command (log 4), and failed bits come with four commands alone (log 13). -/
def Obligations.CommandsKeepToTheirBlocks : Prop :=
  ∀ (c : Instr) (s : State), Answers c s fun t =>
    t.pending = s.pending ∧ (c ≠ .powerOn → t.now = s.now) ∧
    (mayFault c = false → s.b.spoiled = [] → t.b.fu = s.b.fu) ∧ (mayChangePeers c = false → t.b.pd = s.b.pd)

/-- After power-on every block holds its reset state, whatever it held before (R155, R170). That the
waiting commands are kept is the model's choice (log 54), and so are the reset values of a peer's last
heard, stale since and bad count (log 56). -/
def Obligations.PowerOnResets : Prop :=
  ∀ s : State, Answers .powerOn s fun t =>
    t.cl.node = .config ∧ t.b.Cleared ∧ t.b.fu.recovery = .normal ∧ t.b.fu.first = none ∧
    t.b.fu.anyMulti = false ∧ (∀ n ∈ t.b.sp.counters, n = 0) ∧ (∀ n ∈ t.b.zc.discarded, n = 0) ∧
    t.pending = s.pending

/-- RESTART answers OK and leaves every block as power-on leaves it, but for the counters, the First-Fault
Record and the multiple-fault flags; the node comes back RESTRICTED when a flag is set (R170, R174). The
reset values of a peer's last heard, stale since and bad count are the model's choice (log 56). -/
def Obligations.RestartKeepsCountersAndFaults : Prop :=
  ∀ s : State, Answers .restart s fun t =>
    t.b.out.service = some (.result .ok) ∧ t.cl.node = .config ∧ t.b.Cleared ∧
    t.b.sp.counters = s.b.sp.counters ∧ t.b.zc.discarded = s.b.zc.discarded ∧
    t.b.fu.first = s.b.fu.first ∧ t.b.fu.multiVehicle = s.b.fu.multiVehicle ∧
    t.b.fu.multiCarrier = s.b.fu.multiCarrier ∧ t.b.fu.multiMemory = s.b.fu.multiMemory ∧
    t.b.fu.recovery = (if s.b.fu.anyMulti then .restricted else .normal)

/-! ### Start-up -/

/-- A refused image halts the node with the check that failed and touches no block; an accepted one
starts LISTEN, with the tables it shapes, the roll call, the census and a first STATUS (R156, R157). -/
def Obligations.ImageDecidesStart : Prop :=
  ∀ (s : State) (image : Option (List Byte)), s.cl.node = .config →
    (∀ c, readImage image = .error c →
      Answers (.configImageRead image) s fun t =>
        t.cl.node = .haltedConfig c ∧ t.b = { s.b with out := Out.none }) ∧
    (∀ cfg, readImage image = .ok cfg → s.rested → s.b.ti.queue = [] → s.b.ti.line = none →
      Answers (.configImageRead image) s fun t =>
        t.cl.node = .listen ∧ t.cl.cfg = cfg ∧ t.cl.listenEnd = some (after s.now 2000) ∧
        t.b.out.zone = [.rollCall] ∧ t.b.zc.census = some 1 ∧
        t.b.zc.segments = cfg.segments.map segOf ∧
        (∀ i, i < Config.stationSize →
          t.b.si.stations[i]? =
            some ((cfg.stations.find? fun x => x.number == cfg.base + i).map stationOf)) ∧
        (∃ st, t.queued { dest := none, body := .status st } ∧ st.node = .listen ∧
          st.base = cfg.base ∧ st.limit = cfg.limit ∧ st.sectionTime = cfg.sectionTime) ∧
        t.b.zc.roster = s.b.zc.roster ∧ t.b.mm = s.b.mm ∧ t.b.fu = s.b.fu)

/-- An image that passes the four checks keeps every setting in its range and agrees with itself: no
parking on the spurs, parking within capacity, station numbers distinct (R156, R176). -/
def Obligations.AcceptedImageIsSound : Prop :=
  ∀ (image : Option (List Byte)) (c : Cfg), readImage image = .ok c →
    c.bay.val < c.nBays ∧ 2 ≤ c.nBays ∧ c.nBays ≤ 32 ∧ 4 ≤ c.loopLen ∧ c.loopLen ≤ 38 ∧
    c.base ≤ c.limit ∧ c.limit ≤ 4095 ∧ c.limit - c.base ≤ 31 ∧
    c.segments.length = c.loopLen + 2 ∧ (c.segments.map SegCfg.capacity).sum ≤ 24 ∧
    (∀ g ∈ c.segments, 8 ≤ g.t ∧ g.t ≤ 32760 ∧ 1 ≤ g.capacity ∧ g.capacity ≤ 6 ∧
      g.parking ≤ g.capacity) ∧
    (c.stations.map StationCfg.number).Nodup ∧
    (∀ x ∈ c.stations, c.base ≤ x.number ∧ x.number ≤ c.limit ∧ 1 ≤ x.segment ∧
      x.segment ≤ c.loopLen) ∧
    c.stations.length ≤ 32 ∧ (∀ g ∈ c.segments, g.parking ≤ 4) ∧
    (c.segments[0]?).map SegCfg.parking = some 0 ∧
    (c.segments[c.loopLen + 1]?).map SegCfg.parking = some 0 ∧
    (∀ x ∈ [(c.sectionTime, 1, 4095), (c.xDefault, 1, 4095), (c.deadlineHot, 10, 4095),
      (c.deadlineExpress, 10, 4095), (c.deadlineNormal, 10, 4095), (c.deadlineReturn, 10, 4095),
      (c.wCall, 200, 2000), (c.wSend, 500, 10000), (c.wRecall, 1, 30), (c.wAccept, 5, 100),
      (c.wRetry, 1, 30), (c.wAsk, 5, 100), (c.tStarve, 2, 120), (c.fMin, 0, 4), (c.kKeep, 0, 4),
      (c.slackIn, 10, 300), (c.tRec, 10, 600), (c.tIdlePark, 5, 300), (c.hThr, 0, 6),
      (c.quanta, 10, 255), (c.q, 0, 15), (c.parkPenalty, 0, 255), (c.rLoaded, 0, 4),
      (c.pPoll, 100, 1000), (c.pStatus, 500, 5000), (c.tSilent, 1, 10), (c.tAbsent, 5, 60)],
      x.2.1 ≤ x.1 ∧ x.1 ≤ x.2.2)

/-- LISTEN ends after its 2000 ms, in CONFLICT when a lower bay's window overlaps the own window and in
READY otherwise, with LINK-RESET; a command that comes before the time changes nothing (R27, R158; what
an early command does is the model's choice, log 3). -/
def Obligations.ListenEndsInReadyOrConflict : Prop :=
  ∀ (s : State) (te : Time), s.cl.node = .listen → s.cl.listenEnd = some te →
    (passed s.now te 0 = true → s.rested → Answers .listenEnd s fun t =>
      ((∃ k lo hi, k < s.cl.cfg.bay.val ∧ (s.b.peer k).window = some (lo, hi) ∧
          lo ≤ s.cl.cfg.limit ∧ s.cl.cfg.base ≤ hi) → t.cl.node = .conflict) ∧
      (¬ (∃ k lo hi, k < s.cl.cfg.bay.val ∧ (s.b.peer k).window = some (lo, hi) ∧
          lo ≤ s.cl.cfg.limit ∧ s.cl.cfg.base ≤ hi) → t.cl.node = .ready) ∧
      t.b.si.linkReset = true ∧ t.b.out.station = [.linkReset] ∧ t.b.zc.census = none ∧
      t.cl.cfg = s.cl.cfg ∧ t.b.zc.inbound = s.b.zc.inbound) ∧
    (passed s.now te 0 = false →
      Answers .listenEnd s fun t => t = { s with b := { s.b with out := Out.none } })

/-- The census gives vehicle ids 1 to 254 one slot each. An empty vehicle in good order that answers in
its own slot is entered IDLE on the segment it reports, with no job sent (R20, R21). -/
def Obligations.RollCallTakesAnswersInSlots : Prop :=
  ∀ (s : State) (v : Nat), s.cl.node = .listen → s.b.zc.census = some v →
    (Answers .censusSlotEnd s fun t =>
      t = { s with b := { s.b with
        out := Out.none
        zc := { s.b.zc with census := if v < 254 then some (v + 1) else none } } }) ∧
    (∀ (r : Report) (n : Nat), s.rested → r.vehicle = v → s.b.onRoster v = false →
      0 < s.b.freeSlots → s.b.inbound? v = none → (∀ m ∈ s.b.mm.moves, m = none) →
      r.place = .segment n → n ≤ s.cl.cfg.loopLen + 1 → r.level ≠ .major →
      (r.hoist = .idle ∨ r.hoist = .done) → r.carrier = false →
      Answers (.rollCallAnswer r) s fun t =>
        (∃ x, t.b.vehicle? v = some x ∧ x.state = .idle ∧ x.segment = n ∧ x.bound = none ∧
          x.job = none ∧ x.idleSince = s.now ∧ x.lastReport = s.now ∧ x.missed = 0) ∧
        SameVehiclesBut v s.b t.b ∧ t.b.zc.inbound = s.b.zc.inbound ∧ t.b.out.zone = [] ∧
        t.b.zc.census = some v ∧ t.b.si = s.b.si)

/-! ### The zone line -/

/-- A poll round polls every vehicle on the roster once, in roster-index order. It moves no vehicle, and
a segment into which it gives a grant never holds more vehicles and grants than its working capacity
(R5, R6). That the whole round is one step, which grants without a REPORT between two polls, is the model's
choice (log 9). A roster entry whose body the round finds spoiled is counted, sets the MEMORY flag and is
marked RELEARN, without binding, grant and clearance, and it is polled with the rest (R18, R168); that the bit
fails just as the round comes to read it is what log 13 has the command say. -/
def Obligations.PollRoundPollsRosterAndGrantsRoom : Prop :=
  ∀ s : State, s.cl.node.running = true → s.WellSized → s.b.UniqueIds →
    (Answers (.pollRound []) s fun t =>
      t.b.out.zone.filterMap ZoneMsg.polled = s.b.vehicles.map Vehicle.id ∧
      (∀ n, t.b.occupancy n = s.b.occupancy n ∧
        (t.b.grantedIn n = s.b.grantedIn n ∨
          t.b.occupancy n + t.b.grantedIn n ≤ t.b.working n)) ∧
      t.b.zc.inbound = s.b.zc.inbound ∧ t.b.zc.segments = s.b.zc.segments ∧ t.b.fu = s.b.fu) ∧
    (∀ (i : Nat) (v : Vehicle), s.b.zc.roster[i]? = some (some v) →
      Answers (.pollRound [⟨.roster, i, false⟩]) s fun t =>
        (∃ x, t.b.vehicle? v.id = some x ∧ x.relearn = true ∧ x.bound = none ∧ x.grant = none ∧
          x.clearance = false) ∧
        t.b.flag .memory = true ∧ Raised .parity s t ∧
        t.b.out.zone.filterMap ZoneMsg.polled = s.b.vehicles.map Vehicle.id ∧
        t.b.zc.inbound = s.b.zc.inbound ∧ t.b.zc.segments = s.b.zc.segments ∧ t.b.fu = s.b.fu)

/-- An ordinary REPORT of an IDLE vehicle without a job: the entry takes its fields and its place, a new
place ends its grant, and a place it held no grant for sets the VEHICLE flag (R5, R7). The REPORT of an
empty moving vehicle in good order, whose entry is marked RELEARN and which no record names, rebuilds the
entry: IDLE on the reported segment, the mark cleared (R18). That it is so for an entry that was SILENT too (log
58), and for a vehicle that a CONSIGNED record alone names (log 89), is the model's reading. A vehicle so marked
that reports fault level MAJOR with its hoist idle is rebuilt FAULTED: a CARRYING move that names it and whose
carrier it has is SUSPENDED with HELD, and a BOUND move that names it, empty, is BOUND to it no longer, with CLEAN
(R18, R53, R160); that the end-method is chosen by the phase the vehicle would
have had is the model's choice (log 103). -/
def Obligations.IdleVehicleReportMovesEntry : Prop :=
  ∀ (s : State) (r : Report) (v : Vehicle) (n : Nat), s.cl.node.running = true → s.rested →
    s.b.vehicle? r.vehicle = some v → v.bound = none → r.place = .segment n →
    n ≤ s.cl.cfg.loopLen + 1 → r.motion = .moving → r.hoist = .idle →
    s.b.fu.watch.bind Watch.vehicle ≠ some v.id →
    (∀ m, v.relearn = true → r.level = .major → s.b.recordOf v.id = some m →
      s.b.move? m.tag = some m → m.tag.home = s.cl.cfg.bay.val → m.poisoned = false →
      ((m.state = .carrying ∧ r.carrier = true) ∨ (m.state = .bound ∧ r.carrier = false)) →
      Answers (.report r []) s fun t =>
        (∃ x, t.b.vehicle? r.vehicle = some x ∧ x.relearn = false ∧ x.state = .faulted ∧
          x.segment = n ∧ x.clearance = false ∧ x.level = .major ∧
          x.bound = (if m.state = .carrying then some m.tag else none)) ∧
        (∃ y, t.b.move? m.tag = some y ∧ y.terms = m.terms ∧
          (m.state = .carrying → y.state = .suspended ∧ y.endMethod = some .held ∧ y.wait = none) ∧
          (m.state = .bound → y.endMethod = some .clean ∧ y.vehicle ≠ some v.id)) ∧
        t.b.flag .vehicle = true) ∧
    (r.carrier = false → r.level = .none → v.relearn = true → s.b.recordOf v.id = none →
      s.b.candidateMoves = [] →
      Answers (.report r []) s fun t =>
        ∃ x, t.b.vehicle? r.vehicle = some x ∧ x.relearn = false ∧ x.state = .idle ∧
          x.segment = n ∧ x.bound = none ∧ x.carrier = false ∧ x.hoist = .idle ∧ x.missed = 0 ∧
          x.lastReport = s.now ∧ x.idleSince = s.now ∧ x.clearance = false ∧
          x.reserved = s.b.bidNames v.id) ∧
    (r.carrier = false → r.level = .none → v.relearn = false → v.state = .idle → v.job = none →
      r.atMarker = false →
    Answers (.report r []) s fun t =>
      t.b.vehicle? r.vehicle = some { v with
        segment := n
        motion := .moving
        carrier := false
        carrierId := r.carrierId
        hoist := .idle
        level := .none
        missed := 0
        lastReport := s.now
        grant := if n = v.segment then v.grant else none
        blocked := none } ∧
      t.b.flag .vehicle =
        (s.b.flag .vehicle || decide (n ≠ v.segment ∧ v.grant ≠ some n)) ∧
      SameVehiclesBut r.vehicle s.b t.b ∧ t.b.zc.inbound = s.b.zc.inbound ∧
      t.b.zc.segments = s.b.zc.segments ∧ t.b.mm = s.b.mm ∧ t.b.si = s.b.si ∧ t.b.fu = s.b.fu)

/-- The REPORT of LOWERING at the source makes vehicle and move LOADING; a cancellation that is taken next
is refused with TOO-LATE (R13, R49, R58, R59). When the load completes, with the hoist DONE and a carrier
present, the move is CARRYING and its vehicle LOADED with the UNLOAD job for a station of this bay, unless
the delivery is decided at once, or TO-EXIT without clearance while a CONSIGN waits to go to the owner of a
station of another bay; a carrier other than the expected one is, under HOLD-MISMATCH, held with its vehicle
LOADING and its move SUSPENDED, and is counted (R13, R30, R50, R51, R120). That a vehicle which already holds a
grant into the segment of its destination makes no delivery decision is the model's choice (log 88). -/
def Obligations.LoweringStartsLoad : Prop :=
  ∀ (s : State) (r : Report) (v : Vehicle) (m : Move) (tag : Tag), s.cl.node.running = true →
    s.WellSized → s.b.vehicle? r.vehicle = some v → v.relearn = false → v.bound = some tag →
    tag.home = s.cl.cfg.bay.val → s.b.move? tag = some m → v.job = some (loadJob m.source tag) →
    r.echo = loadJob m.source tag → r.place = .segment v.segment →
    v.segment ≤ s.cl.cfg.loopLen + 1 → r.level = .none → r.atMarker = false →
    r.motion = .stopped → s.b.fu.watch.bind Watch.vehicle ≠ some v.id →
    (v.state = .loading → m.state = .loading → r.hoist = .done → r.carrier = true →
      (mismatch m.carrierId r.carrierId = false → s.cl.node.active = true →
        s.b.ownsStation s.env m.dest = true → Answers (.report r []) s fun t =>
          (∃ y, t.b.move? tag = some y ∧ y.state = .carrying ∧ y.lastHoist = .done ∧
            y.carrierId = (m.carrierId <|> r.carrierId) ∧ y.dest = m.dest) ∧
          (∃ x, t.b.vehicle? r.vehicle = some x ∧ x.bound = some tag ∧
            (x.state = .loaded ∨ x.state = .loadedWait) ∧
            ((s.b.station? m.dest).map Station.segment ≠ some v.segment →
              x.state = .loaded ∧ x.job = some (unloadJob m.dest (some tag) m.dest))) ∧
          (∀ z, s.b.station? m.source = some z → z.kind = .port → z.state = .occupied →
            (t.b.station? m.source).map Station.state = some .empty) ∧ t.b.fu = s.b.fu) ∧
      (∀ k, mismatch m.carrierId r.carrierId = false → s.cl.node.active = true → s.roomFor 1 →
        s.b.owner s.env m.dest = some k → k ≠ s.cl.cfg.bay.val → m.vehicle = some v.id →
        (s.b.peer k).presence ≠ .absent → s.b.consignQueued tag = false →
        Answers (.report r []) s fun t =>
          ∃ id, t.b.move? tag = some { m with
              state := .carrying
              lastHoist := .done
              carrierId := m.carrierId <|> r.carrierId
              consignId := some id
              wait := some { retry := false, deadline := after s.now (s.cl.cfg.wAccept * 100) }
              cleared := false } ∧
            (∃ x eta, t.b.vehicle? r.vehicle = some x ∧ x.bound = some tag ∧ x.state = .toExit ∧
              x.clearance = false ∧ x.job = some (exitJob (some tag) (some m.dest) k) ∧
              t.queued ⟨some k,
                .consign id v.id tag m.dest m.cls (m.carrierId <|> r.carrierId) eta⟩) ∧
            Raised .consignSent s t) ∧
      (mismatch m.carrierId r.carrierId = true → s.cl.cfg.checkMode = .holdMismatch →
        Answers (.report r []) s fun t =>
          (∃ y, t.b.move? tag = some y ∧ y.state = .suspended ∧ y.endMethod = some .held ∧
            y.checkHold = true ∧ y.terms = m.terms) ∧
          (∃ x, t.b.vehicle? r.vehicle = some x ∧ x.state = .loading ∧ x.bound = some tag) ∧
          t.b.flag .carrier = true ∧ Raised .mismatch s t ∧ t.b.fu = s.b.fu)) ∧
    (v.state = .toSource → m.state = .bound → r.hoist = .lowering →
    Answers (.report r []) s fun t =>
      (∃ x, t.b.vehicle? r.vehicle = some x ∧ x.state = .loading ∧ x.bound = some tag) ∧
      (∃ y, t.b.move? tag = some y ∧ y.state = .loading ∧ y.lastHoist = .lowering ∧
        y.terms = m.terms) ∧
      SameVehiclesBut r.vehicle s.b t.b ∧ t.b.si = s.b.si ∧ SameBooks s.b t.b ∧
      (Answers (.cancelReq tag) t fun u =>
        u.b.out.station = [.refused .tooLate (some tag)] ∧ u.b.mm = t.b.mm))

/-- A POLL without an answer raises the missed-poll count; the third makes the vehicle SILENT, whatever
its state, and leaves the rest of what was last reported as it was (R9). The first REPORT of a SILENT
vehicle makes it FAULTED at fault level MAJOR, with its hoist at work and with a carrier, and otherwise
IDLE; an entry marked RELEARN is not meant here (R17). That its exit clearance is withdrawn then is the model's
choice (log 81). -/
def Obligations.ThirdMissedPollSilences : Prop :=
  ∀ (s : State) (id : Nat) (v : Vehicle), s.cl.node.running = true → s.rested →
    s.b.vehicle? id = some v →
    (v.missed < 2 → Answers (.missedPoll id) s fun t =>
      t.b.vehicle? id = some { v with missed := v.missed + 1 } ∧ SameVehiclesBut id s.b t.b ∧
      t.b.zc.inbound = s.b.zc.inbound ∧ t.b.mm = s.b.mm ∧ t.b.si = s.b.si ∧ t.b.fu = s.b.fu) ∧
    (v.missed = 2 → Answers (.missedPoll id) s fun t =>
      ∃ x, t.b.vehicle? id = some x ∧ x.missed = 3 ∧ x.state = .silent ∧ x.segment = v.segment ∧
        x.motion = v.motion ∧ x.carrier = v.carrier ∧ x.carrierId = v.carrierId ∧
        x.hoist = v.hoist ∧ x.level = v.level ∧ x.lastReport = v.lastReport ∧ x.job = v.job) ∧
    (∀ (r : Report) (n : Nat), r.vehicle = id → v.state = .silent → v.relearn = false →
      v.bound = none → r.place = .segment n → n ≤ s.cl.cfg.loopLen + 1 →
      s.b.candidateMoves = [] →
      Answers (.report r []) s fun t =>
        ∃ x, t.b.vehicle? id = some x ∧ x.segment = n ∧ x.missed = 0 ∧ x.lastReport = s.now ∧
          x.carrier = r.carrier ∧ x.carrierId = r.carrierId ∧ x.level = r.level ∧
          x.clearance = false ∧ x.bound = none ∧
          ((r.level = .major ∨ (r.hoist ≠ .idle ∧ r.hoist ≠ .done)) →
            x.state = .faulted ∧ t.b.flag .vehicle = true) ∧
          (r.level ≠ .major → (r.hoist = .idle ∨ r.hoist = .done) →
            x.state = (if r.carrier then .faulted else .idle)))

/-- An empty vehicle with a LOAN entry at the divert marker is admitted while the roster and segment 0
have room, and is otherwise sent round with its entry moved on by one loop time (R113 to R115). That the
job of a refused vehicle keeps the tag and the destination of its echo is the model's reading (log 11); that a
vehicle which reports fault level MAJOR there is admitted all the same, ENTERING, is its choice (log 73). -/
def Obligations.LoanVehicleAdmittedOrRefused : Prop :=
  ∀ (s : State) (r : Report) (i : Inbound), (s.cl.node = .ready ∨ s.cl.node = .conflict) →
    s.WellSized → s.b.onRoster r.vehicle = false → r.place = .divert →
    s.b.inbound? r.vehicle = some i → i.kind = .loan → r.carrier = false →
    (1 + s.cl.cfg.rLoaded ≤ s.b.freeSlots → s.b.occupancy 0 < s.b.working 0 →
      Answers (.entryWatchReport r) s fun t =>
        (∃ x, t.b.vehicle? r.vehicle = some x ∧ x.state = .entering ∧ x.segment = 0 ∧
          x.bound = none ∧ x.arrival = some i.details ∧ x.unexpected = false ∧
          x.capture = some { marker := .divert, time := s.now, stopped := false }) ∧
        t.b.inbound? r.vehicle = none ∧
        t.b.out.zone = [.goto r.vehicle (enterJob none none)] ∧ Raised .admissions s t ∧
        SameVehiclesBut r.vehicle s.b t.b ∧ t.b.si = s.b.si) ∧
    (¬ (1 + s.cl.cfg.rLoaded ≤ s.b.freeSlots ∧ s.b.occupancy 0 < s.b.working 0) →
      Answers (.entryWatchReport r) s fun t =>
        t.b.zc.roster = s.b.zc.roster ∧ Raised .recirculations s t ∧
        t.b.out.zone = [.goto r.vehicle
          (recirculateJob r.echo.tag r.echo.dest (some s.cl.cfg.bay.val))] ∧
        t.b.inbound? r.vehicle = some { i with
          recirc := min (i.recirc + 1) 7
          expected := after i.expected (s.b.loopTime s.env * 100)
          late := false } ∧
        t.b.si = s.b.si ∧ t.b.mm = s.b.mm)

/-! ### Arithmetic -/

/-- The segment cost is T / 8 rounded up, 1 to 4095 ds; a measurement is converted and clamped, and moves T
by an eighth of the difference, rounded toward the old value, so that T stays between the two and within
8 to 32760; urgency is K + M x A, plus 4096 when overdue, stopped at 65535 (R23, R64, R73). -/
def Obligations.CostLearningAndUrgency : Prop :=
  (∀ t, 8 ≤ t → t ≤ 32760 →
    t ≤ 8 * segCost t ∧ 8 * segCost t < t + 8 ∧ 1 ≤ segCost t ∧ segCost t ≤ 4095) ∧
  (∀ t ms c, 8 ≤ t → t ≤ 32760 →
    c = max (max 8 (t / 4)) (min (ms * 2 / 25) (min (4 * t) 32760)) →
    (learn t ms).1 = (if t ≤ c then t + (c - t) / 8 else t - (t - c) / 8) ∧
    min t c ≤ (learn t ms).1 ∧ (learn t ms).1 ≤ max t c ∧
    8 ≤ (learn t ms).1 ∧ (learn t ms).1 ≤ 32760 ∧
    ((learn t ms).2 = true ↔ min (4 * t) 32760 < ms * 2 / 25)) ∧
  (∀ (now : Time) (m : Move),
    m.urgency now = min 65535
      ((match m.cls with
        | .hot => 16384 + 16 * m.age now
        | .express => 4096 + 8 * m.age now
        | .normal => 4 * m.age now
        | .ret => m.age now) + if m.deadline ≤ m.age now then 4096 else 0))

/-- The binding pass ends when no candidate move or no candidate vehicle is left (R77, R78). A vehicle on the
exit spur has no path to a station, and R65 says that no block asks for one: that such a vehicle takes no part
in the pass and may stay over is log 38's reading. Every command keeps local binding's law: a WAITING move
without DEST-HELD never stands beside a vehicle that is IDLE or PARKED, unbound, unreserved and not marked
RELEARN (R79), the exit spur apart, and apart from a REPORT that places a vehicle of the exit spur on a segment
to which no rail leads from there. -/
def Obligations.BindingPassLeavesNoPair : Prop :=
  (∀ (e : Env) (b : Blocks), b.zc.roster.length = Config.rosterSize →
    (Blocks.bindPairs e Config.rosterSize b).candidateMoves = [] ∨
    ∀ v ∈ (Blocks.bindPairs e Config.rosterSize b).candidates, v.segment = e.cfg.loopLen + 1) ∧
  (∀ (s t : State) (c : Instr), exec c s = .next t → s.Sized → s.MovesSound → s.b.UniqueIds →
    s.leavesSpur c = false → s.LawOfBinding → t.LawOfBinding)

/-! ### The station link -/

/-- A MOVE-REQ is refused with the code of the first check that fails, the refusal is sent at once and
counted, and no record changes (R43). -/
def Obligations.MoveReqRefusedInOrder : Prop :=
  ∀ (s : State) (source dest : Nat) (cls : MoveClass) (carrier : Option CarrierId)
    (deadline : Option Nat) (code : RefusalCode), s.cl.node.running = true → s.WellSized →
    ((s.cl.node ≠ .ready ∧ code = .notReady) ∨
      (s.cl.node = .ready ∧ s.b.station? source = none ∧ code = .unknownSource) ∨
      (∃ x, s.cl.node = .ready ∧ s.b.station? source = some x ∧
        ((¬ (x.state = .occupied ∨ x.state = .holding) ∧ code = .sourceEmpty) ∨
          ((x.state = .occupied ∨ x.state = .holding) ∧
            ((x.active.isSome = true ∧ code = .duplicate) ∨
              (x.active = none ∧
                (((¬ s.routed dest ∨ dest = source) ∧ code = .noRoute) ∨
                  (s.routed dest ∧ dest ≠ source ∧
                    (∀ m ∈ s.b.mm.moves, m ≠ none) ∧ code = .tableFull)))))))) →
    Answers (.moveReq source dest cls carrier deadline) s fun t =>
      t.b.out.station = [.refused code none] ∧ Raised (.refusal code) s t ∧ SameBay s.b t.b ∧
      SameBooks s.b t.b

/-- A MOVE-REQ that passes every check is acknowledged with a tag that no record held; its record, in
the table, carries the request's terms, and its source takes the tag. Every other record keeps its
terms (R41, R44). -/
def Obligations.MoveReqAccepted : Prop :=
  ∀ (s : State) (source dest : Nat) (cls : MoveClass) (carrier : Option CarrierId)
    (deadline : Option Nat) (x : Station), s.cl.node = .ready → s.WellSized →
    s.b.station? source = some x → (x.state = .occupied ∨ x.state = .holding) → x.active = none →
    s.routed dest → dest ≠ source → none ∈ s.b.mm.moves →
    Answers (.moveReq source dest cls carrier deadline) s fun t =>
      ∃ (tag : Tag) (m : Move), t.b.out.station = [.accepted tag] ∧
        tag.home = s.cl.cfg.bay.val ∧ (∀ y ∈ s.b.moveList, y.tag.seq ≠ tag.seq) ∧
        t.b.mm.seqCounter = tag.seq + 1 ∧ t.b.move? tag = some m ∧ m.source = source ∧
        m.dest = dest ∧ m.cls = cls ∧ m.acceptedAt = s.now ∧
        m.carrierId = (carrier <|> x.carrierId) ∧
        m.deadline = (match deadline with
          | some d => max 10 (min d 4095)
          | none => classDeadline s.cl.cfg cls) ∧
        m.retry = 0 ∧ m.shelfSourced = decide (x.kind = .shelf) ∧
        (t.b.station? source).bind Station.active = some tag ∧
        (∀ other, other ≠ tag → (t.b.move? other).map Move.terms = (s.b.move? other).map Move.terms) ∧
        Raised (.accepted cls) s t ∧ t.b.zc.inbound = s.b.zc.inbound

/-- A CANCEL-REQ frees a move that has not begun to load, with MOVE-DONE (CANCELLED) and the end of its
call; it is refused with TOO-LATE for a move that has, and with UNKNOWN-TAG for a tag no record holds
(R56, R58). While no follow-on is due, freeing makes no new move. -/
def Obligations.CancelFreesOrRefuses : Prop :=
  ∀ (s : State) (tag : Tag), s.cl.node.running = true → s.WellSized →
    (tag.home ≠ s.cl.cfg.bay.val ∨ s.b.move? tag = none → Answers (.cancelReq tag) s fun t =>
      t.b.out.station = [.refused .unknownTag (some tag)] ∧ SameBay s.b t.b ∧
      Raised (.refusal .unknownTag) s t) ∧
    (∀ m, tag.home = s.cl.cfg.bay.val → s.b.move? tag = some m →
      ((m.state = .loading ∨ m.state = .carrying ∨ m.state = .consigned ∨ m.state = .suspended ∨
          m.state = .stranded) →
        Answers (.cancelReq tag) s fun t =>
          t.b.out.station = [.refused .tooLate (some tag)] ∧ SameBay s.b t.b ∧
          Raised (.refusal .tooLate) s t) ∧
      ((m.state = .waiting ∨ m.state = .calling ∨ m.state = .awarded ∨ m.state = .bound) →
        (∀ x ∈ s.b.stationList, x.followOnDue = false) →
        Answers (.cancelReq tag) s fun t =>
          t.b.out.station = [.moveDone tag .cancelled] ∧ t.b.move? tag = none ∧
          (∀ c ∈ t.b.du.calls, c.tag ≠ tag) ∧ (∀ x ∈ t.b.stationList, x.active ≠ some tag) ∧
          Raised .cancelled s t ∧
          ∀ other, other ≠ tag →
            (t.b.move? other).map Move.terms = (s.b.move? other).map Move.terms))

/-- A PORT-STATE that is no repetition sets the port's state and carrier id; before LINK-RESET, and for
a shelf or an unknown station, it changes nothing (R26, R28). A report that takes a reserved port out of
EMPTY drops the reservation, and the vehicle that stands on the port's segment for that delivery, or is granted
entry to it, is decided at once, whatever entries marked RELEARN the roster holds: it is sent, LOADED, to the
FREE, unreserved shelf without active-source tag of least E, which is reserved for it, or becomes LOADED-WAIT at
the tail of the wait queue when no shelf qualifies (R33 to R36). -/
def Obligations.PortStateTaken : Prop :=
  ∀ (s : State) (n : Nat) (st : PortReport) (carrier : Option CarrierId),
    s.cl.node.running = true → s.rested →
    ((s.b.si.linkReset = false ∨ s.b.station? n = none ∨
        (∃ x, s.b.station? n = some x ∧ x.kind = .shelf)) →
      Answers (.portState n st carrier) s fun t => SameBay s.b t.b ∧ SameBooks s.b t.b) ∧
    (∀ x, s.b.si.linkReset = true → s.b.station? n = some x → x.kind = .port →
      Answers (.portState n st carrier) s fun t =>
        ∃ y, t.b.station? n = some y ∧ y.kind = .port ∧
          y.state = (match st with
            | .empty => .empty
            | .occupied => .occupied
            | .offline => .offline) ∧
          y.carrierId = (match st with
            | .occupied => carrier
            | _ => none) ∧
          t.b.zc.segments = s.b.zc.segments ∧ t.b.fu = s.b.fu) ∧
    (∀ (x : Station) (tag : Tag) (v : Vehicle) (j : Job), s.b.si.linkReset = true →
      s.cl.node ≠ .haltedDuplicate → s.b.StationsSound → s.b.station? n = some x → x.kind = .port →
      x.state = .empty → x.reservation = some tag → st ≠ .empty →
      s.b.vehicles.filter (fun w => w.state == .loaded && !w.relearn && w.aim .unload == some n &&
        (w.job.any fun j => j.tag == some tag) &&
        (w.segment == x.segment || w.grant == some x.segment)) = [v] →
      s.b.vehicle? v.id = some v → v.job = some j →
      Answers (.portState n st carrier) s fun t =>
        (t.b.station? n).bind Station.reservation = none ∧
        (∀ q, s.b.chooseShelf s.env v = some q →
          (∃ z ∈ s.b.stationList, z.number = q ∧ z.state = .free ∧ z.reservation = none ∧
            z.active = none ∧ ∀ w ∈ s.b.stationList, w.state = .free → w.reservation = none →
              w.active = none → (s.b.estimateOf s.env v (.seg z.segment)).getD 65535 ≤
                (s.b.estimateOf s.env v (.seg w.segment)).getD 65535) ∧
          (∃ y, t.b.vehicle? v.id = some y ∧ y.state = .loaded ∧
            y.job = some { j with target := .station q, action := .unload }) ∧
          (t.b.station? q).bind Station.reservation = some tag) ∧
        (s.b.chooseShelf s.env v = none →
          (∃ y, t.b.vehicle? v.id = some y ∧ y.state = .loadedWait ∧
            y.job = some { j with target := .segment x.segment, action := .pass }) ∧
          t.b.si.waitQueue.getLast? = some v.id))

/-- A SHELF-STATE of DISABLED disables a FREE shelf that nobody unloads onto and a HOLDING shelf; a
SHELF-STATE of FREE makes a DISABLED shelf FREE with its held fields cleared (R29). That a vehicle whose entry is
marked RELEARN counts as unloading onto none is the model's choice (log 96). -/
def Obligations.ShelfStateTaken : Prop :=
  ∀ (s : State) (n : Nat) (x : Station), s.cl.node.running = true → s.rested →
    s.b.si.linkReset = true → s.b.station? n = some x → x.kind = .shelf →
    (((x.state = .free ∧ s.b.unloadingAt n = false) ∨ x.state = .holding) →
      Answers (.shelfState n true) s fun t =>
        ∃ y, t.b.station? n = some y ∧ y.state = .disabled ∧ y.reservation = none ∧
          (x.state = .holding → y.carrierId = x.carrierId ∧ y.finalDest = x.finalDest ∧
            y.followOnDue = false)) ∧
    (x.state = .disabled → Answers (.shelfState n false) s fun t =>
      ∃ y, t.b.station? n = some y ∧ y.state = .free ∧ y.carrierId = none ∧ y.finalDest = none ∧
        y.followOnDue = false ∧ y.hoistFailures = 0)

/-! ### Commands that only read, and frames that are discarded -/

/-- READ returns the entry of its table and refuses an index outside it; READ-COUNTERS returns every
counter; a station link or service frame that fails its check is discarded. None of them changes
anything else (R26, R171). The model's choices: a call or a bid is indexed by its place in the order in
which the entries were made (log 8), and a READ meets a parity error only where a failed bit waits to be
read (log 13). -/
def Obligations.ReadsAndBadFramesChangeNothing : Prop :=
  ∀ s : State,
    (s.b.spoiled = [] → ∀ table index, Answers (.read table index) s fun t =>
      (∃ out, t = { s with b := { s.b with out := { Out.none with service := some out } } } ∧
        (table = 0 → index < 64 → out = .entry (.move (s.b.mm.moves[index]?).join)) ∧
        (table = 1 → index < 24 → out = .entry (.roster (s.b.zc.roster[index]?).join)) ∧
        (table = 2 → index < 16 → out = .entry (.inbound s.b.zc.inbound[index]?)) ∧
        (table = 3 → s.cl.node.running = true → index ≤ s.cl.cfg.loopLen + 1 →
          out = .entry (.segment (s.b.segView index))) ∧
        (table = 4 → index < 32 → out = .entry (.station (s.b.si.stations[index]?).join)) ∧
        (table = 5 → index < 32 → index ≠ s.cl.cfg.bay.val → out = .entry (.peer (s.b.peer index))) ∧
        (table = 6 → index < 8 → out = .entry (.call s.b.du.calls[index]?)) ∧
        (table = 7 → index < 8 → out = .entry (.bid s.b.du.bids[index]?)) ∧
        (∀ size, (table, size) ∈ [(0, 64), (1, 24), (2, 16), (4, 32), (5, 32), (6, 8), (7, 8)] →
          size ≤ index → out = .result .badIndex) ∧
        (table = 3 → s.cl.node.running = true → s.cl.cfg.loopLen + 1 < index →
          out = .result .badIndex) ∧
        (8 ≤ table → out = .result .badIndex))) ∧
    (Answers .readCounters s fun t =>
      t = { s with b := { s.b with
        out := { Out.none with service := some (.counters s.b.sp.counters) } } }) ∧
    (Answers .stationFrameBad s fun t => t = { s with b := { s.b with out := Out.none } }) ∧
    (Answers .serviceFrameBad s fun t => t = { s with b := { s.b with out := Out.none } })

/-! ### The trunk line -/

/-- Of the nodes that start together, those with the smallest arbitration field go on sending; the field
is smaller for a lower class, and within a class for a lower bay (R129). -/
def Obligations.ArbitrationLeavesSmallest : Prop :=
  (∀ fs : List Byte,
    arbitrate 8 fs = fs.filter fun f => fs.all fun g => decide (f.toNat ≤ g.toNat)) ∧
  (∀ c c' b b', c ≤ 5 → c' ≤ 5 → b < 32 → b' < 32 →
    ((arbitrationField c b).toNat < (arbitrationField c' b').toNat ↔
      c < c' ∨ (c = c' ∧ b < b')))

/-- Sending: the head record goes on the line; lost arbitration brings it back uncounted; a transmit
failure brings it back and is counted, the sixteenth in a row setting MUTE; a record sent to its last bit
leaves, clears the count, and as a HOLD starts or ends the node's own holding (R129, R130, R136, R141,
R144). A STATUS or LINK that comes back while a newer one waits is dropped (R137). A HOLD that comes back waits
again while its condition stands; otherwise it is withdrawn, and the other HOLD is placed when its own
condition stands (R141). -/
def Obligations.TransmitCycle : Prop :=
  ∀ s : State, s.WellSized →
    (∀ r q, s.cl.node.active = true → s.b.ti.mute = false → s.b.ti.line = none →
      s.b.ti.queue = r :: q → Answers .transmitStart s fun t =>
        t.b.ti.line = some r ∧
        t.b.ti.queue.filter (fun x => !x.isHold) = q.filter (fun x => !x.isHold) ∧
        t.b.ti.failures = s.b.ti.failures ∧ SameBay s.b t.b ∧ SameBooks s.b t.b) ∧
    (∀ r, s.b.ti.line = some r →
      (s.b.ti.queue.any (replaces r) = true → ∀ c ∈ [Instr.arbitrationLost, .transmitFailure],
        Answers c s fun t => t.b.ti.line = none ∧
          t.b.ti.queue.filter (fun x => !x.isHold) = s.b.ti.queue.filter (fun x => !x.isHold)) ∧
      (r.isHold = true → s.HoldsOnce → s.b.ti.Ordered →
        ∀ c ∈ [Instr.arbitrationLost, .transmitFailure], Answers c s fun t =>
          t.b.ti.line = none ∧
          t.b.ti.queue.filter (fun x => !x.isHold) = s.b.ti.queue.filter (fun x => !x.isHold) ∧
          (s.b.holdCause s.env = true → t.b.ti.queue.any isHoldZero = false ∧
            t.b.ti.queue.any isHoldQuanta = true ∧ (isHoldQuanta r = true → t.queued r)) ∧
          (s.b.holdCause s.env = false → t.b.ti.queue.any isHoldQuanta = false ∧
            (isHoldZero r = true → t.queued r) ∧
            (isHoldQuanta r = true → t.b.ti.queue.any isHoldZero =
              (s.b.ti.holding || s.b.ti.queue.any isHoldZero)))) ∧
      (r.isHold = false → s.b.ti.queue.any (replaces r) = false →
        Answers .arbitrationLost s fun t =>
          t.b.ti.line = none ∧ t.queued r ∧ t.b.ti.failures = s.b.ti.failures ∧
          t.b.ti.mute = s.b.ti.mute ∧ SameBay s.b t.b ∧ SameBooks s.b t.b) ∧
      (Answers .transmitFailure s fun t =>
        t.b.ti.line = none ∧ t.b.ti.failures = min (s.b.ti.failures + 1) 16 ∧
        t.b.ti.mute = (s.b.ti.mute || decide (15 ≤ s.b.ti.failures)) ∧
        (r.isHold = false → s.b.ti.queue.any (replaces r) = false → t.queued r) ∧
        Raised .transmitFailures s t ∧ SameBay s.b t.b ∧ SameBooks s.b t.b) ∧
      (Answers .recordSent s fun t =>
        t.b.ti.line = none ∧ t.b.ti.failures = 0 ∧ Raised .sent s t ∧
        t.b.ti.holdingUntil = (match r.body with
          | .hold 0 => none
          | .hold d => some (after s.now (d * 100))
          | _ => s.b.ti.holdingUntil) ∧
        SameBay s.b t.b ∧ SameBooks s.b t.b))

/-- A fragment, an overrun, a CRC failure and a malformed record each raise their counter and enter a bad
outcome; the receive state becomes DEGRADED at 8 bad outcomes of the last 64 and GOOD again at 4 (R131 to
R133, R142). -/
def Obligations.DiscardedRecordsEnterWindow : Prop :=
  ∀ (s : State) (c : Instr) (k : Counter), s.cl.node.running = true → s.WellSized →
    (c, k) ∈ [(Instr.trunkFragment, Counter.fragments), (.maxRecordTimeExpiry, .fragments),
      (.badRecord, .bad), (.malformedRecord, .malformed)] →
    Answers c s fun t =>
      Raised k s t ∧ t.b.ti.outcomes = false :: s.b.ti.outcomes.take 63 ∧
      t.b.ti.receive =
        (if s.b.ti.receive = .good then
          (if 8 ≤ t.b.ti.outcomes.countP (fun x => !x) then .degraded else .good)
        else if t.b.ti.outcomes.countP (fun x => !x) ≤ 4 then .good else .degraded) ∧
      t.b.ti.heardAt = s.b.ti.heardAt ∧ t.b.ti.lost = s.b.ti.lost ∧ t.cl = s.cl ∧
      SameBay s.b t.b ∧ SameBooks s.b t.b ∧ t.b.pd = s.b.pd ∧ t.b.fu = s.b.fu

/-- A record bearing the own bay halts the node with DUPLICATE-BAY, in every state from LISTEN onward and
whatever its kind and addressee, empties the Transmit Queue and stops all sending; it is passed to no owner
(R134, R138). A node that has already halted so stays as it is. That a trunk command which names the own bay
as its sender is such a record is the model's reading (log 17). -/
def Obligations.OwnBayRecordHalts : Prop :=
  ∀ (s : State) (c : Instr), s.rested →
    (c = .duplicateBay ∨ c = .otherBayRecord s.cl.cfg.bay ∨
      ∃ body, bodyInRange body = true ∧ c = Heard.ofBody s.cl.cfg.bay body) →
    (s.cl.node.active = true → Answers c s fun t =>
      t.cl.node = .haltedDuplicate ∧ t.cl.cfg = s.cl.cfg ∧ t.b.ti.queue = [] ∧
      t.b.ti.line = none ∧ (∀ r, t.b.place t.env r = t.b) ∧ t.b.mm = s.b.mm ∧ t.b.si = s.b.si ∧
      t.b.zc.roster = s.b.zc.roster ∧ t.b.zc.inbound = s.b.zc.inbound ∧ SameBooks s.b t.b ∧
      t.b.pd = s.b.pd ∧ t.b.fu = s.b.fu) ∧
    (s.cl.node = .haltedDuplicate → Answers c s fun t =>
      t.cl = s.cl ∧ t.b.ti.queue = s.b.ti.queue ∧ t.b.ti.line = s.b.ti.line ∧ SameBay s.b t.b ∧
      SameBooks s.b t.b ∧ t.b.pd = s.b.pd ∧ t.b.fu = s.b.fu)

/-- Every record a node sends is heard by its peers as that record: the bytes of a well-formed body, sent
to the addressee its kind calls for, pass every check and give back sender, addressee and body. The nine
bytes of a job give back the job (R127, R132, R133, R135, R175). -/
def Obligations.RecordsAndJobsRoundTrip : Prop :=
  (∀ (own : Nat) (bay : Bay) (r : Record), r.body.wf = true → bay.val ≠ own →
    (r.dest = none ↔ kindToAll (kindCode r.body) = true) → (∀ d, r.dest = some d → d < 32) →
    hear own (recordBytes bay.val r) =
      (if r.dest = none ∨ r.dest = some own then .record bay r.body else .otherBay bay)) ∧
  (∀ j : Job, j.wf = true → ofJob (jobBytes j) = some j)

/-! ### Records heard: peers -/

/-- A STATUS in range overwrites the sender's entry with every field it carries; no other entry changes. A
sender that was UNKNOWN, STALE or ABSENT becomes PRESENT, with its changed flag set. It ends LOST and restarts
the silence watch, and the 32nd record heard under MUTE ends MUTE. In READY a new window of a lower bay that
overlaps the own window puts the node in CONFLICT (R143, R144, R148, R149, R151, R154). -/
def Obligations.StatusOverwritesPeer : Prop :=
  ∀ (s : State) (k : Bay) (st : StatusBody), s.cl.node.running = true → k ≠ s.cl.cfg.bay →
    s.WellSized → bodyInRange (.status st) = true →
    Answers (.status k st) s fun t =>
      t.b.peer k.val = { (s.b.peer k.val).greeted s.now with
        window := some (st.base, st.limit)
        sectionTime := some st.sectionTime
        period := some st.period
        idle := st.idle
        node := some st.node
        recovery := some st.recovery
        link := some st.link
        offline := st.offline
        overflow := st.overflow } ∧
      SamePeersBut k.val s.b t.b ∧ t.b.fu = s.b.fu ∧ t.cl.cfg = s.cl.cfg ∧
      t.b.ti.lost = false ∧ t.b.ti.heardAt = s.now ∧
      t.b.ti.mute = (s.b.ti.mute && decide (s.b.ti.muteHeard + 1 < 32)) ∧
      t.cl.node = (if s.cl.node = .ready ∧ k.val < s.cl.cfg.bay.val ∧
          (s.b.peer k.val).window ≠ some (st.base, st.limit) ∧ st.base ≤ s.cl.cfg.limit ∧
          s.cl.cfg.base ≤ st.limit then .conflict else s.cl.node)

/-- A HOLD sets the sender's hold until or, carrying 0, ends it; a LINK sets its link state and bad count
(R143, R150). Like a record that is for another bay, they make their sender PRESENT whatever it was, with its
changed flag set unless it was PRESENT, and restart the silence watch; the foreign record is counted (R135, R143,
R148, R151). -/
def Obligations.HoldLinkAndForeignRecords : Prop :=
  (∀ (s : State) (k : Bay), s.hears k →
    (∀ d, Answers (.hold k d) s fun t =>
      t.b.peer k.val = { s.b.peer k.val with
        lastHeard := some s.now
        holdUntil := if d = 0 then none else some (after s.now (d * 100)) } ∧
      SamePeersBut k.val s.b t.b ∧ t.b.fu = s.b.fu ∧ t.cl = s.cl) ∧
    (∀ x n, n ≤ 64 → Answers (.link k x n) s fun t =>
      t.b.peer k.val = { s.b.peer k.val with
        lastHeard := some s.now
        link := some x
        bad := some n } ∧
      SamePeersBut k.val s.b t.b ∧ SameBay s.b t.b ∧ SameBooks s.b t.b ∧ t.cl = s.cl)) ∧
  (∀ (s : State) (k : Bay), s.cl.node.running = true → k ≠ s.cl.cfg.bay → s.WellSized →
    (∀ d, Answers (.hold k d) s fun t =>
      t.b.peer k.val = { (s.b.peer k.val).greeted s.now with
        holdUntil := if d = 0 then none else some (after s.now (d * 100)) } ∧
      SamePeersBut k.val s.b t.b ∧ t.b.ti.lost = false ∧ t.b.ti.heardAt = s.now ∧
      t.b.fu = s.b.fu ∧ t.cl = s.cl) ∧
    (∀ x n, n ≤ 64 → Answers (.link k x n) s fun t =>
      t.b.peer k.val = { (s.b.peer k.val).greeted s.now with link := some x, bad := some n } ∧
      SamePeersBut k.val s.b t.b ∧ t.b.ti.lost = false ∧ t.b.ti.heardAt = s.now ∧
      t.b.fu = s.b.fu ∧ t.cl = s.cl) ∧
    (Answers (.otherBayRecord k) s fun t =>
      t.b.peer k.val = (s.b.peer k.val).greeted s.now ∧
      SamePeersBut k.val s.b t.b ∧ Raised .received s t ∧ t.b.ti.heardAt = s.now ∧
      t.b.ti.lost = false ∧ t.b.ti.outcomes = true :: s.b.ti.outcomes.take 63 ∧ t.cl = s.cl))

/-- A CALL is answered with one BID, for the candidate vehicle of least exit ETA, which is reserved; a
node that may not bid stays silent and records nothing (R102). Vehicle ids are taken to stand once on
roster and Inbound List, which every step keeps (R11). -/
def Obligations.CallGetsOneBid : Prop :=
  ∀ (s : State) (k : Bay) (id : Id8) (tag : Tag) (cls : MoveClass) (source urgency : Nat),
    s.hears k → s.WellSized → s.b.UniqueIds → s.roomFor 2 →
    (∀ eta v, k.val < s.cl.cfg.nBays → (∀ x ∈ s.b.du.bids, ¬ (x.caller = k.val ∧ x.id = id)) →
      s.cl.node = .ready → s.b.fu.recovery = .normal → s.b.candidateMoves = [] →
      s.b.du.bids.length < 8 → s.cl.cfg.kKeep < s.b.idleCount →
      (s.b.rank s.env s.b.candidates .exit).head? = some (eta, v) →
      Answers (.call k id tag cls source urgency) s fun t =>
        t.b.du.bids = s.b.du.bids ++ [{
          caller := k.val
          id := id
          tag := tag
          urgency := urgency
          vehicle := v.id
          eta := eta
          holdEnd := after s.now (s.cl.cfg.wCall + 1000) }] ∧
        t.queued { dest := some k.val, body := .bid id v.id eta } ∧ Raised .bidsMade s t ∧
        (∃ x, t.b.vehicle? v.id = some x ∧ x.reserved = true ∧ x.state = v.state) ∧
        SameVehiclesBut v.id s.b t.b ∧ t.b.mm = s.b.mm ∧ t.b.si = s.b.si ∧
        t.b.du.calls = s.b.du.calls) ∧
    ((s.cl.cfg.nBays ≤ k.val ∨ (∃ x ∈ s.b.du.bids, x.caller = k.val ∧ x.id = id) ∨
        s.cl.node ≠ .ready ∨ s.b.fu.recovery ≠ .normal ∨ s.b.candidateMoves ≠ [] ∨
        8 ≤ s.b.du.bids.length ∨ s.b.idleCount ≤ s.cl.cfg.kKeep) →
      Answers (.call k id tag cls source urgency) s fun t =>
        SameBay s.b t.b ∧ SameBooks s.b t.b ∧ t.b.fu = s.b.fu)

/-- A BID for a CALLING move's call is counted and takes the place of the best bid when its cost is less,
or equal from a lower bay; one from a bay off the loop becomes best only where no bid was received before;
a BID for an awarded call or with no vehicle is ignored (R70, R76, R94). -/
def Obligations.BidComparedWithBest : Prop :=
  ∀ (s : State) (k : Bay) (id : Id8) (vehicle eta : Nat) (c : CallEntry) (m : Move), s.hears k →
    s.b.du.calls.find? (fun x => x.id == id) = some c → s.b.move? c.tag = some m →
    (∀ bid : BestBid, m.state = .calling → 1 ≤ vehicle → vehicle ≤ 254 →
      bid = { bay := k.val, vehicle := vehicle,
              cost := s.b.remoteCost s.env k.val eta (s.b.sourceSeg m) } →
      Answers (.bid k id vehicle eta) s fun t =>
        (∃ x, t.b.du.calls.find? (fun x => x.id == id) = some x ∧
          x = { c with
            bids := min (c.bids + 1) 255
            best := match c.best with
              | none => some bid
              | some old =>
                if k.val < s.cl.cfg.nBays ∧
                    (bid.cost < old.cost ∨ (bid.cost = old.cost ∧ bid.bay < old.bay)) then some bid
                else some old }) ∧
        SameBay s.b t.b ∧ t.b.du.bids = s.b.du.bids) ∧
    ((m.state ≠ .calling ∨ vehicle < 1 ∨ 254 < vehicle) →
      Answers (.bid k id vehicle eta) s fun t => SameBay s.b t.b ∧ SameBooks s.b t.b)

/-- An AWARD naming this bay and the reserved vehicle is honoured: the entry is released, the vehicle is
sent out TO-EXIT with clearance and the caller's tag, and SENT carries its exit ETA; an AWARD naming
another bay releases the entry (R12, R103). -/
def Obligations.AwardHonoured : Prop :=
  ∀ (s : State) (k : Bay) (id : Id8) (winner : Nat) (x : BidEntry) (v : Vehicle), s.hears k →
    s.WellSized → s.roomFor 2 → winner ≤ 31 → s.b.du.bids.find? (bidFor k.val id) = some x →
    s.b.vehicle? x.vehicle = some v →
    (winner = s.cl.cfg.bay.val → s.cl.node.active = true →
      Answers (.award k id winner x.vehicle) s fun t =>
        t.b.du.bids = s.b.du.bids.filter (fun y => !bidFor k.val id y) ∧
        (∃ y, t.b.vehicle? x.vehicle = some y ∧ y.state = .toExit ∧ y.clearance = true ∧
          y.bound = some x.tag ∧ y.job = some (exitJob (some x.tag) none k.val)) ∧
        t.queued { dest := some k.val, body := .sent id x.vehicle (s.b.exitEta s.env v) } ∧
        Raised .bidsWon s t ∧ t.b.zc.inbound = s.b.zc.inbound ∧ t.b.fu = s.b.fu) ∧
    (winner ≠ s.cl.cfg.bay.val → ∀ vehicle, Answers (.award k id winner vehicle) s fun t =>
      t.b.du.bids = s.b.du.bids.filter (fun y => !bidFor k.val id y) ∧
      (∀ y, t.b.vehicle? x.vehicle = some y → y.reserved = false) ∧
      t.b.zc.inbound = s.b.zc.inbound ∧ t.b.fu = s.b.fu)

/-- A CANCEL releases the entry for that caller and call, and so does the end of its hold: the entry
leaves the Bid List and its vehicle is reserved no longer (R101, R104). That a hold which has not ended
leaves its entry when its end is signalled early is the model's choice (log 3). -/
def Obligations.BidReleasedByCancelOrHoldEnd : Prop :=
  ∀ (s : State) (k : Bay) (id : Id8), s.rested →
    (s.hears k → Answers (.cancel k id) s fun t =>
      t.b.du.bids = s.b.du.bids.filter (fun y => !bidFor k.val id y) ∧
      (∀ x ∈ s.b.du.bids, bidFor k.val id x = true →
        ∀ y, t.b.vehicle? x.vehicle = some y → y.reserved = false) ∧
      t.b.zc.inbound = s.b.zc.inbound ∧ t.b.fu = s.b.fu ∧ t.cl = s.cl) ∧
    (Answers (.bidHoldEnd k id) s fun t =>
      t.b.du.bids =
        s.b.du.bids.filter (fun y => !(bidFor k.val id y && passed s.now y.holdEnd 0)) ∧
      (∀ x ∈ s.b.du.bids, bidFor k.val id x = true → passed s.now x.holdEnd 0 = true →
        ∀ y, t.b.vehicle? x.vehicle = some y → y.reserved = false) ∧
      t.b.zc.inbound = s.b.zc.inbound ∧ t.b.fu = s.b.fu ∧ t.b.pd = s.b.pd ∧ t.cl = s.cl)

/-- A SENT for an awarded call, from its winner, turns the call's place into an EMPTY-FOR-MOVE entry and
binds the move to the vehicle named (R96, R111). For an id outside 1 to 254 this is the model's reading
(log 46). -/
def Obligations.SentBindsAwardedMove : Prop :=
  ∀ (s : State) (k : Bay) (id : Id8) (vehicle eta : Nat) (c : CallEntry), s.hears k →
    s.b.awardedCall k.val id = some c → s.b.known vehicle = false →
    Answers (.sent k id vehicle eta) s fun t =>
      t.b.inbound? vehicle = some {
        vehicle := vehicle
        kind := .emptyForMove
        source := k.val
        tag := some c.tag
        ref := id
        dest := none
        cls := none
        carrierId := none
        expected := s.b.arrivalTime s.env k.val eta
        recirc := 0
        late := false } ∧
      (∃ m, t.b.move? c.tag = some m ∧ m.state = .bound ∧ m.vehicle = some vehicle ∧
        m.callId = none) ∧
      t.b.du.calls = s.b.du.calls.filter (fun x => x.tag != c.tag) ∧
      t.b.zc.roster = s.b.zc.roster ∧ t.b.si = s.b.si ∧ t.b.du.bids = s.b.du.bids ∧
      ∀ other, other ≠ c.tag → t.b.move? other = s.b.move? other

/-- A RETRACT from the winner, and the award deadline, each end the award: the move leaves AWARDED with
its retry count raised, and each is counted (R97). -/
def Obligations.FailedAwardReturnsMove : Prop :=
  ∀ (s : State) (id : Id8) (c : CallEntry) (m : Move), s.WellSized → s.b.move? c.tag = some m →
    m.state = .awarded →
    (∀ (k : Bay) (vehicle : Nat) (r : RetractReason), s.hears k →
      s.b.awardedCall k.val id = some c → Answers (.retract k id vehicle r) s fun t =>
        (∃ x, t.b.move? c.tag = some x ∧ x.state ≠ .awarded ∧ x.retry = min (m.retry + 1) 255 ∧
          x.terms = m.terms ∧ x.recallAt = m.recallAt) ∧
        Raised (.retracts r) s t ∧ t.b.zc.inbound = s.b.zc.inbound ∧ t.b.fu = s.b.fu) ∧
    (s.b.du.calls.find? (fun x => x.id == id) = some c →
      (c.awardDeadline.any fun u => passed s.now u 0) = true →
      Answers (.awardDeadline id) s fun t =>
        (∃ x, t.b.move? c.tag = some x ∧ x.state ≠ .awarded ∧ x.retry = min (m.retry + 1) 255 ∧
          x.terms = m.terms ∧ x.recallAt = m.recallAt) ∧
        Raised .awardUnanswered s t ∧ t.b.zc.inbound = s.b.zc.inbound ∧ t.b.fu = s.b.fu)

/-! ### Records heard: loans -/

/-- An ASK is answered with a LOAN of the first vehicles in the order of their exit ETA, as many as the
count asked, the idle count beyond K_keep and the node's own need allow; each is sent out TO-EXIT with
clearance (R108). -/
def Obligations.AskAnsweredWithLoan : Prop :=
  ∀ (s : State) (k : Bay) (id : Id8) (n g : Nat), s.hears k → s.WellSized → s.roomFor 2 →
    1 ≤ n → n ≤ 4 → s.cl.node.active = true → (s.b.peer k.val).holdUntil = none →
    g = (if s.cl.node ≠ .ready ∨ s.b.fu.recovery ≠ .normal ∨ s.b.candidateMoves ≠ [] then 0
      else min n (s.b.idleCount - s.cl.cfg.kKeep)) →
    Answers (.ask k id n) s fun t =>
      ∃ eta vs, t.queued { dest := some k.val, body := .loan id eta vs } ∧
        vs = ((s.b.rank s.env s.b.candidates .exit).take g).map (fun x => x.2.id) ∧
        vs.length = g ∧
        (0 < g → ((s.b.rank s.env s.b.candidates .exit)[g - 1]?).map Prod.fst = some eta) ∧
        (∀ v ∈ vs, ∃ x, t.b.vehicle? v = some x ∧ x.state = .toExit ∧ x.clearance = true ∧
          x.bound = none ∧ x.job = some (exitJob none none k.val)) ∧
        t.b.counter .loansGranted = sat32 (s.b.counter .loansGranted + g) ∧ t.b.mm = s.b.mm ∧
        t.b.zc.inbound = s.b.zc.inbound ∧ SameBooks s.b t.b

/-- The LOAN of the open ask gives each vehicle it names, where none was known, a LOAN entry, and closes
the ask; the reply deadline closes it with its places released (R106, R109). For an id outside 1 to 254
this is the model's reading (log 46). -/
def Obligations.LoanClosesAsk : Prop :=
  ∀ (s : State) (a : Ask), s.WellSized → s.b.du.ask = some a →
    (∀ (k : Bay) (eta : Nat) (vs : List Nat), s.hears k → a.lender = k.val → vs.length ≤ 4 →
      vs.length ≤ a.count → vs.Nodup → (∀ v ∈ vs, s.b.known v = false) →
      Answers (.loan k a.id eta vs) s fun t =>
        t.b.du.ask = none ∧
        (∀ v ∈ vs, ∃ i, t.b.inbound? v = some i ∧ i.kind = .loan ∧ i.source = k.val ∧
          i.ref = a.id ∧ i.tag = none ∧ i.expected = s.b.arrivalTime s.env k.val eta ∧
          i.late = false) ∧
        t.b.zc.inbound.length = s.b.zc.inbound.length + vs.length ∧
        t.b.counter .loansReceived = sat32 (s.b.counter .loansReceived + vs.length) ∧
        t.b.zc.roster = s.b.zc.roster ∧ t.b.du.bids = s.b.du.bids) ∧
    (passed s.now a.deadline 0 = true → Answers .askDeadline s fun t =>
      t.b.du.ask = none ∧ t.b.zc = s.b.zc ∧ t.b.du.bids = s.b.du.bids ∧
      t.b.du.starve = (if s.b.supply < s.cl.cfg.fMin then some s.now else none))

/-! ### Records heard: consignment -/

/-- A CONSIGN of a vehicle known nowhere is answered BUSY in LISTEN, UNKNOWN-STATION for a station that
is not configured here, BUSY without room on the Inbound List, and otherwise TAKEN, with a LOADED
entry (R111, R125). For an id outside 1 to 254 this is the model's reading (log 46). -/
def Obligations.ConsignAnswered : Prop :=
  ∀ (s : State) (k : Bay) (id : Id8) (vehicle : Nat) (tag : Tag) (dest : Nat) (cls : MoveClass)
    (carrier : Option CarrierId) (eta : Nat), s.hears k → s.roomFor 2 → s.cl.node.active = true →
    s.b.known vehicle = false →
    (∀ i ∈ s.b.zc.inbound, ¬ (i.kind = .loaded ∧ i.source = k.val ∧ i.ref = id)) →
    (s.cl.node = .listen → Answers (.consign k id vehicle tag dest cls carrier eta) s fun t =>
      t.queued { dest := some k.val, body := .accept id vehicle .busy } ∧ SameBay s.b t.b) ∧
    (s.cl.node ≠ .listen → s.b.station? dest = none →
      Answers (.consign k id vehicle tag dest cls carrier eta) s fun t =>
        t.queued { dest := some k.val, body := .accept id vehicle .unknownStation } ∧
        SameBay s.b t.b) ∧
    (∀ x, s.cl.node ≠ .listen → s.b.station? dest = some x → s.b.room = 0 →
      Answers (.consign k id vehicle tag dest cls carrier eta) s fun t =>
        t.queued { dest := some k.val, body := .accept id vehicle .busy } ∧ SameBay s.b t.b) ∧
    (∀ x, s.cl.node ≠ .listen → s.b.station? dest = some x → 1 ≤ s.b.room →
      Answers (.consign k id vehicle tag dest cls carrier eta) s fun t =>
        t.queued { dest := some k.val, body := .accept id vehicle .taken } ∧
        t.b.inbound? vehicle = some {
          vehicle := vehicle
          kind := .loaded
          source := k.val
          tag := some tag
          ref := id
          dest := some dest
          cls := some cls
          carrierId := carrier
          expected := s.b.arrivalTime s.env k.val eta
          recirc := 0
          late := false } ∧
        (∀ v, v ≠ vehicle → t.b.inbound? v = s.b.inbound? v) ∧
        (t.b.station? dest).bind Station.reservation =
          (if x.open = true ∧ x.reservation = none then some tag else x.reservation) ∧
        t.b.zc.roster = s.b.zc.roster ∧ t.b.mm = s.b.mm ∧ SameBooks s.b t.b)

/-- A TAKEN gives the waiting vehicle exit clearance and makes its sender the consignee; a BUSY in phase
AWAITING starts RETRY; an UNKNOWN-STATION returns the move to its source; an ACCEPT that matches no wait
is ignored (R121). The tags of the records are taken to be distinct, as R41 makes them. -/
def Obligations.AcceptActsByResult : Prop :=
  ∀ (s : State) (k : Bay) (id : Id8) (vehicle : Nat), s.hears k → s.WellSized →
    (s.b.moveList.map Move.tag).Nodup →
    (s.b.acceptedMove id vehicle = none → ∀ r, Answers (.accept k id vehicle r) s fun t =>
      SameBay s.b t.b ∧ SameBooks s.b t.b) ∧
    (∀ m v, s.b.acceptedMove id vehicle = some m → s.b.vehicle? vehicle = some v →
      v.relearn = false →
      (Answers (.accept k id vehicle .taken) s fun t =>
        (∃ x, t.b.vehicle? vehicle = some x ∧ x = { v with clearance := true }) ∧
        (∃ y, t.b.move? m.tag = some y ∧ y.consignee = some k.val ∧ y.wait = none) ∧
        Raised .taken s t ∧ SameVehiclesBut vehicle s.b t.b ∧ t.b.si = s.b.si ∧
        SameBooks s.b t.b) ∧
      (∀ w, m.wait = some w → w.retry = false → Answers (.accept k id vehicle .busy) s fun t =>
        (∃ y, t.b.move? m.tag = some y ∧
          y.wait = some { retry := true, deadline := after s.now (s.cl.cfg.wRetry * 1000) }) ∧
        Raised .busy s t ∧ t.b.zc = s.b.zc ∧ t.b.si = s.b.si) ∧
      (Answers (.accept k id vehicle .unknownStation) s fun t =>
        (∃ y, t.b.move? m.tag = some y ∧ y.dest = m.source ∧ y.wait = none) ∧
        Raised .consignReturned s t ∧ t.b.zc.inbound = s.b.zc.inbound))

/-- A DONE from the consignee frees a CONSIGNED or SUSPENDED move for a delivery to port or shelf, strands
it with LOST for MISSING and for FAULT with LOST, and suspends it with HELD under the vehicle named for FAULT
with HELD, when its reservation is dropped; any other DONE is counted as stray and changes no record (R32,
R56, R57, R122). An unload that completes in this bay sets the carrier down at the station, frees a move of
this bay with the outcome its station gives, and reports a carrier of another bay to its home bay by DONE
(R14, R30, R55, R56, R126). A shelf that was given to a waiting vehicle counts as turned aside (R36); that
it does so as the delivery's own destination too is log 79's reading. The carrier id that the unload records
when the last REPORT carries none follows log 40, and a port that was OFFLINE before the hoist worked follows
log 50; that a shelf which is DISABLED already, with no disable pending, becomes HOLDING is the model's choice
(log 95); a tag whose home bay is above 31 is not spoken of (log 67). -/
def Obligations.DoneClosesMove : Prop :=
  (∀ (s : State) (k : Bay) (tag : Tag) (vehicle : Nat), s.hears k → s.WellSized →
    ((∀ m, s.b.move? tag = some m → tag.home = s.cl.cfg.bay.val → m.consignee = some k.val →
        m.poisoned = false → m.state ≠ .consigned ∧ m.state ≠ .suspended) →
      ∀ o, Answers (.done k tag vehicle o) s fun t =>
        Raised .strayDone s t ∧ SameBay s.b t.b ∧ SameBooks s.b t.b) ∧
    (∀ m, s.b.move? tag = some m → tag.home = s.cl.cfg.bay.val → m.consignee = some k.val →
      m.poisoned = false → (m.state = .consigned ∨ m.state = .suspended) →
      (∀ x ∈ s.b.stationList, x.followOnDue = false) →
      (∀ station, Answers (.done k tag vehicle (.deliveredPort station)) s fun t =>
        t.b.out.station = [.moveDone tag .delivered] ∧ t.b.move? tag = none ∧
        Raised (.completed m.cls) s t ∧ ∀ x ∈ t.b.stationList, x.active ≠ some tag) ∧
      (∀ station, Answers (.done k tag vehicle (.deliveredShelf station)) s fun t =>
        t.b.out.station = [.moveDone tag .deliveredToShelf] ∧ t.b.move? tag = none ∧
        Raised (.completed m.cls) s t ∧ ∀ x ∈ t.b.stationList, x.active ≠ some tag) ∧
      (Answers (.done k tag vehicle (.fault true)) s fun t =>
        t.b.move? tag = some { m with
          state := .suspended, endMethod := some .held, vehicle := some vehicle } ∧
        t.b.out.station = [] ∧ t.b.zc.inbound = s.b.zc.inbound ∧ SameBooks s.b t.b ∧
        (s.b.si.waitQueue = [] → t.b.zc = s.b.zc ∧
          ∀ x ∈ t.b.stationList, x.reservation ≠ some tag) ∧
        ((∀ x ∈ s.b.stationList, x.reservation ≠ some tag) →
          t.b.zc = s.b.zc ∧ t.b.si = s.b.si)) ∧
      (∀ o ∈ [DoneOutcome.fault false, .missing], Answers (.done k tag vehicle o) s fun t =>
        (∃ y, t.b.move? tag = some y ∧ y.state = .stranded ∧ y.endMethod = some .lost ∧
          y.vehicle = none ∧ y.terms = m.terms) ∧ t.b.out.station = []))) ∧
  (∀ (s : State) (r : Report) (v : Vehicle) (tag : Tag) (n dest : Nat) (x : Station),
    s.cl.node.active = true → s.WellSized → s.b.vehicle? r.vehicle = some v →
    v.state = .unloading → v.relearn = false → v.bound = some tag → s.b.station? n = some x →
    v.job = some (unloadJob n (some tag) dest) → r.echo = unloadJob n (some tag) dest →
    r.hoist = .done → r.carrier = false → r.level = .none → r.place = .segment v.segment →
    v.segment ≤ s.cl.cfg.loopLen + 1 → r.atMarker = false → r.motion = .stopped →
    s.b.fu.watch.bind Watch.vehicle ≠ some v.id → x.disablePending = false →
    (∀ y ∈ s.b.stationList, y.followOnDue = false) →
    (∀ m, tag.home = s.cl.cfg.bay.val → s.b.move? tag = some m → m.state = .carrying →
      m.vehicle = some v.id → m.dest = dest → (s.env.inWindow dest = true ∨ dest = m.source) →
      Answers (.report r []) s fun t =>
        t.b.out.station = [.moveDone tag (if dest = m.source then .returned
          else if n = dest ∧ (x.kind = .port ∨ v.given = false) then .delivered
          else .deliveredToShelf)] ∧
        (∃ y, t.b.vehicle? v.id = some y ∧
          ((y.state = .idle ∧ y.bound = none) ∨ y.state = .toSource)) ∧
        (x.kind = .port → (x.state ≠ .offline ∨ v.portOff = false) →
          t.b.move? tag = none ∧ ∃ z, t.b.station? n = some z ∧ z.state = .occupied ∧
            z.carrierId = (r.carrierId <|> v.carrierId) ∧ z.reservation = none) ∧
        (x.kind = .shelf → n ≠ dest → ∃ z, t.b.station? n = some z ∧ z.state = .holding ∧
          z.carrierId = (r.carrierId <|> v.carrierId) ∧ z.finalDest = some dest ∧
          z.heldClass = some m.cls ∧ z.holdingSince = some s.now)) ∧
    (tag.home ≠ s.cl.cfg.bay.val → tag.home ≤ 31 → s.roomFor 1 → Answers (.report r []) s fun t =>
      t.queued ⟨some tag.home, .done tag v.id
        (if n = dest ∧ (x.kind = .port ∨ v.given = false) then .deliveredPort (some n)
          else .deliveredShelf (some n))⟩ ∧
      ∃ y, t.b.vehicle? v.id = some y ∧
        ((y.state = .idle ∧ y.bound = none) ∨ y.state = .toSource)))

/-! ### Timers -/

/-- The status timer places a STATUS announcing the buffered period and starts the interval that was
buffered; half-way through its hold a node with a cause renews it; at the end of the hold it holds no
longer (R139 to R141). That exactly half left is enough for the renewal is the model's reading (log 39), and
so is that the holding ends with its command and not before (log 4); that the next expiry is counted from the
command, were it late, is the model's choice (log 109). -/
def Obligations.StatusAndHoldTimers : Prop :=
  ∀ s : State, s.rested →
    (s.cl.node.active = true → passed s.now s.b.ti.statusDue 0 = true → s.roomFor 1 →
      Answers .statusTimer s fun t =>
        (∃ st, t.queued { dest := none, body := .status st } ∧
          st.period = s.b.ti.buffered / 100 ∧ st.recovery = s.b.fu.recovery ∧
          st.link = s.b.ti.receive ∧ st.idle = s.b.idleCount) ∧
        t.b.ti.interval = s.b.ti.buffered ∧
        t.b.ti.statusDue = after s.now s.b.ti.buffered ∧ SameBay s.b t.b ∧ SameBooks s.b t.b ∧
        t.b.pd = s.b.pd) ∧
    (∀ u, s.cl.node.active = true → s.b.holdCause s.env = true → s.b.ti.holdingUntil = some u →
      2 * since u s.now ≤ (s.cl.cfg.quanta * 100 : Nat) → 1 ≤ s.cl.cfg.quanta →
      s.b.ti.holds isHoldQuanta = false → s.roomFor 1 →
      Answers .holdHalfElapsed s fun t =>
        t.queued { dest := none, body := .hold s.cl.cfg.quanta } ∧
        t.b.ti.holdingUntil = some u ∧ SameBay s.b t.b ∧ SameBooks s.b t.b ∧ t.b.pd = s.b.pd) ∧
    (∀ u, s.b.ti.holdingUntil = some u → passed s.now u 0 = true →
      Answers .holdDurationEnd s fun t =>
        t.b.ti.holdingUntil = none ∧ SameBay s.b t.b ∧ SameBooks s.b t.b ∧ t.b.pd = s.b.pd)

/-- A peer grows STALE three announced periods after it was last heard, ABSENT T_absent after that, and
every PRESENT peer STALE at once when the link is LOST; each change sets the changed flag. A hold ends by
its own time (R143, R150 to R152). When a peer becomes ABSENT, the consignment wait of every CARRYING move to it
ends whose vehicle stands TO-EXIT without exit clearance, is FAULTED, or is marked RELEARN (R124). -/
def Obligations.SilenceAgesPeers : Prop :=
  ∀ s : State, s.cl.node.running = true → s.rested →
    (s.b.ti.lost = false → passed s.now s.b.ti.heardAt (s.cl.cfg.tSilent * 1000) = true →
      Answers .linkLost s fun t =>
        t.b.ti.lost = true ∧
        (∀ k : Bay, k ≠ s.cl.cfg.bay → (s.b.peer k.val).presence = .present →
          t.b.peer k.val = { s.b.peer k.val with
            presence := .stale
            staleSince := some s.now
            changed := true }) ∧
        (∀ k : Bay, (s.b.peer k.val).presence ≠ .present → t.b.peer k.val = s.b.peer k.val) ∧
        t.b.zc.inbound = s.b.zc.inbound ∧ t.b.fu = s.b.fu) ∧
    (∀ (k : Bay) (h : Time), k ≠ s.cl.cfg.bay → (s.b.peer k.val).presence = .present →
      (s.b.peer k.val).lastHeard = some h →
      passed s.now h (3 * (s.b.peer k.val).period.getD 50 * 100) = true →
      Answers (.peerStale k) s fun t =>
        t.b.peer k.val = { s.b.peer k.val with
          presence := .stale
          staleSince := some s.now
          changed := true } ∧
        SamePeersBut k.val s.b t.b ∧ t.b.zc.inbound = s.b.zc.inbound ∧ t.b.fu = s.b.fu) ∧
    (∀ (k : Bay) (h : Time), k ≠ s.cl.cfg.bay → (s.b.peer k.val).presence = .stale →
      (s.b.peer k.val).staleSince = some h →
      passed s.now h (s.cl.cfg.tAbsent * 1000) = true →
      Answers (.peerAbsent k) s fun t =>
        t.b.peer k.val = { s.b.peer k.val with presence := .absent, changed := true } ∧
        SamePeersBut k.val s.b t.b ∧ t.b.zc.inbound = s.b.zc.inbound ∧ t.b.fu = s.b.fu ∧
        ∀ tag m v, s.b.move? tag = some m → m.state = .carrying → s.b.owner s.env m.dest = some k.val →
          m.vehicle.bind s.b.vehicle? = some v → m.wait.isSome = true →
          ((v.state = .toExit ∧ v.clearance = false) ∨ v.state = .faulted ∨ v.relearn = true) →
          ∃ y, t.b.move? tag = some y ∧ y.wait = none ∧ y.state = .carrying) ∧
    (∀ (k : Bay) (u : Time), (s.b.peer k.val).holdUntil = some u → passed s.now u 0 = true →
      Answers (.peerHoldExpiry k) s fun t =>
        t.b.peer k.val = { s.b.peer k.val with holdUntil := none } ∧
        SamePeersBut k.val s.b t.b ∧ t.b.zc.inbound = s.b.zc.inbound ∧ t.b.fu = s.b.fu)

/-- At the end of its window a call with a best bid is awarded to it, with an award deadline; one without
leaves the list, and its move waits for W_recall before it may call again (R95). -/
def Obligations.CallWindowDecides : Prop :=
  ∀ (s : State) (id : Id8) (c : CallEntry), s.WellSized →
    s.b.du.calls.find? (fun x => x.id == id) = some c → s.b.moveState c.tag = some .calling →
    passed s.now c.windowEnd 0 = true →
    (∀ best, c.best = some best → s.cl.node.active = true → s.roomFor 1 →
      Answers (.callWindowEnd id) s fun t =>
        t.b.moveState c.tag = some .awarded ∧
        t.queued { dest := none, body := .award id best.bay best.vehicle } ∧
        t.b.du.calls.find? (fun x => x.id == id) =
          some { c with awardDeadline := some (after s.now s.cl.cfg.wSend) } ∧
        Raised .callsAwarded s t ∧ t.b.zc = s.b.zc ∧ t.b.si = s.b.si ∧
        t.b.du.bids = s.b.du.bids) ∧
    (c.best = none → 1 ≤ s.cl.cfg.wRecall → s.cl.cfg.wRecall ≤ 30 →
      Answers (.callWindowEnd id) s fun t =>
        (∀ x ∈ t.b.du.calls, x.tag ≠ c.tag) ∧
        (∃ m, t.b.move? c.tag = some m ∧ (m.state = .waiting ∨ m.state = .bound) ∧
          m.recallAt = some (after s.now (s.cl.cfg.wRecall * 1000))) ∧
        t.b.zc.inbound = s.b.zc.inbound ∧ t.b.fu = s.b.fu)

/-- A call pass, as the passing of a recall time runs it, opens a call for the first eligible move in the
order of moves: the move is CALLING, its entry has an empty window, and CALL is placed (R92, R93). That the
command runs the pass whenever it is sent, were no recall time yet passed, and that the pass may open a call for
another move than the one whose recall time it is, is the model's choice (log 3). -/
def Obligations.CallPassOpensCall : Prop :=
  ∀ (s : State) (m : Move) (rest : List Move), s.rested → s.roomFor 1 → s.b.mayCall s.env = true →
    sortBy (Move.before s.now) (s.b.moveList.filter (Move.eligible s.now)) = m :: rest →
    Answers .recallTimePassed s fun t =>
      t.b.moveState m.tag = some .calling ∧
      (∃ c ∈ t.b.du.calls, c.tag = m.tag ∧ c.id = s.b.nextCall ∧ c.best = none ∧ c.bids = 0 ∧
        c.windowEnd = after s.now s.cl.cfg.wCall) ∧
      t.queued ⟨none, .call s.b.nextCall m.tag m.cls m.source (m.urgency s.now)⟩ ∧
      t.b.zc = s.b.zc ∧ t.b.si = s.b.si ∧ t.b.du.bids = s.b.du.bids

/-- A bay that has starved for T_starve asks the peer with the highest announced idle count for as many
vehicles as it is short of, at most 4 and no more than its room (R106, R107). -/
def Obligations.StarvationAsksLender : Prop :=
  ∀ (s : State) (u : Time) (n k : Nat), s.WellSized → s.roomFor 1 → s.cl.node = .ready →
    s.b.fu.recovery ≠ .restricted → s.b.ti.linkUp = true → s.b.du.ask = none →
    s.b.du.starve = some u → passed s.now u (s.cl.cfg.tStarve * 1000) = true →
    s.b.lender s.env = some k → n = min (min 4 (s.cl.cfg.fMin - s.b.supply)) s.b.room → 1 ≤ n →
    Answers .starveExpiry s fun t =>
      t.b.du.ask = some
        { id := s.b.du.askCounter, lender := k, count := n,
          deadline := after s.now (s.cl.cfg.wAsk * 100) } ∧
      t.b.du.askCounter = s.b.du.askCounter + 1 ∧
      t.queued { dest := some k, body := .ask s.b.du.askCounter n } ∧ Raised .loansAsked s t ∧
      (s.b.peer k).presence = .present ∧ (s.b.peer k).node = some .ready ∧
      (s.b.peer k).link = some .good ∧ (s.b.peer k).holdUntil = none ∧
      (∀ j, j < s.cl.cfg.nBays → s.b.lends s.env j = true → (s.b.peer j).idle ≤ (s.b.peer k).idle) ∧
      SameBay s.b t.b ∧ t.b.du.calls = s.b.du.calls ∧ t.b.du.bids = s.b.du.bids

/-- A consignment wait whose deadline passes in AWAITING enters RETRY, uncounted; one that passes in RETRY
sends the CONSIGN again with the same consign id, to the owner then found, and awaits its answer
(R120, R121). When the vehicle of a CARRYING move leaves with exit clearance at the merge marker, its roster
entry is free and the move is CONSIGNED (R12, R57). -/
def Obligations.ConsignmentWaitRetries : Prop :=
  ∀ (s : State) (tag : Tag) (m : Move), s.WellSized → s.b.move? tag = some m →
    m.state = .carrying →
    (∀ d, passed s.now d 0 = true → s.b.consignQueued tag = false →
      m.wait = some { retry := false, deadline := d } → Answers (.acceptDeadline tag) s fun t =>
      t.b.move? tag = some { m with
        wait := some { retry := true, deadline := after s.now (s.cl.cfg.wRetry * 1000) } } ∧
      t.b.counter .busy = s.b.counter .busy ∧ t.b.zc = s.b.zc ∧ t.b.si = s.b.si ∧
      SameBooks s.b t.b) ∧
    (∀ d id v k, passed s.now d 0 = true → s.b.consignQueued tag = false →
      m.wait = some { retry := true, deadline := d } → s.cl.node.active = true →
      s.roomFor 1 → m.consignId = some id → m.vehicle.bind s.b.vehicle? = some v →
      s.b.owner s.env m.dest = some k → (s.b.peer k).presence ≠ .absent →
      Answers (.retryDeadline tag) s fun t =>
        t.queued
          ⟨some k, .consign id v.id tag m.dest m.cls m.carrierId (s.b.exitEta s.env v)⟩ ∧
        t.b.move? tag = some { m with
          wait := some { retry := false, deadline := after s.now (s.cl.cfg.wAccept * 100) } } ∧
        Raised .consignSent s t ∧ t.b.zc = s.b.zc ∧ t.b.si = s.b.si ∧ SameBooks s.b t.b) ∧
    (∀ (r : Report) (v : Vehicle), s.cl.node.running = true → tag.home = s.cl.cfg.bay.val →
      s.b.vehicle? r.vehicle = some v → v.state = .toExit → v.clearance = true →
      v.relearn = false → v.bound = some tag → r.place = .merged → r.level ≠ .major →
      (v.job.any fun j => j.target == .recirculate) = false → Answers (.report r []) s fun t =>
        t.b.onRoster r.vehicle = false ∧
        t.b.move? tag = some { m with state := .consigned, wait := none } ∧
        t.b.zc.inbound = s.b.zc.inbound ∧ t.b.si.stations = s.b.si.stations)

/-- An Inbound entry becomes LATE slack_in after its expected arrival and is removed as MISSING after three
times that; a carrier consigned from another bay is reported MISSING to it by DONE (R111, R112). -/
def Obligations.InboundGoesLateThenMissing : Prop :=
  ∀ (s : State) (id : Nat) (i : Inbound), s.WellSized → s.b.inbound? id = some i →
    (i.late = false → passed s.now i.expected (s.cl.cfg.slackIn * 1000) = true →
      Answers (.inboundLate id []) s fun t =>
        t.b.inbound? id = some { i with late := true } ∧ Raised .lateEntries s t ∧
        (∀ v, v ≠ id → t.b.inbound? v = s.b.inbound? v) ∧ t.b.zc.roster = s.b.zc.roster ∧
        t.b.mm = s.b.mm ∧ t.b.si = s.b.si ∧ SameBooks s.b t.b) ∧
    (passed s.now i.expected (3 * s.cl.cfg.slackIn * 1000) = true →
      Answers (.inboundMissing id) s fun t =>
        t.b.inbound? id = none ∧ Raised .missingEntries s t ∧
        (∀ v, v ≠ id → t.b.inbound? v = s.b.inbound? v) ∧
        (∀ tag, i.kind = .loaded → i.tag = some tag → i.source ≠ s.cl.cfg.bay.val →
          s.cl.node.active = true → s.roomFor 1 →
          t.queued { dest := some i.source, body := .done tag id .missing }))

/-- A vehicle idle for T_idle_park is sent to park on the segment with room that it reaches soonest; it
stays IDLE (R86, R87). -/
def Obligations.DueVehicleParks : Prop :=
  ∀ (s : State) (v : Vehicle) (p : Nat), (s.cl.node = .ready ∨ s.cl.node = .conflict) → s.rested →
    s.b.vehicle? v.id = some v → v.state = .idle → v.bound = none → v.relearn = false →
    s.b.bidNames v.id = false → v.parkTarget = none →
    passed s.now v.idleSince (s.cl.cfg.tIdlePark * 1000) = true → s.b.parkingFor s.env v = some p →
    Answers (.idleParkDue v.id) s fun t =>
      (∃ x, t.b.vehicle? v.id = some x ∧ x.state = .idle ∧ x.job = some (parkJob p) ∧
        x.idleSince = v.idleSince) ∧
      t.b.out.zone = [.goto v.id (parkJob p)] ∧ 0 < s.b.parkingRoom p ∧
      (∀ q, q < s.b.zc.segments.length → 0 < s.b.parkingRoom q →
        (s.b.estimateOf s.env v (.seg p)).getD 65535 ≤
          (s.b.estimateOf s.env v (.seg q)).getD 65535) ∧
      SameVehiclesBut v.id s.b t.b ∧ t.b.zc.inbound = s.b.zc.inbound ∧ t.b.mm = s.b.mm ∧
      t.b.si = s.b.si ∧ SameBooks s.b t.b

/-- The age of a move is its wrapped difference in whole seconds, stopped at 4095. The age review draws
accepted at forward to 4095 s before the present for a record whose age has reached the stop, and changes
nothing else (R72); that it acts whenever it is sent is the model's choice (log 60). A spoiled body that it
reads makes its record POISONED and STRANDED with LOST, tag and source kept, and unbinds its vehicle; a
spoiled key frees its record without MOVE-DONE; each is counted and is an urgent fault of kind MEMORY
(R63, R161, R167). What the First-Fault Record names as its method is the model's choice (log 13). -/
def Obligations.AgeReviewStopsAge : Prop :=
  ∀ s : State, (∀ m : Move, m.age s.now = min (since s.now m.acceptedAt / 1000).toNat 4095) ∧
    (s.rested → Answers (.ageReview []) s fun t =>
    (∀ tag, t.b.move? tag = (s.b.move? tag).map fun m =>
      if m.age s.now = 4095 then { m with acceptedAt := s.now - 4095000#32 } else m) ∧
    (∀ m ∈ t.b.moveList, since s.now m.acceptedAt ≤ 4095999) ∧
    t.b.zc = s.b.zc ∧ t.b.si = s.b.si ∧ SameBooks s.b t.b ∧ t.b.fu = s.b.fu) ∧
    (∀ (i : Nat) (m : Move), s.WellSized → i < 64 → s.b.mm.moves[i]? = some (some m) →
      (s.b.moveList.map Move.tag).Nodup → s.b.fu.recovery = .normal →
      (Answers (.ageReview [⟨.move, i, false⟩]) s fun t =>
        (∃ y, t.b.move? m.tag = some y ∧ y.poisoned = true ∧ y.state = .stranded ∧
          y.endMethod = some .lost ∧ y.vehicle = none ∧ y.source = m.source) ∧
        (∀ v ∈ t.b.vehicles, v.bound ≠ some m.tag) ∧ (∀ c ∈ t.b.du.calls, c.tag ≠ m.tag) ∧
        t.b.flag .memory = true ∧ Raised .parity s t ∧ t.b.fu.recovery = .recovering ∧
        t.b.fu.first = some ⟨.memory, none, some m.tag, some .lost, s.now⟩ ∧
        t.b.fu.watch = some ⟨none, after s.now (s.cl.cfg.tRec * 1000)⟩) ∧
      ((∀ x ∈ s.b.stationList, x.followOnDue = false) →
        Answers (.ageReview [⟨.move, i, true⟩]) s fun t =>
          t.b.mm.moves[i]? = some none ∧ t.b.out.station = [] ∧ t.b.flag .memory = true ∧
          Raised .parity s t ∧ t.b.fu.recovery = .recovering ∧
          t.b.fu.first = some ⟨.memory, none, none, none, s.now⟩ ∧
          t.b.fu.watch = some ⟨none, after s.now (s.cl.cfg.tRec * 1000)⟩))

/-- A MAJOR fault of a vehicle that carries a CARRYING move suspends the move with HELD, one of a vehicle
TO-SOURCE for a BOUND move returns it to be bound anew with CLEAN; the vehicle is FAULTED and the VEHICLE
flag set. In NORMAL the fault fills the First-Fault Record and the node watches the vehicle, RECOVERING; in
RECOVERING the fault of another vehicle makes it RESTRICTED with the multiple-fault flag, and one of the same
vehicle changes nothing; in RESTRICTED the flag is set (R53, R159 to R161).
RECOVERING ends at its deadline; RESTRICTED ends by RESUME, taken when no vehicle is FAULTED or SILENT,
which clears the multiple-fault flags and keeps the First-Fault Record. RESUME is refused with WRONG-STATE
outside RESTRICTED and with NOT-CLEAR while a vehicle is FAULTED or SILENT (R162, R163). That an entry marked
RELEARN is judged by the state it holds is the model's choice (log 101). -/
def Obligations.RecoveryEnds : Prop :=
  ∀ s : State, s.rested →
    (∀ w, s.b.fu.recovery = .recovering → s.b.fu.watch = some w → passed s.now w.deadline 0 = true →
      Answers .recoveryDeadline s fun t =>
        t.b.fu = { s.b.fu with recovery := .normal, watch := none } ∧ t.b.zc = s.b.zc) ∧
    (s.cl.node.active = true →
      (s.b.fu.recovery ≠ .restricted → Answers .resume s fun t =>
        t.b.out.service = some (.result .wrongState) ∧ t.b.fu = s.b.fu ∧ SameBay s.b t.b) ∧
      (s.b.fu.recovery = .restricted →
        ((∃ v ∈ s.b.vehicles, v.state = .faulted ∨ v.state = .silent) → Answers .resume s fun t =>
          t.b.out.service = some (.result .notClear) ∧ t.b.fu = s.b.fu ∧ SameBay s.b t.b) ∧
        ((∀ v ∈ s.b.vehicles, v.state ≠ .faulted ∧ v.state ≠ .silent) → Answers .resume s fun t =>
          t.b.out.service = some (.result .ok) ∧ t.b.fu.recovery = .normal ∧
          t.b.fu.anyMulti = false ∧ t.b.fu.first = s.b.fu.first ∧ t.b.zc = s.b.zc))) ∧
    (∀ (r : Report) (v : Vehicle) (m : Move) (tag : Tag), s.cl.node.running = true →
      s.b.vehicle? r.vehicle = some v → v.relearn = false → v.bound = some tag →
      tag.home = s.cl.cfg.bay.val → s.b.move? tag = some m → m.vehicle = some v.id →
      m.poisoned = false → r.level = .major → r.hoist = .idle → r.jobDone = false →
      r.place = .segment v.segment → v.segment ≤ s.cl.cfg.loopLen + 1 →
      ((v.state = .loaded ∧ m.state = .carrying ∧ r.carrier = true) ∨
        (v.state = .toSource ∧ m.state = .bound ∧ r.carrier = false)) →
      Answers (.report r []) s fun t =>
        (∃ x, t.b.vehicle? r.vehicle = some x ∧ x.state = .faulted ∧
          x.bound = (if m.state = .bound then none else some tag)) ∧
        (∃ y, t.b.move? tag = some y ∧ y.terms = m.terms ∧
          (m.state = .carrying → y.state = .suspended ∧ y.endMethod = some .held ∧
            y.wait = none) ∧
          (m.state = .bound → (y.state = .waiting ∨ y.state = .bound ∨ y.state = .calling) ∧
            y.endMethod = some .clean ∧ y.retry = min (m.retry + 1) 255)) ∧
        t.b.flag .vehicle = true ∧
        (s.b.fu.recovery = .normal → t.b.fu = { s.b.fu with
          recovery := .recovering
          first := some ⟨.vehicle, some v.id, some tag,
            some (if m.state = .bound then .clean else .held), s.now⟩
          watch := some ⟨some v.id, after s.now (s.cl.cfg.tRec * 1000)⟩ }) ∧
        (s.b.fu.recovery = .recovering →
          (s.b.fu.first.bind FirstFault.vehicle = some v.id → t.b.fu = s.b.fu) ∧
          (s.b.fu.first.bind FirstFault.vehicle ≠ some v.id → t.b.fu = { s.b.fu with
            recovery := .restricted, multiVehicle := true, watch := none })) ∧
        (s.b.fu.recovery = .restricted → t.b.fu = { s.b.fu with multiVehicle := true }))

/-! ### The service port -/

/-- READ-STATUS raises the token and takes the flags then set as the snapshot. CLEAR-STICKY with that token
clears the flags of the snapshot and no other; with another token, or in CONFIG, it is refused and
changes nothing (R171, R172). -/
def Obligations.SnapshotGuardsClear : Prop :=
  ∀ s : State,
    (Answers .readStatus s fun t =>
      t.b.sp.token = s.b.sp.token + 1 ∧ (∀ f, f ∈ t.b.sp.snapshot ↔ s.b.flag f = true) ∧
      (∀ f, t.b.flag f = s.b.flag f) ∧
      (∃ v, t.b.out.service = some (.status v) ∧ v.node = s.cl.node ∧
        v.recovery = s.b.fu.recovery ∧ v.lost = s.b.ti.lost ∧ v.receive = s.b.ti.receive ∧
        v.mute = s.b.ti.mute ∧ v.first = s.b.fu.first ∧ v.sticky = s.b.sp.sticky ∧
        v.token = s.b.sp.token + 1) ∧
      SameBay s.b t.b ∧ t.b.du = s.b.du ∧ t.b.ti = s.b.ti ∧ t.b.fu = s.b.fu) ∧
    (∀ token, s.cl.node ≠ .config →
      (token = s.b.sp.token.toNat → Answers (.clearSticky token) s fun t =>
        t.b.out.service = some (.result .ok) ∧
        (∀ f, t.b.flag f = (s.b.flag f && !s.b.sp.snapshot.contains f)) ∧
        t.b.sp.snapshot = [] ∧ t.b.sp.token = s.b.sp.token ∧ SameBay s.b t.b ∧
        t.b.fu = s.b.fu) ∧
      (token ≠ s.b.sp.token.toNat → Answers (.clearSticky token) s fun t =>
        t.b.out.service = some (.result .staleToken) ∧ t.b.sp = s.b.sp ∧ t.b.pd = s.b.pd)) ∧
    (∀ token, s.cl.node = .config → Answers (.clearSticky token) s fun t =>
      t.b.out.service = some (.result .wrongState) ∧ t.b.sp = s.b.sp ∧ t.b.pd = s.b.pd)

/-- RESOLVE REMOVE frees a STRANDED or SUSPENDED move with REMOVED, a suspended one's vehicle being left for
the floor with its carrier. Of a STRANDED move, AT-SOURCE makes it WAITING again, with its terms, when a carrier
stands at its source, and AT-STATION makes it WAITING from the station named; a POISONED record takes neither
(R61, R63). Of a SUSPENDED move whose vehicle is on the roster, AT-SOURCE makes its source its destination, and
AT-STATION the station named; the move goes on at once, or stays SUSPENDED while its vehicle is FAULTED, and
without that vehicle neither is taken (R62). A tag no record holds is refused with BAD-INDEX, and a move
that is neither STRANDED nor SUSPENDED with WRONG-STATE (R56, R61); that it is so for AT-STATION with a station
that is not configured, for which R61 gives BAD-INDEX too, is the model's choice (log 21), and so are the codes by which AT-STATION
of a SUSPENDED move is refused (log 49). -/
def Obligations.ResolveStranded : Prop :=
  ∀ (s : State) (tag : Tag), s.cl.node.active = true → s.WellSized →
    ((tag.home ≠ s.cl.cfg.bay.val ∨ s.b.move? tag = none) → ∀ how,
      Answers (.resolve tag how) s fun t =>
        t.b.out.service = some (.result .badIndex) ∧ SameBay s.b t.b ∧ SameBooks s.b t.b) ∧
    (∀ m, tag.home = s.cl.cfg.bay.val → s.b.move? tag = some m →
      (m.state ≠ .stranded → m.state ≠ .suspended → ∀ how, Answers (.resolve tag how) s fun t =>
        t.b.out.service = some (.result .wrongState) ∧ SameBay s.b t.b ∧ SameBooks s.b t.b) ∧
      (m.state = .stranded → (∀ x ∈ s.b.stationList, x.followOnDue = false) →
        Answers (.resolve tag .remove) s fun t =>
          t.b.out.service = some (.result .ok) ∧ t.b.out.station = [.moveDone tag .removed] ∧
          t.b.move? tag = none ∧ (∀ x ∈ t.b.stationList, x.active ≠ some tag) ∧
          Raised .removed s t) ∧
      (∀ x, m.state = .stranded → m.poisoned = false → s.b.station? m.source = some x →
        (x.state = .occupied ∨ x.state = .holding) → Answers (.resolve tag .atSource) s fun t =>
          t.b.out.service = some (.result .ok) ∧
          (∃ y, t.b.move? tag = some y ∧
            (y.state = .waiting ∨ y.state = .bound ∨ y.state = .calling) ∧
            y.retry = min (m.retry + 1) 255 ∧ y.terms = m.terms) ∧
          t.b.si = s.b.si ∧ t.b.zc.inbound = s.b.zc.inbound) ∧
      (∀ n x, m.state = .stranded → m.poisoned = false → s.b.station? n = some x →
        x.active = none → n ≠ m.dest → (x.state = .occupied ∨ x.state = .holding) →
        (∀ y ∈ s.b.stationList, y.followOnDue = false) →
        Answers (.resolve tag (.atStation n)) s fun t =>
          t.b.out.service = some (.result .ok) ∧
          (∃ y, t.b.move? tag = some y ∧
            (y.state = .waiting ∨ y.state = .bound ∨ y.state = .calling) ∧ y.source = n ∧
            y.shelfSourced = (x.kind == .shelf) ∧ y.retry = min (m.retry + 1) 255 ∧
            y.dest = m.dest ∧ y.cls = m.cls ∧ y.carrierId = m.carrierId ∧
            y.acceptedAt = m.acceptedAt ∧ y.deadline = m.deadline) ∧
          (t.b.station? n).bind Station.active = some tag ∧
          (∀ y ∈ t.b.stationList, y.active = some tag → y.number = n) ∧
          t.b.zc.inbound = s.b.zc.inbound) ∧
      (∀ n, m.state = .stranded → m.poisoned = false → s.b.station? n = none →
        Refuses (.resolve tag (.atStation n)) .badIndex s) ∧
      (m.state = .stranded → (m.poisoned = true ∨ ∀ x, s.b.station? m.source = some x →
          x.state ≠ .occupied ∧ x.state ≠ .holding) →
        Refuses (.resolve tag .atSource) .wrongState s) ∧
      (∀ n x, m.state = .stranded → s.b.station? n = some x →
        (m.poisoned = true ∨ x.active ≠ none ∨ n = m.dest ∨
          (x.state ≠ .occupied ∧ x.state ≠ .holding)) →
        Refuses (.resolve tag (.atStation n)) .wrongState s) ∧
      (m.state = .suspended → (∀ x ∈ s.b.stationList, x.followOnDue = false) →
        Answers (.resolve tag .remove) s fun t =>
          t.b.out.service = some (.result .ok) ∧ t.b.out.station = [.moveDone tag .removed] ∧
          t.b.move? tag = none ∧ (∀ x ∈ t.b.stationList, x.active ≠ some tag) ∧
          Raised .removed s t ∧
          (∀ v, m.vehicle = some v.id → s.b.vehicle? v.id = some v → v.relearn = false →
            v.bound = some tag → v.carrier = true → v.state ≠ .silent →
            ∃ y, t.b.vehicle? v.id = some y ∧ y.state = .faulted ∧ y.bound = none ∧
              y.carrier = true)) ∧
      (∀ v, m.state = .suspended → m.vehicle = some v.id → s.b.vehicle? v.id = some v →
        v.relearn = false → v.bound = some tag →
        (Answers (.resolve tag .atSource) s fun t =>
          t.b.out.service = some (.result .ok) ∧
          (∃ y, t.b.move? tag = some y ∧ y.dest = m.source ∧ y.checkHold = false ∧
            y.state = (if v.state = .faulted then .suspended else .carrying)) ∧
          (v.state = .faulted → t.b.zc = s.b.zc ∧ t.b.si = s.b.si)) ∧
        (∀ n, s.routed n → n ≠ m.source → Answers (.resolve tag (.atStation n)) s fun t =>
          t.b.out.service = some (.result .ok) ∧
          (∃ y, t.b.move? tag = some y ∧ y.dest = n ∧ y.checkHold = false ∧
            y.state = (if v.state = .faulted then .suspended else .carrying) ∧
            (v.state = .faulted → y.consignId =
              if s.env.inWindow n then m.consignId else none)) ∧
          (v.state = .faulted → t.b.zc = s.b.zc ∧ t.b.si = s.b.si)) ∧
        ((s.b.station? m.source).isSome = true →
          Refuses (.resolve tag (.atStation m.source)) .wrongState s) ∧
        (∀ n, s.env.inWindow n = true → s.b.station? n = none → n ≠ m.source →
          Refuses (.resolve tag (.atStation n)) .badIndex s) ∧
        (∀ n, s.env.inWindow n = false → ¬ s.routed n →
          Refuses (.resolve tag (.atStation n)) .wrongState s)) ∧
      (m.state = .suspended → m.vehicle.bind s.b.vehicle? = none →
        Refuses (.resolve tag .atSource) .wrongState s ∧
        ∀ n, s.routed n → Refuses (.resolve tag (.atStation n)) .wrongState s))

/-- VEHICLE-OUT removes a roster entry at once; RESTORE-SEGMENT returns a segment to its configured
capacity; RESTORE-SHELF returns a DISABLED shelf to FREE. Each is refused, with nothing changed, for what
it cannot name (R165, R173, R174). -/
def Obligations.RepairsByService : Prop :=
  ∀ s : State, s.cl.node.active = true → s.rested →
    (∀ id, 1 ≤ id → id ≤ 254 →
      (s.b.onRoster id = true → Answers (.vehicleOut id) s fun t =>
        t.b.out.service = some (.result .ok) ∧ t.b.onRoster id = false ∧
        t.b.zc.inbound = s.b.zc.inbound ∧ (∀ x ∈ t.b.du.bids, x.vehicle ≠ id)) ∧
      (s.b.onRoster id = false → Answers (.vehicleOut id) s fun t =>
        t.b.out.service = some (.result .wrongState) ∧ SameBay s.b t.b ∧ SameBooks s.b t.b)) ∧
    (∀ i g, i ≤ s.cl.cfg.loopLen + 1 → s.b.seg? i = some g → Answers (.restoreSegment i) s fun t =>
      t.b.out.service = some (.result .ok) ∧
      t.b.seg? i = some { g with working := g.configured, degraded := false, faults := 0,
                                 clampRun := 0 } ∧
      (∀ j, j ≠ i → t.b.seg? j = s.b.seg? j) ∧ t.b.mm = s.b.mm ∧ t.b.si = s.b.si ∧
      t.b.fu = s.b.fu) ∧
    (∀ i, s.cl.cfg.loopLen + 1 < i → Answers (.restoreSegment i) s fun t =>
      t.b.out.service = some (.result .badIndex) ∧ SameBay s.b t.b) ∧
    (∀ i x, s.b.si.stations[i]? = some (some x) → x.kind = .shelf → x.state = .disabled →
      Answers (.restoreShelf i) s fun t =>
        t.b.out.service = some (.result .ok) ∧
        (∃ y, t.b.si.stations[i]? = some (some y) ∧ y.state = .free ∧ y.carrierId = none ∧
          y.finalDest = none ∧ y.hoistFailures = 0) ∧
        t.b.zc.inbound = s.b.zc.inbound) ∧
    (∀ i, (∀ x, s.b.si.stations[i]? = some (some x) → x.kind = .port) →
      Answers (.restoreShelf i) s fun t =>
        t.b.out.service = some (.result .badIndex) ∧ SameBay s.b t.b)

/-! ### Invariants that every command and every step keeps -/

/-- No vehicle id comes to stand twice on roster and Inbound List (R11). The Bid List keeps its 8 entries
at most, each naming another vehicle, which stands on the roster IDLE or PARKED and bound to no move, or marked
RELEARN (R101, R168). -/
def Obligations.VehicleIdsStayUnique : Prop :=
  ∀ (s t : State), step s = .next t →
    (s.b.UniqueIds → t.b.UniqueIds) ∧ (s.b.BidsDistinct → t.b.BidsDistinct) ∧
    (s.b.UniqueIds → s.b.BidsFree → t.b.BidsFree)

/-- The Transmit Queue keeps its order, its bound of 16 records and its one STATUS and one LINK (R136,
R137). At most one HOLD waits in it, and none of the content that is on the line; a node that does not
send has nothing waiting (R138, R141). -/
def Obligations.TransmitQueueStaysOrdered : Prop :=
  ∀ (s t : State), step s = .next t →
    (s.b.ti.Ordered → t.b.ti.Ordered) ∧ (s.HoldsOnce → t.HoldsOnce)

/-- The node is RESTRICTED exactly while a multiple-fault flag is set, watches exactly while it is
RECOVERING, and holds a First-Fault Record in both (R161 to R163, R170). -/
def Obligations.FaultUnitStaysConsistent : Prop :=
  ∀ (s t : State), s.b.fu.Consistent → step s = .next t → t.b.fu.Consistent

/-- But for power-on and RESTART, the node state changes only as its table allows, and the configuration
only at the reading of an image; HALTED is not left, and CONFLICT only for HALTED (R155, R156). -/
def Obligations.NodeStateFollowsTable : Prop :=
  ∀ (c : Instr) (s t : State), exec c s = .next t → c ≠ .powerOn → c ≠ .restart →
    s.cl.node.mayBecome t.cl.node = true ∧
    (t.cl.cfg = s.cl.cfg ∨ (∃ image, c = .configImageRead image ∧ s.cl.node = .config)) ∧
    (s.cl.node = .listen → t.cl.node = .ready → c = .listenEnd) ∧
    (s.cl.node = .ready → t.cl.node = .conflict →
      ∃ k st, c = .status k st ∧ k.val < s.cl.cfg.bay.val ∧ st.base ≤ s.cl.cfg.limit ∧
        s.cl.cfg.base ≤ st.limit) ∧
    (s.cl.node.halted = true → t.cl = s.cl)

/-- Each station number stands once in the Station Table, and a reservation stands only on an EMPTY port or
a FREE shelf (R25, R32). The records of the Move Table bear this bay's tags with distinct sequence numbers
(R41); each stands at a source of its own, whose active-source tag it is (R31, R44); and the calls are those
of the CALLING and AWARDED records, one each and 8 at most (R89). A vehicle bound to a tag of this bay is
the vehicle its record names, and an Inbound entry that awaits a vehicle for a move is named by a BOUND
record; this last is said of every command but a DONE and a CALL for a tag of this bay, by which a peer names
a vehicle or a move of its own accord (R42, R57, R122). -/
def Obligations.ReservationsStayOpen : Prop :=
  ∀ (s t : State), step s = .next t → s.b.StationsSound →
    t.b.StationsSound ∧
    (s.MovesSound → t.MovesSound) ∧
    (s.MovesSound → s.b.SourcesNamed → t.b.SourcesNamed) ∧
    (s.MovesSound → s.b.CallsMatch → t.b.CallsMatch) ∧
    ((∀ c ∈ s.pending.head?, namesOwnMove s.cl.cfg.bay.val c = false) → s.MovesSound →
      s.b.UniqueIds → s.BindingsAgree → t.BindingsAgree)

/-- The tables keep their fixed sizes and the counters their width (R2, R10, R25, R40, R142, R146), and no
pass is left over between two commands, which is the model's own agenda (log 16). The entries and the
places of the Inbound List never exceed its 16 (R90, R110). -/
def Obligations.TablesKeepTheirSizes : Prop :=
  ∀ (s t : State), step s = .next t →
    (s.Sized → t.Sized) ∧ (s.b.PlacesFit → t.b.PlacesFit)

/-- The machine right after power-on meets every one of these invariants. -/
def Obligations.ResetMeetsInvariants : Prop :=
  State.reset.b.UniqueIds ∧ State.reset.b.BidsDistinct ∧ State.reset.b.BidsFree ∧
    State.reset.LawOfBinding ∧ State.reset.b.ti.Ordered ∧
    State.reset.HoldsOnce ∧ State.reset.b.fu.Consistent ∧ State.reset.b.StationsSound ∧
    State.reset.MovesSound ∧ State.reset.b.SourcesNamed ∧ State.reset.b.CallsMatch ∧
    State.reset.BindingsAgree ∧ State.reset.Sized ∧ State.reset.b.PlacesFit
end

