-- ==== Sys2Proof/Laws/State.lean ====
section
/-! SUPPORT. One lemma per field per update of the state, each true by definition, so that no later
proof unfolds a record update. -/
namespace Sys2Proof.Machine
variable (b : Blocks)


/-! ### modRoster -/

@[simp] theorem Blocks.modRoster_segments (f : List (Option Vehicle) → List (Option Vehicle)) :
    (b.modRoster f).zc.segments = b.zc.segments := rfl
@[simp] theorem Blocks.modRoster_discarded (f : List (Option Vehicle) → List (Option Vehicle)) :
    (b.modRoster f).zc.discarded = b.zc.discarded := rfl
@[simp] theorem Blocks.modRoster_roster (f : List (Option Vehicle) → List (Option Vehicle)) :
    (b.modRoster f).zc.roster = f b.zc.roster := rfl
@[simp] theorem Blocks.modRoster_inbound (f : List (Option Vehicle) → List (Option Vehicle)) :
    (b.modRoster f).zc.inbound = b.zc.inbound := rfl
@[simp] theorem Blocks.modRoster_census (f : List (Option Vehicle) → List (Option Vehicle)) :
    (b.modRoster f).zc.census = b.zc.census := rfl
@[simp] theorem Blocks.modRoster_si (f : List (Option Vehicle) → List (Option Vehicle)) :
    (b.modRoster f).si = b.si := rfl
@[simp] theorem Blocks.modRoster_mm (f : List (Option Vehicle) → List (Option Vehicle)) :
    (b.modRoster f).mm = b.mm := rfl
@[simp] theorem Blocks.modRoster_du (f : List (Option Vehicle) → List (Option Vehicle)) :
    (b.modRoster f).du = b.du := rfl
@[simp] theorem Blocks.modRoster_pd (f : List (Option Vehicle) → List (Option Vehicle)) :
    (b.modRoster f).pd = b.pd := rfl
@[simp] theorem Blocks.modRoster_ti (f : List (Option Vehicle) → List (Option Vehicle)) :
    (b.modRoster f).ti = b.ti := rfl
@[simp] theorem Blocks.modRoster_fu (f : List (Option Vehicle) → List (Option Vehicle)) :
    (b.modRoster f).fu = b.fu := rfl
@[simp] theorem Blocks.modRoster_sp (f : List (Option Vehicle) → List (Option Vehicle)) :
    (b.modRoster f).sp = b.sp := rfl
@[simp] theorem Blocks.modRoster_out (f : List (Option Vehicle) → List (Option Vehicle)) :
    (b.modRoster f).out = b.out := rfl
@[simp] theorem Blocks.modRoster_agenda (f : List (Option Vehicle) → List (Option Vehicle)) :
    (b.modRoster f).agenda = b.agenda := rfl
@[simp] theorem Blocks.modRoster_spoiled (f : List (Option Vehicle) → List (Option Vehicle)) :
    (b.modRoster f).spoiled = b.spoiled := rfl
@[simp] theorem Blocks.modRoster_free (f : List (Option Vehicle) → List (Option Vehicle)) :
    (b.modRoster f).free = b.free := rfl

/-! ### modInbound -/

@[simp] theorem Blocks.modInbound_segments (f : List Inbound → List Inbound) :
    (b.modInbound f).zc.segments = b.zc.segments := rfl
@[simp] theorem Blocks.modInbound_discarded (f : List Inbound → List Inbound) :
    (b.modInbound f).zc.discarded = b.zc.discarded := rfl
@[simp] theorem Blocks.modInbound_roster (f : List Inbound → List Inbound) :
    (b.modInbound f).zc.roster = b.zc.roster := rfl
@[simp] theorem Blocks.modInbound_inbound (f : List Inbound → List Inbound) :
    (b.modInbound f).zc.inbound = f b.zc.inbound := rfl
@[simp] theorem Blocks.modInbound_census (f : List Inbound → List Inbound) :
    (b.modInbound f).zc.census = b.zc.census := rfl
@[simp] theorem Blocks.modInbound_si (f : List Inbound → List Inbound) :
    (b.modInbound f).si = b.si := rfl
@[simp] theorem Blocks.modInbound_mm (f : List Inbound → List Inbound) :
    (b.modInbound f).mm = b.mm := rfl
@[simp] theorem Blocks.modInbound_du (f : List Inbound → List Inbound) :
    (b.modInbound f).du = b.du := rfl
@[simp] theorem Blocks.modInbound_pd (f : List Inbound → List Inbound) :
    (b.modInbound f).pd = b.pd := rfl
@[simp] theorem Blocks.modInbound_ti (f : List Inbound → List Inbound) :
    (b.modInbound f).ti = b.ti := rfl
@[simp] theorem Blocks.modInbound_fu (f : List Inbound → List Inbound) :
    (b.modInbound f).fu = b.fu := rfl
@[simp] theorem Blocks.modInbound_sp (f : List Inbound → List Inbound) :
    (b.modInbound f).sp = b.sp := rfl
@[simp] theorem Blocks.modInbound_out (f : List Inbound → List Inbound) :
    (b.modInbound f).out = b.out := rfl
@[simp] theorem Blocks.modInbound_agenda (f : List Inbound → List Inbound) :
    (b.modInbound f).agenda = b.agenda := rfl
@[simp] theorem Blocks.modInbound_spoiled (f : List Inbound → List Inbound) :
    (b.modInbound f).spoiled = b.spoiled := rfl
@[simp] theorem Blocks.modInbound_free (f : List Inbound → List Inbound) :
    (b.modInbound f).free = b.free := rfl

/-! ### modSegments -/

@[simp] theorem Blocks.modSegments_segments (f : List Seg → List Seg) :
    (b.modSegments f).zc.segments = f b.zc.segments := rfl
@[simp] theorem Blocks.modSegments_discarded (f : List Seg → List Seg) :
    (b.modSegments f).zc.discarded = b.zc.discarded := rfl
@[simp] theorem Blocks.modSegments_roster (f : List Seg → List Seg) :
    (b.modSegments f).zc.roster = b.zc.roster := rfl
@[simp] theorem Blocks.modSegments_inbound (f : List Seg → List Seg) :
    (b.modSegments f).zc.inbound = b.zc.inbound := rfl
@[simp] theorem Blocks.modSegments_census (f : List Seg → List Seg) :
    (b.modSegments f).zc.census = b.zc.census := rfl
@[simp] theorem Blocks.modSegments_si (f : List Seg → List Seg) : (b.modSegments f).si = b.si := rfl
@[simp] theorem Blocks.modSegments_mm (f : List Seg → List Seg) : (b.modSegments f).mm = b.mm := rfl
@[simp] theorem Blocks.modSegments_du (f : List Seg → List Seg) : (b.modSegments f).du = b.du := rfl
@[simp] theorem Blocks.modSegments_pd (f : List Seg → List Seg) : (b.modSegments f).pd = b.pd := rfl
@[simp] theorem Blocks.modSegments_ti (f : List Seg → List Seg) : (b.modSegments f).ti = b.ti := rfl
@[simp] theorem Blocks.modSegments_fu (f : List Seg → List Seg) : (b.modSegments f).fu = b.fu := rfl
@[simp] theorem Blocks.modSegments_sp (f : List Seg → List Seg) : (b.modSegments f).sp = b.sp := rfl
@[simp] theorem Blocks.modSegments_out (f : List Seg → List Seg) :
    (b.modSegments f).out = b.out := rfl
@[simp] theorem Blocks.modSegments_agenda (f : List Seg → List Seg) :
    (b.modSegments f).agenda = b.agenda := rfl
@[simp] theorem Blocks.modSegments_spoiled (f : List Seg → List Seg) :
    (b.modSegments f).spoiled = b.spoiled := rfl
@[simp] theorem Blocks.modSegments_free (f : List Seg → List Seg) :
    (b.modSegments f).free = b.free := rfl

/-! ### modStations -/

@[simp] theorem Blocks.modStations_stations (f : List (Option Station) → List (Option Station)) :
    (b.modStations f).si.stations = f b.si.stations := rfl
@[simp] theorem Blocks.modStations_waitQueue (f : List (Option Station) → List (Option Station)) :
    (b.modStations f).si.waitQueue = b.si.waitQueue := rfl
@[simp] theorem Blocks.modStations_linkReset (f : List (Option Station) → List (Option Station)) :
    (b.modStations f).si.linkReset = b.si.linkReset := rfl
@[simp] theorem Blocks.modStations_zc (f : List (Option Station) → List (Option Station)) :
    (b.modStations f).zc = b.zc := rfl
@[simp] theorem Blocks.modStations_mm (f : List (Option Station) → List (Option Station)) :
    (b.modStations f).mm = b.mm := rfl
@[simp] theorem Blocks.modStations_du (f : List (Option Station) → List (Option Station)) :
    (b.modStations f).du = b.du := rfl
@[simp] theorem Blocks.modStations_pd (f : List (Option Station) → List (Option Station)) :
    (b.modStations f).pd = b.pd := rfl
@[simp] theorem Blocks.modStations_ti (f : List (Option Station) → List (Option Station)) :
    (b.modStations f).ti = b.ti := rfl
@[simp] theorem Blocks.modStations_fu (f : List (Option Station) → List (Option Station)) :
    (b.modStations f).fu = b.fu := rfl
@[simp] theorem Blocks.modStations_sp (f : List (Option Station) → List (Option Station)) :
    (b.modStations f).sp = b.sp := rfl
@[simp] theorem Blocks.modStations_out (f : List (Option Station) → List (Option Station)) :
    (b.modStations f).out = b.out := rfl
@[simp] theorem Blocks.modStations_agenda (f : List (Option Station) → List (Option Station)) :
    (b.modStations f).agenda = b.agenda := rfl
@[simp] theorem Blocks.modStations_spoiled (f : List (Option Station) → List (Option Station)) :
    (b.modStations f).spoiled = b.spoiled := rfl
@[simp] theorem Blocks.modStations_free (f : List (Option Station) → List (Option Station)) :
    (b.modStations f).free = b.free := rfl

/-! ### modWait -/

@[simp] theorem Blocks.modWait_stations (f : List Nat → List Nat) :
    (b.modWait f).si.stations = b.si.stations := rfl
@[simp] theorem Blocks.modWait_waitQueue (f : List Nat → List Nat) :
    (b.modWait f).si.waitQueue = f b.si.waitQueue := rfl
@[simp] theorem Blocks.modWait_linkReset (f : List Nat → List Nat) :
    (b.modWait f).si.linkReset = b.si.linkReset := rfl
@[simp] theorem Blocks.modWait_zc (f : List Nat → List Nat) : (b.modWait f).zc = b.zc := rfl
@[simp] theorem Blocks.modWait_mm (f : List Nat → List Nat) : (b.modWait f).mm = b.mm := rfl
@[simp] theorem Blocks.modWait_du (f : List Nat → List Nat) : (b.modWait f).du = b.du := rfl
@[simp] theorem Blocks.modWait_pd (f : List Nat → List Nat) : (b.modWait f).pd = b.pd := rfl
@[simp] theorem Blocks.modWait_ti (f : List Nat → List Nat) : (b.modWait f).ti = b.ti := rfl
@[simp] theorem Blocks.modWait_fu (f : List Nat → List Nat) : (b.modWait f).fu = b.fu := rfl
@[simp] theorem Blocks.modWait_sp (f : List Nat → List Nat) : (b.modWait f).sp = b.sp := rfl
@[simp] theorem Blocks.modWait_out (f : List Nat → List Nat) : (b.modWait f).out = b.out := rfl
@[simp] theorem Blocks.modWait_agenda (f : List Nat → List Nat) :
    (b.modWait f).agenda = b.agenda := rfl
@[simp] theorem Blocks.modWait_spoiled (f : List Nat → List Nat) :
    (b.modWait f).spoiled = b.spoiled := rfl
@[simp] theorem Blocks.modWait_free (f : List Nat → List Nat) : (b.modWait f).free = b.free := rfl

/-! ### modMoves -/

@[simp] theorem Blocks.modMoves_moves (f : List (Option Move) → List (Option Move)) :
    (b.modMoves f).mm.moves = f b.mm.moves := rfl
@[simp] theorem Blocks.modMoves_seqCounter (f : List (Option Move) → List (Option Move)) :
    (b.modMoves f).mm.seqCounter = b.mm.seqCounter := rfl
@[simp] theorem Blocks.modMoves_consignCounter (f : List (Option Move) → List (Option Move)) :
    (b.modMoves f).mm.consignCounter = b.mm.consignCounter := rfl
@[simp] theorem Blocks.modMoves_zc (f : List (Option Move) → List (Option Move)) :
    (b.modMoves f).zc = b.zc := rfl
@[simp] theorem Blocks.modMoves_si (f : List (Option Move) → List (Option Move)) :
    (b.modMoves f).si = b.si := rfl
@[simp] theorem Blocks.modMoves_du (f : List (Option Move) → List (Option Move)) :
    (b.modMoves f).du = b.du := rfl
@[simp] theorem Blocks.modMoves_pd (f : List (Option Move) → List (Option Move)) :
    (b.modMoves f).pd = b.pd := rfl
@[simp] theorem Blocks.modMoves_ti (f : List (Option Move) → List (Option Move)) :
    (b.modMoves f).ti = b.ti := rfl
@[simp] theorem Blocks.modMoves_fu (f : List (Option Move) → List (Option Move)) :
    (b.modMoves f).fu = b.fu := rfl
@[simp] theorem Blocks.modMoves_sp (f : List (Option Move) → List (Option Move)) :
    (b.modMoves f).sp = b.sp := rfl
@[simp] theorem Blocks.modMoves_out (f : List (Option Move) → List (Option Move)) :
    (b.modMoves f).out = b.out := rfl
@[simp] theorem Blocks.modMoves_agenda (f : List (Option Move) → List (Option Move)) :
    (b.modMoves f).agenda = b.agenda := rfl
@[simp] theorem Blocks.modMoves_spoiled (f : List (Option Move) → List (Option Move)) :
    (b.modMoves f).spoiled = b.spoiled := rfl
@[simp] theorem Blocks.modMoves_free (f : List (Option Move) → List (Option Move)) :
    (b.modMoves f).free = b.free := rfl

/-! ### modCalls -/

@[simp] theorem Blocks.modCalls_calls (f : List CallEntry → List CallEntry) :
    (b.modCalls f).du.calls = f b.du.calls := rfl
@[simp] theorem Blocks.modCalls_callCounter (f : List CallEntry → List CallEntry) :
    (b.modCalls f).du.callCounter = b.du.callCounter := rfl
@[simp] theorem Blocks.modCalls_bids (f : List CallEntry → List CallEntry) :
    (b.modCalls f).du.bids = b.du.bids := rfl
@[simp] theorem Blocks.modCalls_ask (f : List CallEntry → List CallEntry) :
    (b.modCalls f).du.ask = b.du.ask := rfl
@[simp] theorem Blocks.modCalls_askCounter (f : List CallEntry → List CallEntry) :
    (b.modCalls f).du.askCounter = b.du.askCounter := rfl
@[simp] theorem Blocks.modCalls_starve (f : List CallEntry → List CallEntry) :
    (b.modCalls f).du.starve = b.du.starve := rfl
@[simp] theorem Blocks.modCalls_zc (f : List CallEntry → List CallEntry) :
    (b.modCalls f).zc = b.zc := rfl
@[simp] theorem Blocks.modCalls_si (f : List CallEntry → List CallEntry) :
    (b.modCalls f).si = b.si := rfl
@[simp] theorem Blocks.modCalls_mm (f : List CallEntry → List CallEntry) :
    (b.modCalls f).mm = b.mm := rfl
@[simp] theorem Blocks.modCalls_pd (f : List CallEntry → List CallEntry) :
    (b.modCalls f).pd = b.pd := rfl
@[simp] theorem Blocks.modCalls_ti (f : List CallEntry → List CallEntry) :
    (b.modCalls f).ti = b.ti := rfl
@[simp] theorem Blocks.modCalls_fu (f : List CallEntry → List CallEntry) :
    (b.modCalls f).fu = b.fu := rfl
@[simp] theorem Blocks.modCalls_sp (f : List CallEntry → List CallEntry) :
    (b.modCalls f).sp = b.sp := rfl
@[simp] theorem Blocks.modCalls_out (f : List CallEntry → List CallEntry) :
    (b.modCalls f).out = b.out := rfl
@[simp] theorem Blocks.modCalls_agenda (f : List CallEntry → List CallEntry) :
    (b.modCalls f).agenda = b.agenda := rfl
@[simp] theorem Blocks.modCalls_spoiled (f : List CallEntry → List CallEntry) :
    (b.modCalls f).spoiled = b.spoiled := rfl
@[simp] theorem Blocks.modCalls_free (f : List CallEntry → List CallEntry) :
    (b.modCalls f).free = b.free := rfl

/-! ### modBids -/

@[simp] theorem Blocks.modBids_calls (f : List BidEntry → List BidEntry) :
    (b.modBids f).du.calls = b.du.calls := rfl
@[simp] theorem Blocks.modBids_callCounter (f : List BidEntry → List BidEntry) :
    (b.modBids f).du.callCounter = b.du.callCounter := rfl
@[simp] theorem Blocks.modBids_bids (f : List BidEntry → List BidEntry) :
    (b.modBids f).du.bids = f b.du.bids := rfl
@[simp] theorem Blocks.modBids_ask (f : List BidEntry → List BidEntry) :
    (b.modBids f).du.ask = b.du.ask := rfl
@[simp] theorem Blocks.modBids_askCounter (f : List BidEntry → List BidEntry) :
    (b.modBids f).du.askCounter = b.du.askCounter := rfl
@[simp] theorem Blocks.modBids_starve (f : List BidEntry → List BidEntry) :
    (b.modBids f).du.starve = b.du.starve := rfl
@[simp] theorem Blocks.modBids_zc (f : List BidEntry → List BidEntry) :
    (b.modBids f).zc = b.zc := rfl
@[simp] theorem Blocks.modBids_si (f : List BidEntry → List BidEntry) :
    (b.modBids f).si = b.si := rfl
@[simp] theorem Blocks.modBids_mm (f : List BidEntry → List BidEntry) :
    (b.modBids f).mm = b.mm := rfl
@[simp] theorem Blocks.modBids_pd (f : List BidEntry → List BidEntry) :
    (b.modBids f).pd = b.pd := rfl
@[simp] theorem Blocks.modBids_ti (f : List BidEntry → List BidEntry) :
    (b.modBids f).ti = b.ti := rfl
@[simp] theorem Blocks.modBids_fu (f : List BidEntry → List BidEntry) :
    (b.modBids f).fu = b.fu := rfl
@[simp] theorem Blocks.modBids_sp (f : List BidEntry → List BidEntry) :
    (b.modBids f).sp = b.sp := rfl
@[simp] theorem Blocks.modBids_out (f : List BidEntry → List BidEntry) :
    (b.modBids f).out = b.out := rfl
@[simp] theorem Blocks.modBids_agenda (f : List BidEntry → List BidEntry) :
    (b.modBids f).agenda = b.agenda := rfl
@[simp] theorem Blocks.modBids_spoiled (f : List BidEntry → List BidEntry) :
    (b.modBids f).spoiled = b.spoiled := rfl
@[simp] theorem Blocks.modBids_free (f : List BidEntry → List BidEntry) :
    (b.modBids f).free = b.free := rfl

/-! ### modTI -/

@[simp] theorem Blocks.modTI_ti (f : TI → TI) : (b.modTI f).ti = f b.ti := rfl
@[simp] theorem Blocks.modTI_zc (f : TI → TI) : (b.modTI f).zc = b.zc := rfl
@[simp] theorem Blocks.modTI_si (f : TI → TI) : (b.modTI f).si = b.si := rfl
@[simp] theorem Blocks.modTI_mm (f : TI → TI) : (b.modTI f).mm = b.mm := rfl
@[simp] theorem Blocks.modTI_du (f : TI → TI) : (b.modTI f).du = b.du := rfl
@[simp] theorem Blocks.modTI_pd (f : TI → TI) : (b.modTI f).pd = b.pd := rfl
@[simp] theorem Blocks.modTI_fu (f : TI → TI) : (b.modTI f).fu = b.fu := rfl
@[simp] theorem Blocks.modTI_sp (f : TI → TI) : (b.modTI f).sp = b.sp := rfl
@[simp] theorem Blocks.modTI_out (f : TI → TI) : (b.modTI f).out = b.out := rfl
@[simp] theorem Blocks.modTI_agenda (f : TI → TI) : (b.modTI f).agenda = b.agenda := rfl
@[simp] theorem Blocks.modTI_spoiled (f : TI → TI) : (b.modTI f).spoiled = b.spoiled := rfl
@[simp] theorem Blocks.modTI_free (f : TI → TI) : (b.modTI f).free = b.free := rfl

/-! ### modDU -/

@[simp] theorem Blocks.modDU_du (f : DU → DU) : (b.modDU f).du = f b.du := rfl
@[simp] theorem Blocks.modDU_zc (f : DU → DU) : (b.modDU f).zc = b.zc := rfl
@[simp] theorem Blocks.modDU_si (f : DU → DU) : (b.modDU f).si = b.si := rfl
@[simp] theorem Blocks.modDU_mm (f : DU → DU) : (b.modDU f).mm = b.mm := rfl
@[simp] theorem Blocks.modDU_pd (f : DU → DU) : (b.modDU f).pd = b.pd := rfl
@[simp] theorem Blocks.modDU_ti (f : DU → DU) : (b.modDU f).ti = b.ti := rfl
@[simp] theorem Blocks.modDU_fu (f : DU → DU) : (b.modDU f).fu = b.fu := rfl
@[simp] theorem Blocks.modDU_sp (f : DU → DU) : (b.modDU f).sp = b.sp := rfl
@[simp] theorem Blocks.modDU_out (f : DU → DU) : (b.modDU f).out = b.out := rfl
@[simp] theorem Blocks.modDU_agenda (f : DU → DU) : (b.modDU f).agenda = b.agenda := rfl
@[simp] theorem Blocks.modDU_spoiled (f : DU → DU) : (b.modDU f).spoiled = b.spoiled := rfl
@[simp] theorem Blocks.modDU_free (f : DU → DU) : (b.modDU f).free = b.free := rfl

/-! ### modFU -/

@[simp] theorem Blocks.modFU_fu (f : FU → FU) : (b.modFU f).fu = f b.fu := rfl
@[simp] theorem Blocks.modFU_zc (f : FU → FU) : (b.modFU f).zc = b.zc := rfl
@[simp] theorem Blocks.modFU_si (f : FU → FU) : (b.modFU f).si = b.si := rfl
@[simp] theorem Blocks.modFU_mm (f : FU → FU) : (b.modFU f).mm = b.mm := rfl
@[simp] theorem Blocks.modFU_du (f : FU → FU) : (b.modFU f).du = b.du := rfl
@[simp] theorem Blocks.modFU_pd (f : FU → FU) : (b.modFU f).pd = b.pd := rfl
@[simp] theorem Blocks.modFU_ti (f : FU → FU) : (b.modFU f).ti = b.ti := rfl
@[simp] theorem Blocks.modFU_sp (f : FU → FU) : (b.modFU f).sp = b.sp := rfl
@[simp] theorem Blocks.modFU_out (f : FU → FU) : (b.modFU f).out = b.out := rfl
@[simp] theorem Blocks.modFU_agenda (f : FU → FU) : (b.modFU f).agenda = b.agenda := rfl
@[simp] theorem Blocks.modFU_spoiled (f : FU → FU) : (b.modFU f).spoiled = b.spoiled := rfl
@[simp] theorem Blocks.modFU_free (f : FU → FU) : (b.modFU f).free = b.free := rfl

/-! ### modSP -/

@[simp] theorem Blocks.modSP_sp (f : SP → SP) : (b.modSP f).sp = f b.sp := rfl
@[simp] theorem Blocks.modSP_zc (f : SP → SP) : (b.modSP f).zc = b.zc := rfl
@[simp] theorem Blocks.modSP_si (f : SP → SP) : (b.modSP f).si = b.si := rfl
@[simp] theorem Blocks.modSP_mm (f : SP → SP) : (b.modSP f).mm = b.mm := rfl
@[simp] theorem Blocks.modSP_du (f : SP → SP) : (b.modSP f).du = b.du := rfl
@[simp] theorem Blocks.modSP_pd (f : SP → SP) : (b.modSP f).pd = b.pd := rfl
@[simp] theorem Blocks.modSP_ti (f : SP → SP) : (b.modSP f).ti = b.ti := rfl
@[simp] theorem Blocks.modSP_fu (f : SP → SP) : (b.modSP f).fu = b.fu := rfl
@[simp] theorem Blocks.modSP_out (f : SP → SP) : (b.modSP f).out = b.out := rfl
@[simp] theorem Blocks.modSP_agenda (f : SP → SP) : (b.modSP f).agenda = b.agenda := rfl
@[simp] theorem Blocks.modSP_spoiled (f : SP → SP) : (b.modSP f).spoiled = b.spoiled := rfl
@[simp] theorem Blocks.modSP_free (f : SP → SP) : (b.modSP f).free = b.free := rfl

/-! ### modOut -/

@[simp] theorem Blocks.modOut_out (f : Out → Out) : (b.modOut f).out = f b.out := rfl
@[simp] theorem Blocks.modOut_zc (f : Out → Out) : (b.modOut f).zc = b.zc := rfl
@[simp] theorem Blocks.modOut_si (f : Out → Out) : (b.modOut f).si = b.si := rfl
@[simp] theorem Blocks.modOut_mm (f : Out → Out) : (b.modOut f).mm = b.mm := rfl
@[simp] theorem Blocks.modOut_du (f : Out → Out) : (b.modOut f).du = b.du := rfl
@[simp] theorem Blocks.modOut_pd (f : Out → Out) : (b.modOut f).pd = b.pd := rfl
@[simp] theorem Blocks.modOut_ti (f : Out → Out) : (b.modOut f).ti = b.ti := rfl
@[simp] theorem Blocks.modOut_fu (f : Out → Out) : (b.modOut f).fu = b.fu := rfl
@[simp] theorem Blocks.modOut_sp (f : Out → Out) : (b.modOut f).sp = b.sp := rfl
@[simp] theorem Blocks.modOut_agenda (f : Out → Out) : (b.modOut f).agenda = b.agenda := rfl
@[simp] theorem Blocks.modOut_spoiled (f : Out → Out) : (b.modOut f).spoiled = b.spoiled := rfl
@[simp] theorem Blocks.modOut_free (f : Out → Out) : (b.modOut f).free = b.free := rfl

/-! ### modAgenda -/

@[simp] theorem Blocks.modAgenda_agenda (f : Agenda → Agenda) :
    (b.modAgenda f).agenda = f b.agenda := rfl
@[simp] theorem Blocks.modAgenda_zc (f : Agenda → Agenda) : (b.modAgenda f).zc = b.zc := rfl
@[simp] theorem Blocks.modAgenda_si (f : Agenda → Agenda) : (b.modAgenda f).si = b.si := rfl
@[simp] theorem Blocks.modAgenda_mm (f : Agenda → Agenda) : (b.modAgenda f).mm = b.mm := rfl
@[simp] theorem Blocks.modAgenda_du (f : Agenda → Agenda) : (b.modAgenda f).du = b.du := rfl
@[simp] theorem Blocks.modAgenda_pd (f : Agenda → Agenda) : (b.modAgenda f).pd = b.pd := rfl
@[simp] theorem Blocks.modAgenda_ti (f : Agenda → Agenda) : (b.modAgenda f).ti = b.ti := rfl
@[simp] theorem Blocks.modAgenda_fu (f : Agenda → Agenda) : (b.modAgenda f).fu = b.fu := rfl
@[simp] theorem Blocks.modAgenda_sp (f : Agenda → Agenda) : (b.modAgenda f).sp = b.sp := rfl
@[simp] theorem Blocks.modAgenda_out (f : Agenda → Agenda) : (b.modAgenda f).out = b.out := rfl
@[simp] theorem Blocks.modAgenda_spoiled (f : Agenda → Agenda) :
    (b.modAgenda f).spoiled = b.spoiled := rfl
@[simp] theorem Blocks.modAgenda_free (f : Agenda → Agenda) : (b.modAgenda f).free = b.free := rfl

/-! ### modPeer -/

@[simp] theorem Blocks.modPeer_zc (k : Nat) (f : Peer → Peer) : (b.modPeer k f).zc = b.zc := rfl
@[simp] theorem Blocks.modPeer_si (k : Nat) (f : Peer → Peer) : (b.modPeer k f).si = b.si := rfl
@[simp] theorem Blocks.modPeer_mm (k : Nat) (f : Peer → Peer) : (b.modPeer k f).mm = b.mm := rfl
@[simp] theorem Blocks.modPeer_du (k : Nat) (f : Peer → Peer) : (b.modPeer k f).du = b.du := rfl
@[simp] theorem Blocks.modPeer_ti (k : Nat) (f : Peer → Peer) : (b.modPeer k f).ti = b.ti := rfl
@[simp] theorem Blocks.modPeer_fu (k : Nat) (f : Peer → Peer) : (b.modPeer k f).fu = b.fu := rfl
@[simp] theorem Blocks.modPeer_sp (k : Nat) (f : Peer → Peer) : (b.modPeer k f).sp = b.sp := rfl
@[simp] theorem Blocks.modPeer_out (k : Nat) (f : Peer → Peer) : (b.modPeer k f).out = b.out := rfl
@[simp] theorem Blocks.modPeer_agenda (k : Nat) (f : Peer → Peer) :
    (b.modPeer k f).agenda = b.agenda := rfl
@[simp] theorem Blocks.modPeer_spoiled (k : Nat) (f : Peer → Peer) :
    (b.modPeer k f).spoiled = b.spoiled := rfl
@[simp] theorem Blocks.modPeer_free (k : Nat) (f : Peer → Peer) :
    (b.modPeer k f).free = b.free := rfl

/-! ### quiet -/

@[simp] theorem Blocks.quiet_out : b.quiet.out = Out.none := rfl
@[simp] theorem Blocks.quiet_zc  : (b.quiet).zc = b.zc := rfl
@[simp] theorem Blocks.quiet_si  : (b.quiet).si = b.si := rfl
@[simp] theorem Blocks.quiet_mm  : (b.quiet).mm = b.mm := rfl
@[simp] theorem Blocks.quiet_du  : (b.quiet).du = b.du := rfl
@[simp] theorem Blocks.quiet_pd  : (b.quiet).pd = b.pd := rfl
@[simp] theorem Blocks.quiet_ti  : (b.quiet).ti = b.ti := rfl
@[simp] theorem Blocks.quiet_fu  : (b.quiet).fu = b.fu := rfl
@[simp] theorem Blocks.quiet_sp  : (b.quiet).sp = b.sp := rfl
@[simp] theorem Blocks.quiet_agenda  : (b.quiet).agenda = b.agenda := rfl
@[simp] theorem Blocks.quiet_spoiled  : (b.quiet).spoiled = b.spoiled := rfl
@[simp] theorem Blocks.quiet_free  : (b.quiet).free = b.free := rfl

/-! ### wantBind -/

@[simp] theorem Blocks.wantBind_agenda : b.wantBind.agenda = { b.agenda with bind := true } := rfl
@[simp] theorem Blocks.wantBind_zc  : (b.wantBind).zc = b.zc := rfl
@[simp] theorem Blocks.wantBind_si  : (b.wantBind).si = b.si := rfl
@[simp] theorem Blocks.wantBind_mm  : (b.wantBind).mm = b.mm := rfl
@[simp] theorem Blocks.wantBind_du  : (b.wantBind).du = b.du := rfl
@[simp] theorem Blocks.wantBind_pd  : (b.wantBind).pd = b.pd := rfl
@[simp] theorem Blocks.wantBind_ti  : (b.wantBind).ti = b.ti := rfl
@[simp] theorem Blocks.wantBind_fu  : (b.wantBind).fu = b.fu := rfl
@[simp] theorem Blocks.wantBind_sp  : (b.wantBind).sp = b.sp := rfl
@[simp] theorem Blocks.wantBind_out  : (b.wantBind).out = b.out := rfl
@[simp] theorem Blocks.wantBind_spoiled  : (b.wantBind).spoiled = b.spoiled := rfl
@[simp] theorem Blocks.wantBind_free  : (b.wantBind).free = b.free := rfl

/-! ### wantCall -/

@[simp] theorem Blocks.wantCall_agenda : b.wantCall.agenda = { b.agenda with call := true } := rfl
@[simp] theorem Blocks.wantCall_zc  : (b.wantCall).zc = b.zc := rfl
@[simp] theorem Blocks.wantCall_si  : (b.wantCall).si = b.si := rfl
@[simp] theorem Blocks.wantCall_mm  : (b.wantCall).mm = b.mm := rfl
@[simp] theorem Blocks.wantCall_du  : (b.wantCall).du = b.du := rfl
@[simp] theorem Blocks.wantCall_pd  : (b.wantCall).pd = b.pd := rfl
@[simp] theorem Blocks.wantCall_ti  : (b.wantCall).ti = b.ti := rfl
@[simp] theorem Blocks.wantCall_fu  : (b.wantCall).fu = b.fu := rfl
@[simp] theorem Blocks.wantCall_sp  : (b.wantCall).sp = b.sp := rfl
@[simp] theorem Blocks.wantCall_out  : (b.wantCall).out = b.out := rfl
@[simp] theorem Blocks.wantCall_spoiled  : (b.wantCall).spoiled = b.spoiled := rfl
@[simp] theorem Blocks.wantCall_free  : (b.wantCall).free = b.free := rfl

/-! ### wantPark -/

@[simp] theorem Blocks.wantPark_agenda : b.wantPark.agenda = { b.agenda with park := true } := rfl
@[simp] theorem Blocks.wantPark_zc  : (b.wantPark).zc = b.zc := rfl
@[simp] theorem Blocks.wantPark_si  : (b.wantPark).si = b.si := rfl
@[simp] theorem Blocks.wantPark_mm  : (b.wantPark).mm = b.mm := rfl
@[simp] theorem Blocks.wantPark_du  : (b.wantPark).du = b.du := rfl
@[simp] theorem Blocks.wantPark_pd  : (b.wantPark).pd = b.pd := rfl
@[simp] theorem Blocks.wantPark_ti  : (b.wantPark).ti = b.ti := rfl
@[simp] theorem Blocks.wantPark_fu  : (b.wantPark).fu = b.fu := rfl
@[simp] theorem Blocks.wantPark_sp  : (b.wantPark).sp = b.sp := rfl
@[simp] theorem Blocks.wantPark_out  : (b.wantPark).out = b.out := rfl
@[simp] theorem Blocks.wantPark_spoiled  : (b.wantPark).spoiled = b.spoiled := rfl
@[simp] theorem Blocks.wantPark_free  : (b.wantPark).free = b.free := rfl

/-! ### wantFollow -/

@[simp] theorem Blocks.wantFollow_agenda : b.wantFollow.agenda = { b.agenda with follow := true } := rfl
@[simp] theorem Blocks.wantFollow_zc  : (b.wantFollow).zc = b.zc := rfl
@[simp] theorem Blocks.wantFollow_si  : (b.wantFollow).si = b.si := rfl
@[simp] theorem Blocks.wantFollow_mm  : (b.wantFollow).mm = b.mm := rfl
@[simp] theorem Blocks.wantFollow_du  : (b.wantFollow).du = b.du := rfl
@[simp] theorem Blocks.wantFollow_pd  : (b.wantFollow).pd = b.pd := rfl
@[simp] theorem Blocks.wantFollow_ti  : (b.wantFollow).ti = b.ti := rfl
@[simp] theorem Blocks.wantFollow_fu  : (b.wantFollow).fu = b.fu := rfl
@[simp] theorem Blocks.wantFollow_sp  : (b.wantFollow).sp = b.sp := rfl
@[simp] theorem Blocks.wantFollow_out  : (b.wantFollow).out = b.out := rfl
@[simp] theorem Blocks.wantFollow_spoiled  : (b.wantFollow).spoiled = b.spoiled := rfl
@[simp] theorem Blocks.wantFollow_free  : (b.wantFollow).free = b.free := rfl

/-! ### wantPass -/

@[simp] theorem Blocks.wantPass_agenda (id : Nat) : (b.wantPass id).agenda =
    { b.agenda with released := b.agenda.released ++ [id] } := rfl
@[simp] theorem Blocks.wantPass_zc (id : Nat) : (b.wantPass id).zc = b.zc := rfl
@[simp] theorem Blocks.wantPass_si (id : Nat) : (b.wantPass id).si = b.si := rfl
@[simp] theorem Blocks.wantPass_mm (id : Nat) : (b.wantPass id).mm = b.mm := rfl
@[simp] theorem Blocks.wantPass_du (id : Nat) : (b.wantPass id).du = b.du := rfl
@[simp] theorem Blocks.wantPass_pd (id : Nat) : (b.wantPass id).pd = b.pd := rfl
@[simp] theorem Blocks.wantPass_ti (id : Nat) : (b.wantPass id).ti = b.ti := rfl
@[simp] theorem Blocks.wantPass_fu (id : Nat) : (b.wantPass id).fu = b.fu := rfl
@[simp] theorem Blocks.wantPass_sp (id : Nat) : (b.wantPass id).sp = b.sp := rfl
@[simp] theorem Blocks.wantPass_out (id : Nat) : (b.wantPass id).out = b.out := rfl
@[simp] theorem Blocks.wantPass_spoiled (id : Nat) : (b.wantPass id).spoiled = b.spoiled := rfl
@[simp] theorem Blocks.wantPass_free (id : Nat) : (b.wantPass id).free = b.free := rfl

/-! ### emitZone -/

@[simp] theorem Blocks.emitZone_out (m : ZoneMsg) : (b.emitZone m).out =
    { b.out with zone := b.out.zone ++ [m] } := rfl
@[simp] theorem Blocks.emitZone_zc (m : ZoneMsg) : (b.emitZone m).zc = b.zc := rfl
@[simp] theorem Blocks.emitZone_si (m : ZoneMsg) : (b.emitZone m).si = b.si := rfl
@[simp] theorem Blocks.emitZone_mm (m : ZoneMsg) : (b.emitZone m).mm = b.mm := rfl
@[simp] theorem Blocks.emitZone_du (m : ZoneMsg) : (b.emitZone m).du = b.du := rfl
@[simp] theorem Blocks.emitZone_pd (m : ZoneMsg) : (b.emitZone m).pd = b.pd := rfl
@[simp] theorem Blocks.emitZone_ti (m : ZoneMsg) : (b.emitZone m).ti = b.ti := rfl
@[simp] theorem Blocks.emitZone_fu (m : ZoneMsg) : (b.emitZone m).fu = b.fu := rfl
@[simp] theorem Blocks.emitZone_sp (m : ZoneMsg) : (b.emitZone m).sp = b.sp := rfl
@[simp] theorem Blocks.emitZone_agenda (m : ZoneMsg) : (b.emitZone m).agenda = b.agenda := rfl
@[simp] theorem Blocks.emitZone_spoiled (m : ZoneMsg) : (b.emitZone m).spoiled = b.spoiled := rfl
@[simp] theorem Blocks.emitZone_free (m : ZoneMsg) : (b.emitZone m).free = b.free := rfl

/-! ### emitStation -/

@[simp] theorem Blocks.emitStation_out (m : StationMsg) : (b.emitStation m).out =
    { b.out with station := b.out.station ++ [m] } := rfl
@[simp] theorem Blocks.emitStation_zc (m : StationMsg) : (b.emitStation m).zc = b.zc := rfl
@[simp] theorem Blocks.emitStation_si (m : StationMsg) : (b.emitStation m).si = b.si := rfl
@[simp] theorem Blocks.emitStation_mm (m : StationMsg) : (b.emitStation m).mm = b.mm := rfl
@[simp] theorem Blocks.emitStation_du (m : StationMsg) : (b.emitStation m).du = b.du := rfl
@[simp] theorem Blocks.emitStation_pd (m : StationMsg) : (b.emitStation m).pd = b.pd := rfl
@[simp] theorem Blocks.emitStation_ti (m : StationMsg) : (b.emitStation m).ti = b.ti := rfl
@[simp] theorem Blocks.emitStation_fu (m : StationMsg) : (b.emitStation m).fu = b.fu := rfl
@[simp] theorem Blocks.emitStation_sp (m : StationMsg) : (b.emitStation m).sp = b.sp := rfl
@[simp] theorem Blocks.emitStation_agenda (m : StationMsg) :
    (b.emitStation m).agenda = b.agenda := rfl
@[simp] theorem Blocks.emitStation_spoiled (m : StationMsg) :
    (b.emitStation m).spoiled = b.spoiled := rfl
@[simp] theorem Blocks.emitStation_free (m : StationMsg) : (b.emitStation m).free = b.free := rfl

/-! ### reply -/

@[simp] theorem Blocks.reply_out (m : Reply) : (b.reply m).out =
    { b.out with service := some m } := rfl
@[simp] theorem Blocks.reply_zc (m : Reply) : (b.reply m).zc = b.zc := rfl
@[simp] theorem Blocks.reply_si (m : Reply) : (b.reply m).si = b.si := rfl
@[simp] theorem Blocks.reply_mm (m : Reply) : (b.reply m).mm = b.mm := rfl
@[simp] theorem Blocks.reply_du (m : Reply) : (b.reply m).du = b.du := rfl
@[simp] theorem Blocks.reply_pd (m : Reply) : (b.reply m).pd = b.pd := rfl
@[simp] theorem Blocks.reply_ti (m : Reply) : (b.reply m).ti = b.ti := rfl
@[simp] theorem Blocks.reply_fu (m : Reply) : (b.reply m).fu = b.fu := rfl
@[simp] theorem Blocks.reply_sp (m : Reply) : (b.reply m).sp = b.sp := rfl
@[simp] theorem Blocks.reply_agenda (m : Reply) : (b.reply m).agenda = b.agenda := rfl
@[simp] theorem Blocks.reply_spoiled (m : Reply) : (b.reply m).spoiled = b.spoiled := rfl
@[simp] theorem Blocks.reply_free (m : Reply) : (b.reply m).free = b.free := rfl

/-! ### modVehicle -/

@[simp] theorem Blocks.modVehicle_segments (id : Nat) (f : Vehicle → Vehicle) :
    (b.modVehicle id f).zc.segments = b.zc.segments := rfl
@[simp] theorem Blocks.modVehicle_discarded (id : Nat) (f : Vehicle → Vehicle) :
    (b.modVehicle id f).zc.discarded = b.zc.discarded := rfl
@[simp] theorem Blocks.modVehicle_roster (id : Nat) (f : Vehicle → Vehicle) :
    (b.modVehicle id f).zc.roster = updWhere (fun v => v.id == id) f b.zc.roster := rfl
@[simp] theorem Blocks.modVehicle_inbound (id : Nat) (f : Vehicle → Vehicle) :
    (b.modVehicle id f).zc.inbound = b.zc.inbound := rfl
@[simp] theorem Blocks.modVehicle_census (id : Nat) (f : Vehicle → Vehicle) :
    (b.modVehicle id f).zc.census = b.zc.census := rfl
@[simp] theorem Blocks.modVehicle_si (id : Nat) (f : Vehicle → Vehicle) :
    (b.modVehicle id f).si = b.si := rfl
@[simp] theorem Blocks.modVehicle_mm (id : Nat) (f : Vehicle → Vehicle) :
    (b.modVehicle id f).mm = b.mm := rfl
@[simp] theorem Blocks.modVehicle_du (id : Nat) (f : Vehicle → Vehicle) :
    (b.modVehicle id f).du = b.du := rfl
@[simp] theorem Blocks.modVehicle_pd (id : Nat) (f : Vehicle → Vehicle) :
    (b.modVehicle id f).pd = b.pd := rfl
@[simp] theorem Blocks.modVehicle_ti (id : Nat) (f : Vehicle → Vehicle) :
    (b.modVehicle id f).ti = b.ti := rfl
@[simp] theorem Blocks.modVehicle_fu (id : Nat) (f : Vehicle → Vehicle) :
    (b.modVehicle id f).fu = b.fu := rfl
@[simp] theorem Blocks.modVehicle_sp (id : Nat) (f : Vehicle → Vehicle) :
    (b.modVehicle id f).sp = b.sp := rfl
@[simp] theorem Blocks.modVehicle_out (id : Nat) (f : Vehicle → Vehicle) :
    (b.modVehicle id f).out = b.out := rfl
@[simp] theorem Blocks.modVehicle_agenda (id : Nat) (f : Vehicle → Vehicle) :
    (b.modVehicle id f).agenda = b.agenda := rfl
@[simp] theorem Blocks.modVehicle_spoiled (id : Nat) (f : Vehicle → Vehicle) :
    (b.modVehicle id f).spoiled = b.spoiled := rfl
@[simp] theorem Blocks.modVehicle_free (id : Nat) (f : Vehicle → Vehicle) :
    (b.modVehicle id f).free = b.free := rfl

/-! ### modMove -/

@[simp] theorem Blocks.modMove_moves (id : Tag) (f : Move → Move) :
    (b.modMove id f).mm.moves = updWhere (fun m => m.tag == id) f b.mm.moves := rfl
@[simp] theorem Blocks.modMove_seqCounter (id : Tag) (f : Move → Move) :
    (b.modMove id f).mm.seqCounter = b.mm.seqCounter := rfl
@[simp] theorem Blocks.modMove_consignCounter (id : Tag) (f : Move → Move) :
    (b.modMove id f).mm.consignCounter = b.mm.consignCounter := rfl
@[simp] theorem Blocks.modMove_zc (id : Tag) (f : Move → Move) : (b.modMove id f).zc = b.zc := rfl
@[simp] theorem Blocks.modMove_si (id : Tag) (f : Move → Move) : (b.modMove id f).si = b.si := rfl
@[simp] theorem Blocks.modMove_du (id : Tag) (f : Move → Move) : (b.modMove id f).du = b.du := rfl
@[simp] theorem Blocks.modMove_pd (id : Tag) (f : Move → Move) : (b.modMove id f).pd = b.pd := rfl
@[simp] theorem Blocks.modMove_ti (id : Tag) (f : Move → Move) : (b.modMove id f).ti = b.ti := rfl
@[simp] theorem Blocks.modMove_fu (id : Tag) (f : Move → Move) : (b.modMove id f).fu = b.fu := rfl
@[simp] theorem Blocks.modMove_sp (id : Tag) (f : Move → Move) : (b.modMove id f).sp = b.sp := rfl
@[simp] theorem Blocks.modMove_out (id : Tag) (f : Move → Move) :
    (b.modMove id f).out = b.out := rfl
@[simp] theorem Blocks.modMove_agenda (id : Tag) (f : Move → Move) :
    (b.modMove id f).agenda = b.agenda := rfl
@[simp] theorem Blocks.modMove_spoiled (id : Tag) (f : Move → Move) :
    (b.modMove id f).spoiled = b.spoiled := rfl
@[simp] theorem Blocks.modMove_free (id : Tag) (f : Move → Move) :
    (b.modMove id f).free = b.free := rfl

/-! ### modStation -/

@[simp] theorem Blocks.modStation_stations (id : Nat) (f : Station → Station) :
    (b.modStation id f).si.stations = updWhere (fun s => s.number == id) f b.si.stations := rfl
@[simp] theorem Blocks.modStation_waitQueue (id : Nat) (f : Station → Station) :
    (b.modStation id f).si.waitQueue = b.si.waitQueue := rfl
@[simp] theorem Blocks.modStation_linkReset (id : Nat) (f : Station → Station) :
    (b.modStation id f).si.linkReset = b.si.linkReset := rfl
@[simp] theorem Blocks.modStation_zc (id : Nat) (f : Station → Station) :
    (b.modStation id f).zc = b.zc := rfl
@[simp] theorem Blocks.modStation_mm (id : Nat) (f : Station → Station) :
    (b.modStation id f).mm = b.mm := rfl
@[simp] theorem Blocks.modStation_du (id : Nat) (f : Station → Station) :
    (b.modStation id f).du = b.du := rfl
@[simp] theorem Blocks.modStation_pd (id : Nat) (f : Station → Station) :
    (b.modStation id f).pd = b.pd := rfl
@[simp] theorem Blocks.modStation_ti (id : Nat) (f : Station → Station) :
    (b.modStation id f).ti = b.ti := rfl
@[simp] theorem Blocks.modStation_fu (id : Nat) (f : Station → Station) :
    (b.modStation id f).fu = b.fu := rfl
@[simp] theorem Blocks.modStation_sp (id : Nat) (f : Station → Station) :
    (b.modStation id f).sp = b.sp := rfl
@[simp] theorem Blocks.modStation_out (id : Nat) (f : Station → Station) :
    (b.modStation id f).out = b.out := rfl
@[simp] theorem Blocks.modStation_agenda (id : Nat) (f : Station → Station) :
    (b.modStation id f).agenda = b.agenda := rfl
@[simp] theorem Blocks.modStation_spoiled (id : Nat) (f : Station → Station) :
    (b.modStation id f).spoiled = b.spoiled := rfl
@[simp] theorem Blocks.modStation_free (id : Nat) (f : Station → Station) :
    (b.modStation id f).free = b.free := rfl

/-! ### modSeg -/

@[simp] theorem Blocks.modSeg_segments (id : Nat) (f : Seg → Seg) :
    (b.modSeg id f).zc.segments = b.zc.segments.modify id f := rfl
@[simp] theorem Blocks.modSeg_discarded (id : Nat) (f : Seg → Seg) :
    (b.modSeg id f).zc.discarded = b.zc.discarded := rfl
@[simp] theorem Blocks.modSeg_roster (id : Nat) (f : Seg → Seg) :
    (b.modSeg id f).zc.roster = b.zc.roster := rfl
@[simp] theorem Blocks.modSeg_inbound (id : Nat) (f : Seg → Seg) :
    (b.modSeg id f).zc.inbound = b.zc.inbound := rfl
@[simp] theorem Blocks.modSeg_census (id : Nat) (f : Seg → Seg) :
    (b.modSeg id f).zc.census = b.zc.census := rfl
@[simp] theorem Blocks.modSeg_si (id : Nat) (f : Seg → Seg) : (b.modSeg id f).si = b.si := rfl
@[simp] theorem Blocks.modSeg_mm (id : Nat) (f : Seg → Seg) : (b.modSeg id f).mm = b.mm := rfl
@[simp] theorem Blocks.modSeg_du (id : Nat) (f : Seg → Seg) : (b.modSeg id f).du = b.du := rfl
@[simp] theorem Blocks.modSeg_pd (id : Nat) (f : Seg → Seg) : (b.modSeg id f).pd = b.pd := rfl
@[simp] theorem Blocks.modSeg_ti (id : Nat) (f : Seg → Seg) : (b.modSeg id f).ti = b.ti := rfl
@[simp] theorem Blocks.modSeg_fu (id : Nat) (f : Seg → Seg) : (b.modSeg id f).fu = b.fu := rfl
@[simp] theorem Blocks.modSeg_sp (id : Nat) (f : Seg → Seg) : (b.modSeg id f).sp = b.sp := rfl
@[simp] theorem Blocks.modSeg_out (id : Nat) (f : Seg → Seg) : (b.modSeg id f).out = b.out := rfl
@[simp] theorem Blocks.modSeg_agenda (id : Nat) (f : Seg → Seg) :
    (b.modSeg id f).agenda = b.agenda := rfl
@[simp] theorem Blocks.modSeg_spoiled (id : Nat) (f : Seg → Seg) :
    (b.modSeg id f).spoiled = b.spoiled := rfl
@[simp] theorem Blocks.modSeg_free (id : Nat) (f : Seg → Seg) : (b.modSeg id f).free = b.free := rfl

/-! ### bumpBy and setFlag -/

@[simp] theorem Blocks.bumpBy_zc (k : Counter) (n : Nat) : (b.bumpBy k n).zc = b.zc := rfl
@[simp] theorem Blocks.bumpBy_si (k : Counter) (n : Nat) : (b.bumpBy k n).si = b.si := rfl
@[simp] theorem Blocks.bumpBy_mm (k : Counter) (n : Nat) : (b.bumpBy k n).mm = b.mm := rfl
@[simp] theorem Blocks.bumpBy_du (k : Counter) (n : Nat) : (b.bumpBy k n).du = b.du := rfl
@[simp] theorem Blocks.bumpBy_pd (k : Counter) (n : Nat) : (b.bumpBy k n).pd = b.pd := rfl
@[simp] theorem Blocks.bumpBy_ti (k : Counter) (n : Nat) : (b.bumpBy k n).ti = b.ti := rfl
@[simp] theorem Blocks.bumpBy_fu (k : Counter) (n : Nat) : (b.bumpBy k n).fu = b.fu := rfl
@[simp] theorem Blocks.bumpBy_out (k : Counter) (n : Nat) : (b.bumpBy k n).out = b.out := rfl
@[simp] theorem Blocks.bumpBy_agenda (k : Counter) (n : Nat) :
    (b.bumpBy k n).agenda = b.agenda := rfl
@[simp] theorem Blocks.bumpBy_spoiled (k : Counter) (n : Nat) :
    (b.bumpBy k n).spoiled = b.spoiled := rfl
@[simp] theorem Blocks.bumpBy_free (k : Counter) (n : Nat) : (b.bumpBy k n).free = b.free := rfl
@[simp] theorem Blocks.bump_zc (k : Counter) : (b.bump k).zc = b.zc := rfl
@[simp] theorem Blocks.bump_si (k : Counter) : (b.bump k).si = b.si := rfl
@[simp] theorem Blocks.bump_mm (k : Counter) : (b.bump k).mm = b.mm := rfl
@[simp] theorem Blocks.bump_du (k : Counter) : (b.bump k).du = b.du := rfl
@[simp] theorem Blocks.bump_pd (k : Counter) : (b.bump k).pd = b.pd := rfl
@[simp] theorem Blocks.bump_ti (k : Counter) : (b.bump k).ti = b.ti := rfl
@[simp] theorem Blocks.bump_fu (k : Counter) : (b.bump k).fu = b.fu := rfl
@[simp] theorem Blocks.bump_out (k : Counter) : (b.bump k).out = b.out := rfl
@[simp] theorem Blocks.bump_agenda (k : Counter) : (b.bump k).agenda = b.agenda := rfl
@[simp] theorem Blocks.bump_spoiled (k : Counter) : (b.bump k).spoiled = b.spoiled := rfl
@[simp] theorem Blocks.bump_free (k : Counter) : (b.bump k).free = b.free := rfl
@[simp] theorem Blocks.bumpBy_sticky (k : Counter) (n : Nat) :
    (b.bumpBy k n).sp.sticky = b.sp.sticky := rfl
@[simp] theorem Blocks.bumpBy_token (k : Counter) (n : Nat) :
    (b.bumpBy k n).sp.token = b.sp.token := rfl
@[simp] theorem Blocks.bumpBy_snapshot (k : Counter) (n : Nat) :
    (b.bumpBy k n).sp.snapshot = b.sp.snapshot := rfl

/-! ### The state -/

variable (s : State)
@[simp] theorem State.env_now : s.env.now = s.now := rfl
@[simp] theorem State.env_node : s.env.node = s.cl.node := rfl
@[simp] theorem State.env_cfg : s.env.cfg = s.cl.cfg := rfl
@[simp] theorem State.tick_now : s.tick.now = s.now + 1 := rfl
@[simp] theorem State.tick_cl : s.tick.cl = s.cl := rfl
@[simp] theorem State.tick_b : s.tick.b = s.b.quiet := rfl
@[simp] theorem State.tick_pending : s.tick.pending = s.pending := rfl
@[simp] theorem State.runAs_now (cl : CL) (f : Env → Blocks → Blocks) :
    (s.runAs cl f).now = s.now := rfl
@[simp] theorem State.runAs_pending (cl : CL) (f : Env → Blocks → Blocks) :
    (s.runAs cl f).pending = s.pending := rfl
@[simp] theorem State.runAs_cl (cl : CL) (f : Env → Blocks → Blocks) : (s.runAs cl f).cl = cl := rfl
@[simp] theorem State.run_now (f : Env → Blocks → Blocks) : (s.run f).now = s.now := rfl
@[simp] theorem State.run_pending (f : Env → Blocks → Blocks) : (s.run f).pending = s.pending := rfl
@[simp] theorem State.run_cl (f : Env → Blocks → Blocks) : (s.run f).cl = s.cl := rfl
@[simp] theorem State.runFailing_now (read : List ParityTable) (failing : List ParityError) (f : Env → Blocks → Blocks) :
    (s.runFailing read failing f).now = s.now := rfl
@[simp] theorem State.runFailing_pending (read : List ParityTable) (failing : List ParityError) (f : Env → Blocks → Blocks) :
    (s.runFailing read failing f).pending = s.pending := rfl
@[simp] theorem State.runFailing_cl (read : List ParityTable) (failing : List ParityError) (f : Env → Blocks → Blocks) :
    (s.runFailing read failing f).cl = s.cl := rfl
@[simp] theorem State.runPlain_now (f : Env → Blocks → Blocks) : (s.runPlain f).now = s.now := rfl
@[simp] theorem State.runPlain_pending (f : Env → Blocks → Blocks) :
    (s.runPlain f).pending = s.pending := rfl
@[simp] theorem State.runPlain_cl (f : Env → Blocks → Blocks) : (s.runPlain f).cl = s.cl := rfl
@[simp] theorem State.runPlain_b (f : Env → Blocks → Blocks) :
    (s.runPlain f).b = f s.env s.b.quiet := rfl
theorem State.run_b (f : Env → Blocks → Blocks) :
    (s.run f).b = (f s.env (s.b.quiet.readSpoiled s.env)).settle s.env s.b := rfl

end Sys2Proof.Machine
end

