-- ==== Sys2Proof/Laws/Tables.lean ====
section
/-! SUPPORT. What the operations over tables of slots and over ordered lists do: membership, length,
order, and the entry a key finds. -/
namespace Sys2Proof.Machine
variable {α κ : Type} {a x : α} {l : List (Option α)}

/-! ### Tables of slots -/

@[simp] theorem live_nil : live ([] : List (Option α)) = [] := rfl
@[simp] theorem live_cons_none : live (none :: l) = live l := rfl
@[simp] theorem live_cons_some : live (some a :: l) = a :: live l := rfl

theorem mem_live : a ∈ live l ↔ some a ∈ l := by simp [live]

theorem live_updWhere (p : α → Bool) (f : α → α) (l : List (Option α)) :
    live (updWhere p f l) = (live l).map fun a => if p a then f a else a := by
  induction l with
  | nil => rfl
  | cons o l ih => cases o <;> simp_all [live, updWhere]

theorem live_freeWhere (p : α → Bool) (l : List (Option α)) :
    live (freeWhere p l) = (live l).filter fun a => !p a := by
  induction l with
  | nil => rfl
  | cons o l ih =>
    cases o with
    | none => simpa [freeWhere, live] using ih
    | some a => cases h : p a <;> simp_all [live, freeWhere, Option.filter]

@[simp] theorem length_updWhere (p : α → Bool) (f : α → α) (l : List (Option α)) :
    (updWhere p f l).length = l.length := by simp [updWhere]

@[simp] theorem length_freeWhere (p : α → Bool) (l : List (Option α)) :
    (freeWhere p l).length = l.length := by simp [freeWhere]

@[simp] theorem length_putFree (a : α) (l : List (Option α)) :
    (putFree a l).length = l.length := by
  induction l with
  | nil => rfl
  | cons o l ih => cases o <;> simp [putFree, ih]

/-- With a free entry, the table holds what it held and the new value, and nothing else. -/
theorem live_putFree_perm (h : none ∈ l) : (live (putFree a l)).Perm (a :: live l) := by
  induction l with
  | nil => simp at h
  | cons o l ih =>
    cases o with
    | none => exact List.Perm.refl _
    | some y =>
      have h' : none ∈ l := by simpa using h
      exact ((ih h').cons y).trans (List.Perm.swap a y (live l))

/-- Without a free entry the table stays as it is. -/
theorem putFree_full (h : none ∉ l) : putFree a l = l := by
  induction l with
  | nil => rfl
  | cons o l ih =>
    cases o with
    | none => simp at h
    | some y => simp_all [putFree]

theorem freeCount_eq_zero : freeCount l = 0 ↔ none ∉ l := by
  simp only [freeCount, List.countP_eq_zero, Option.isNone_iff_eq_none]
  exact ⟨fun h hn => h none hn rfl, fun h o ho hn => h (hn ▸ ho)⟩

theorem freeCount_updWhere (p : α → Bool) (f : α → α) (l : List (Option α)) :
    freeCount (updWhere p f l) = freeCount l := by
  induction l with
  | nil => rfl
  | cons o l ih => cases o <;> simp_all [freeCount, updWhere]

theorem freeCount_add_live (l : List (Option α)) : freeCount l + (live l).length = l.length := by
  induction l with
  | nil => rfl
  | cons o l ih => cases o <;> simp_all [freeCount, live] <;> omega

/-! ### The entry a key finds -/

variable [BEq κ]

/-- An update of the entry with key `y`, which keeps keys, is what that key finds. -/
theorem find_updWhere_self (key : α → κ) (f : α → α) (hf : ∀ a, key (f a) = key a) (y : κ)
    (l : List (Option α)) :
    (live (updWhere (fun a => key a == y) f l)).find? (fun a => key a == y) =
      ((live l).find? fun a => key a == y).map f := by
  rw [live_updWhere]
  induction live l with
  | nil => rfl
  | cons a t ih =>
    by_cases h : (key a == y) = true
    · simp [h, hf]
    · simp only [List.map_cons, h, List.find?_cons]
      simpa [h] using ih

variable [LawfulBEq κ]

/-- Another key finds what it found before. -/
theorem find_updWhere_of_ne (key : α → κ) (f : α → α) (hf : ∀ a, key (f a) = key a) {y z : κ}
    (hne : z ≠ y) (l : List (Option α)) :
    (live (updWhere (fun a => key a == y) f l)).find? (fun a => key a == z) =
      (live l).find? fun a => key a == z := by
  rw [live_updWhere]
  induction live l with
  | nil => rfl
  | cons a t ih =>
    by_cases h : (key a == y) = true
    · have hz : (key a == z) = false := by
        rw [eq_of_beq h]; exact beq_false_of_ne (Ne.symm hne)
      simp only [List.map_cons, h, if_true, List.find?_cons, hf, hz]
      exact ih
    · have e : (if (key a == y) = true then f a else a) = a := if_neg h
      rw [List.map_cons, e, List.find?_cons, List.find?_cons, ih]

omit [LawfulBEq κ] in
/-- A freed key finds nothing. -/
theorem find_freeWhere_self (key : α → κ) (y : κ) (l : List (Option α)) :
    (live (freeWhere (fun a => key a == y) l)).find? (fun a => key a == y) = none := by
  rw [live_freeWhere, List.find?_eq_none]
  intro a ha
  simpa using (List.mem_filter.mp ha).2

/-- Freeing one key leaves what another key finds. -/
theorem find_freeWhere_of_ne (key : α → κ) {y z : κ} (hne : z ≠ y) (l : List (Option α)) :
    (live (freeWhere (fun a => key a == y) l)).find? (fun a => key a == z) =
      (live l).find? fun a => key a == z := by
  rw [live_freeWhere]
  induction live l with
  | nil => rfl
  | cons a t ih =>
    cases h : key a == y
    · simp [h, List.find?_cons, ih]
    · have hz : (key a == z) = false := by
        rw [eq_of_beq h]; exact beq_false_of_ne (Ne.symm hne)
      simp [h, hz, ih]

omit [BEq κ] [LawfulBEq κ]

/-! ### Ordered lists -/

theorem insertBy_perm (lt : α → α → Bool) (a : α) (t : List α) :
    (insertBy lt a t).Perm (a :: t) := by
  induction t with
  | nil => exact List.Perm.refl _
  | cons b t ih =>
    unfold insertBy
    split
    · exact List.Perm.refl _
    · exact (ih.cons b).trans (List.Perm.swap a b t)

@[simp] theorem mem_insertBy (lt : α → α → Bool) (a : α) (t : List α) :
    x ∈ insertBy lt a t ↔ x = a ∨ x ∈ t := by
  rw [(insertBy_perm lt a t).mem_iff, List.mem_cons]

@[simp] theorem length_insertBy (lt : α → α → Bool) (a : α) (t : List α) :
    (insertBy lt a t).length = t.length + 1 := (insertBy_perm lt a t).length_eq

/-- Insertion by rank keeps a list ordered by rank. -/
theorem insertBy_pairwise (rank : α → Nat) (a : α) (t : List α)
    (h : t.Pairwise fun x y => rank x ≤ rank y) :
    (insertBy (fun x y => decide (rank x < rank y)) a t).Pairwise fun x y => rank x ≤ rank y := by
  induction t with
  | nil => simp [insertBy]
  | cons b t ih =>
    rw [List.pairwise_cons] at h
    unfold insertBy
    split
    next hlt =>
      have hab : rank a < rank b := of_decide_eq_true hlt
      refine List.pairwise_cons.mpr ⟨?_, List.pairwise_cons.mpr h⟩
      intro y hy
      rcases List.mem_cons.mp hy with rfl | hy
      · omega
      · exact le_trans (Nat.le_of_lt hab) (h.1 y hy)
    next hlt =>
      have hba : rank b ≤ rank a := by simpa using hlt
      refine List.pairwise_cons.mpr ⟨?_, ih h.2⟩
      intro y hy
      rcases (mem_insertBy _ _ _).mp hy with rfl | hy
      · exact hba
      · exact h.1 y hy

theorem foldl_insertBy_perm (lt : α → α → Bool) (t acc : List α) :
    (t.foldl (fun acc a => insertBy lt a acc) acc).Perm (t ++ acc) := by
  induction t generalizing acc with
  | nil => exact List.Perm.refl _
  | cons a t ih =>
    refine (ih _).trans (((insertBy_perm lt a acc).append_left t).trans ?_)
    simp

/-- Sorting loses nothing and adds nothing. -/
theorem sortBy_perm (lt : α → α → Bool) (t : List α) : (sortBy lt t).Perm t := by
  simpa [sortBy] using foldl_insertBy_perm lt t []

@[simp] theorem mem_sortBy (lt : α → α → Bool) (t : List α) : x ∈ sortBy lt t ↔ x ∈ t :=
  (sortBy_perm lt t).mem_iff

@[simp] theorem length_sortBy (lt : α → α → Bool) (t : List α) : (sortBy lt t).length = t.length :=
  (sortBy_perm lt t).length_eq

/-! ### The first of a list -/

theorem firstBy_mem (lt : α → α → Bool) (t : List α) (h : firstBy lt t = some a) : a ∈ t := by
  induction t generalizing a with
  | nil => simp [firstBy] at h
  | cons b t ih =>
    unfold firstBy at h
    split at h
    · simp_all
    next c hc =>
      split at h
      · exact List.mem_cons_of_mem _ (ih (hc.trans h))
      · simp_all

theorem firstBy_eq_none (lt : α → α → Bool) (t : List α) : firstBy lt t = none ↔ t = [] := by
  cases t with
  | nil => simp [firstBy]
  | cons b t =>
    simp only [firstBy, reduceCtorEq, iff_false]
    split
    · simp
    · split <;> simp

/-- By rank, the first has the least rank. -/
theorem firstBy_least (rank : α → Nat) (t : List α)
    (h : firstBy (fun x y => decide (rank x < rank y)) t = some a) : ∀ b ∈ t, rank a ≤ rank b := by
  induction t generalizing a with
  | nil => simp
  | cons c t ih =>
    unfold firstBy at h
    split at h
    next hn =>
      obtain rfl := (firstBy_eq_none _ _).mp hn
      simp_all
    next d hd =>
      have ihd := ih hd
      intro b hb
      split at h
      next hlt =>
        cases h
        rcases List.mem_cons.mp hb with rfl | hb
        · exact Nat.le_of_lt (of_decide_eq_true hlt)
        · exact ihd b hb
      next hlt =>
        cases h
        rcases List.mem_cons.mp hb with rfl | hb
        · exact Nat.le_refl _
        · exact Nat.le_trans (by simpa using hlt) (ihd b hb)

/-! ### Identifiers -/

/-- The identifier drawn is one that is not in use, or every identifier looked at is in use (R41, R89,
R120). -/
theorem nextFree_spec (used : Id8 → Bool) (c : Id8) (fuel : Nat) :
    used (nextFree used c fuel) = false ∨ ∀ k, k < fuel → used (c + BitVec.ofNat 8 k) = true := by
  induction fuel generalizing c with
  | zero => exact .inr fun k hk => absurd hk (Nat.not_lt_zero k)
  | succ n ih =>
    unfold nextFree
    cases h : used c
    · exact .inl (by simpa using h)
    · simp only [if_true]
      refine (ih (c + 1)).imp id fun hall k hk => ?_
      cases k with
      | zero => simpa using h
      | succ k =>
        have := hall k (by omega)
        have e : c + BitVec.ofNat 8 (k + 1) = c + 1 + BitVec.ofNat 8 k := by
          apply BitVec.eq_of_toNat_eq
          simp [BitVec.toNat_add]
          omega
        rw [e]; exact this

end Sys2Proof.Machine
end

