-- ==== Sys2Proof/Laws/Ops.lean ====
section
/-! SUPPORT. What the named operations over roster, moves, stations, peers, Inbound List, counters and
flags do: the entry that is changed, and the entries that are not. -/
namespace Sys2Proof.Machine
variable (b : Blocks)

/-! ### The roster -/

theorem Blocks.vehicle?_mem {id : Nat} {v : Vehicle} (h : b.vehicle? id = some v) :
    v ∈ b.vehicles ∧ v.id = id :=
  ⟨List.mem_of_find?_eq_some h, by simpa using List.find?_some h⟩

theorem Blocks.vehicles_modVehicle (id : Nat) (f : Vehicle → Vehicle) :
    (b.modVehicle id f).vehicles = b.vehicles.map fun v => if v.id == id then f v else v :=
  live_updWhere _ _ _

theorem Blocks.vehicle?_modVehicle (id : Nat) (f : Vehicle → Vehicle) (hf : ∀ v, (f v).id = v.id) :
    (b.modVehicle id f).vehicle? id = (b.vehicle? id).map f :=
  find_updWhere_self Vehicle.id f hf id _

theorem Blocks.vehicle?_modVehicle_of_ne {id x : Nat} (f : Vehicle → Vehicle)
    (hf : ∀ v, (f v).id = v.id) (hne : x ≠ id) :
    (b.modVehicle id f).vehicle? x = b.vehicle? x :=
  find_updWhere_of_ne Vehicle.id f hf hne _

theorem Blocks.vehicle?_free (id : Nat) :
    (b.modRoster (freeWhere fun v => v.id == id)).vehicle? id = none :=
  find_freeWhere_self Vehicle.id id _

theorem Blocks.vehicle?_free_of_ne {id x : Nat} (hne : x ≠ id) :
    (b.modRoster (freeWhere fun v => v.id == id)).vehicle? x = b.vehicle? x :=
  find_freeWhere_of_ne Vehicle.id hne _

theorem Blocks.freeSlots_modVehicle (id : Nat) (f : Vehicle → Vehicle) :
    (b.modVehicle id f).freeSlots = b.freeSlots := freeCount_updWhere _ _ _

/-- The roster's slots are the free ones and the entries in use (R10, R11). -/
theorem Blocks.freeSlots_add_vehicles : b.freeSlots + b.vehicles.length = b.zc.roster.length :=
  freeCount_add_live _

/-! ### Moves -/

theorem Blocks.move?_mem {tag : Tag} {m : Move} (h : b.move? tag = some m) :
    m ∈ b.moveList ∧ m.tag = tag :=
  ⟨List.mem_of_find?_eq_some h, by simpa using List.find?_some h⟩

theorem Blocks.moveList_modMove (tag : Tag) (f : Move → Move) :
    (b.modMove tag f).moveList = b.moveList.map fun m => if m.tag == tag then f m else m :=
  live_updWhere _ _ _

theorem Blocks.move?_modMove (tag : Tag) (f : Move → Move) (hf : ∀ m, (f m).tag = m.tag) :
    (b.modMove tag f).move? tag = (b.move? tag).map f := find_updWhere_self Move.tag f hf tag _

theorem Blocks.move?_modMove_of_ne {tag x : Tag} (f : Move → Move) (hf : ∀ m, (f m).tag = m.tag)
    (hne : x ≠ tag) : (b.modMove tag f).move? x = b.move? x :=
  find_updWhere_of_ne Move.tag f hf hne _

theorem Blocks.move?_free (tag : Tag) :
    (b.modMoves (freeWhere fun m => m.tag == tag)).move? tag = none :=
  find_freeWhere_self Move.tag tag _

theorem Blocks.move?_free_of_ne {tag x : Tag} (hne : x ≠ tag) :
    (b.modMoves (freeWhere fun m => m.tag == tag)).move? x = b.move? x :=
  find_freeWhere_of_ne Move.tag hne _

/-- The sequence number the next move takes is one that no record holds, while fewer than 64 do
(R41). -/
theorem Blocks.nextSeq_spec :
    (∀ m ∈ b.moveList, m.tag.seq ≠ b.nextSeq) ∨
      ∀ k, k < 64 → ∃ m ∈ b.moveList, m.tag.seq = b.mm.seqCounter + BitVec.ofNat 8 k := by
  refine (nextFree_spec (fun x => b.moveList.any fun m => m.tag.seq == x) b.mm.seqCounter 64).imp
    (fun h m hm he => ?_) fun h k hk => ?_
  · have := List.any_eq_false.mp h m hm
    exact this (by simpa [Blocks.nextSeq] using he)
  · obtain ⟨m, hm, he⟩ := List.any_eq_true.mp (h k hk)
    exact ⟨m, hm, by simpa using he⟩

/-! ### Stations -/

theorem Blocks.station?_mem {n : Nat} {s : Station} (h : b.station? n = some s) :
    s ∈ b.stationList ∧ s.number = n :=
  ⟨List.mem_of_find?_eq_some h, by simpa using List.find?_some h⟩

theorem Blocks.stationList_modStation (n : Nat) (f : Station → Station) :
    (b.modStation n f).stationList = b.stationList.map fun s => if s.number == n then f s else s :=
  live_updWhere _ _ _

theorem Blocks.station?_modStation (n : Nat) (f : Station → Station)
    (hf : ∀ s, (f s).number = s.number) :
    (b.modStation n f).station? n = (b.station? n).map f :=
  find_updWhere_self Station.number f hf n _

theorem Blocks.station?_modStation_of_ne {n x : Nat} (f : Station → Station)
    (hf : ∀ s, (f s).number = s.number) (hne : x ≠ n) :
    (b.modStation n f).station? x = b.station? x :=
  find_updWhere_of_ne Station.number f hf hne _

/-! ### Segments and peers -/

theorem Blocks.seg?_modSeg (n : Nat) (f : Seg → Seg) :
    (b.modSeg n f).seg? n = (b.seg? n).map f := by simp [Blocks.seg?]

theorem Blocks.seg?_modSeg_of_ne {n x : Nat} (f : Seg → Seg) (hne : x ≠ n) :
    (b.modSeg n f).seg? x = b.seg? x := by
  simp [Blocks.seg?, Ne.symm hne]

theorem Blocks.peer_modPeer (k : Nat) (f : Peer → Peer) (h : k < b.pd.peers.length) :
    (b.modPeer k f).peer k = f (b.peer k) := by
  simp [Blocks.peer, Blocks.modPeer, List.getElem?_eq_getElem h]

theorem Blocks.peer_modPeer_of_ne {k x : Nat} (f : Peer → Peer) (hne : x ≠ k) :
    (b.modPeer k f).peer x = b.peer x := by
  simp [Blocks.peer, Blocks.modPeer, Ne.symm hne]

/-! ### The Inbound List (R110) -/

theorem Blocks.addInbound_perm (i : Inbound) :
    (b.addInbound i).zc.inbound.Perm (i :: b.zc.inbound) := insertBy_perm _ _ _

theorem Blocks.mem_dropInbound {id : Nat} {i : Inbound} :
    i ∈ (b.dropInbound id).zc.inbound ↔ i ∈ b.zc.inbound ∧ i.vehicle ≠ id := by
  simp [Blocks.dropInbound]

theorem Blocks.moveInbound_perm (i : Inbound) :
    (b.moveInbound i).zc.inbound.Perm
      (i :: b.zc.inbound.filter fun x => x.vehicle != i.vehicle) := insertBy_perm _ _ _

/-! ### Counters (R2) -/

/-- A raised counter holds its new value, stopped at its greatest; every other counter is as it was. -/
theorem Blocks.counter_bumpBy (k j : Counter) (n : Nat) (h : k.index < b.sp.counters.length) :
    (b.bumpBy k n).counter j =
      if j.index = k.index then sat32 (b.counter k + n) else b.counter j := by
  by_cases hjk : j.index = k.index
  · simp [Blocks.counter, Blocks.bumpBy, Blocks.modSP, hjk, List.getElem?_eq_getElem h]
  · simp [Blocks.counter, Blocks.bumpBy, Blocks.modSP, hjk, Ne.symm hjk]

/-- Every counter has its place in the table. -/
theorem Counter.index_lt (k : Counter) : k.index < SP.counterCount := by
  cases k <;> simp only [Counter.index, SP.counterCount] <;> try omega
  case accepted c => cases c <;> simp [classCode]
  case completed c => cases c <;> simp [classCode]
  case bin c k => cases c <;> simp only [classCode] <;> omega
  case refusal r => cases r <;> simp [refusalCode]
  case retracts r => cases r <;> simp [retractCode]

@[simp] theorem Blocks.length_counters_bumpBy (k : Counter) (n : Nat) :
    (b.bumpBy k n).sp.counters.length = b.sp.counters.length := by
  simp [Blocks.bumpBy]

theorem sat32_le (n : Nat) : sat32 n ≤ 4294967295 := Nat.min_le_right _ _

theorem le_sat32 {m n : Nat} (h : m ≤ n) (hm : m ≤ 4294967295) : m ≤ sat32 n := Nat.le_min.mpr ⟨h, hm⟩

/-! ### Sticky flags (R172) -/

/-- An owner's setting of a flag changes nothing but the Service Port's flags and the changed flags. -/
theorem Blocks.setFlag_frame (f : Flag) :
    (b.setFlag f).zc = b.zc ∧ (b.setFlag f).si = b.si ∧ (b.setFlag f).mm = b.mm ∧
      (b.setFlag f).du = b.du ∧ (b.setFlag f).ti = b.ti ∧ (b.setFlag f).fu = b.fu ∧
      (b.setFlag f).out = b.out ∧ (b.setFlag f).agenda = b.agenda ∧
      (b.setFlag f).sp.counters = b.sp.counters ∧ (b.setFlag f).sp.token = b.sp.token := by
  cases f <;> exact ⟨rfl, rfl, rfl, rfl, rfl, rfl, rfl, rfl, rfl, rfl⟩

/-- Only a changed flag stands in the Peer Table. -/
theorem Blocks.setFlag_pd {f : Flag} (h : ∀ k, f ≠ .changed k) : (b.setFlag f).pd = b.pd := by
  cases f <;> first | rfl | exact absurd rfl (h _)

theorem Blocks.setFlag_snapshot (f : Flag) :
    (b.setFlag f).sp.snapshot = b.sp.snapshot.filter fun g => g != f := by cases f <;> rfl

/-- The flag set is set, and every other flag is as it was. -/
theorem Blocks.flag_setFlag (f g : Flag) (h : b.pd.peers.length = 32) :
    (b.setFlag f).flag g = (decide (g = f) || b.flag g) := by
  cases f with
  | changed k =>
    cases g with
    | changed j =>
      by_cases hjk : j = k
      · subst hjk
        have hk : j.val < b.pd.peers.length := by omega
        simp [Blocks.setFlag, Blocks.writeFlag, Blocks.flag, Blocks.modSP, Blocks.modPeer, Blocks.peer,
          List.getElem?_eq_getElem hk]
      · have hv : j.val ≠ k.val := fun e => hjk (Fin.ext e)
        simp [Blocks.setFlag, Blocks.writeFlag, Blocks.flag, Blocks.modSP, Blocks.modPeer, Blocks.peer,
          Ne.symm hv, hjk]
    | _ => simp [Blocks.setFlag, Blocks.writeFlag, Blocks.flag, Blocks.modSP, Blocks.modPeer]
  | _ =>
    cases g <;>
      simp [Blocks.setFlag, Blocks.writeFlag, Blocks.flag, Blocks.modSP, Blocks.peer]

end Sys2Proof.Machine
end

