-- ==== Sys2Proof/Laws/Trunk.lean ====
section
/-! SUPPORT. What the Trunk Interface's operations do: placing a record, the order of the Transmit
Queue, and the return of a record from the line. -/
namespace Sys2Proof.Machine
variable (e : Env) (b : Blocks)

/-! ### Placing a record (R136 to R138) -/

/-- Everything placing a record can do: nothing in a node that does not send, replacement of the waiting
STATUS or LINK, an overflow, or one more record in the queue. -/
theorem Blocks.place_cases (r : Record) :
    (e.node.active = false ∧ b.place e r = b) ∨
    (e.node.active = true ∧ b.ti.queue.any (replaces r) = true ∧
      b.place e r =
        b.modTI fun t => { t with queue := t.queue.map fun x => if replaces r x then r else x }) ∨
    (e.node.active = true ∧ b.ti.queue.any (replaces r) = false ∧ Config.queueSize ≤ b.ti.count ∧
      b.place e r = (b.bump .overflows).setFlag .overflow) ∨
    (e.node.active = true ∧ b.ti.queue.any (replaces r) = false ∧ b.ti.count < Config.queueSize ∧
      b.place e r = b.modTI fun t => { t with queue := enqueue r t.queue }) := by
  unfold Blocks.place
  cases ha : e.node.active <;> cases hr : b.ti.queue.any (replaces r) <;>
    by_cases hc : Config.queueSize ≤ b.ti.count <;> simp_all

/-- Placing a record touches the Transmit Queue, the overflows counter and the overflow flag, and
nothing else. -/
theorem Blocks.place_frame (r : Record) :
    (b.place e r).zc = b.zc ∧ (b.place e r).si = b.si ∧ (b.place e r).mm = b.mm ∧
      (b.place e r).du = b.du ∧ (b.place e r).pd = b.pd ∧ (b.place e r).fu = b.fu ∧
      (b.place e r).out = b.out ∧ (b.place e r).agenda = b.agenda ∧ (b.place e r).free = b.free ∧
      (b.place e r).ti = { b.ti with queue := (b.place e r).ti.queue } := by
  rcases b.place_cases e r with ⟨-, h⟩ | ⟨-, -, h⟩ | ⟨-, -, -, h⟩ | ⟨-, -, -, h⟩ <;> rw [h] <;>
    exact ⟨rfl, rfl, rfl, rfl, rfl, rfl, rfl, rfl, rfl, rfl⟩

@[simp] theorem Blocks.place_zc (r : Record) : (b.place e r).zc = b.zc := (b.place_frame e r).1
@[simp] theorem Blocks.place_si (r : Record) : (b.place e r).si = b.si := (b.place_frame e r).2.1
@[simp] theorem Blocks.place_mm (r : Record) : (b.place e r).mm = b.mm := (b.place_frame e r).2.2.1
@[simp] theorem Blocks.place_du (r : Record) : (b.place e r).du = b.du := (b.place_frame e r).2.2.2.1
@[simp] theorem Blocks.place_pd (r : Record) : (b.place e r).pd = b.pd :=
  (b.place_frame e r).2.2.2.2.1
@[simp] theorem Blocks.place_fu (r : Record) : (b.place e r).fu = b.fu :=
  (b.place_frame e r).2.2.2.2.2.1
@[simp] theorem Blocks.place_out (r : Record) : (b.place e r).out = b.out :=
  (b.place_frame e r).2.2.2.2.2.2.1
@[simp] theorem Blocks.place_agenda (r : Record) : (b.place e r).agenda = b.agenda :=
  (b.place_frame e r).2.2.2.2.2.2.2.1

/-- A node that sends, with room in its queue, holds the record it has placed. -/
theorem Blocks.mem_place {r : Record} (ha : e.node.active = true)
    (hc : b.ti.count < Config.queueSize) : r ∈ (b.place e r).ti.queue := by
  rcases b.place_cases e r with ⟨h, -⟩ | ⟨-, hr, h⟩ | ⟨-, -, h, -⟩ | ⟨-, -, -, h⟩
  · simp [ha] at h
  · obtain ⟨x, hx, hrx⟩ := List.any_eq_true.mp hr
    rw [h]
    exact List.mem_map.mpr ⟨x, hx, by simp [hrx]⟩
  · omega
  · rw [h]; exact (mem_insertBy _ _ _).mpr (.inl rfl)

/-- A record that replaces nothing joins the queue without pushing another out. -/
theorem Blocks.mem_place_of_mem {r x : Record} (hr : replaces r x = false)
    (hx : x ∈ b.ti.queue) : x ∈ (b.place e r).ti.queue := by
  rcases b.place_cases e r with ⟨-, h⟩ | ⟨-, -, h⟩ | ⟨-, -, -, h⟩ | ⟨-, -, -, h⟩ <;> rw [h]
  · exact hx
  · exact List.mem_map.mpr ⟨x, hx, by simp [hr]⟩
  · rw [(Blocks.setFlag_frame _ _).2.2.2.2.1]; exact hx
  · exact (mem_insertBy _ _ _).mpr (.inr hx)

/-! ### The order of the queue (R136) -/

/-- A record placed among others joins them behind its own class. -/
theorem enqueue_ordered (r : Record) (q : List Record)
    (h : q.Pairwise fun x y => x.cls ≤ y.cls) :
    (enqueue r q).Pairwise fun x y => x.cls ≤ y.cls := insertBy_pairwise Record.cls r q h

theorem requeue_perm (r : Record) (q : List Record) : (requeue r q).Perm (r :: q) := by
  induction q with
  | nil => exact List.Perm.refl _
  | cons x q ih =>
    unfold requeue
    split
    · exact List.Perm.refl _
    · exact (ih.cons x).trans (List.Perm.swap r x q)

/-- A record that returns from the line joins the others at the head of its own class. -/
theorem requeue_ordered (r : Record) (q : List Record)
    (h : q.Pairwise fun x y => x.cls ≤ y.cls) :
    (requeue r q).Pairwise fun x y => x.cls ≤ y.cls := by
  induction q with
  | nil => simp [requeue]
  | cons x q ih =>
    rw [List.pairwise_cons] at h
    unfold requeue
    split
    next hle =>
      refine List.pairwise_cons.mpr ⟨fun y hy => ?_, List.pairwise_cons.mpr h⟩
      rcases List.mem_cons.mp hy with rfl | hy
      · exact hle
      · exact Nat.le_trans hle (h.1 y hy)
    next hle =>
      refine List.pairwise_cons.mpr ⟨fun y hy => ?_, ih h.2⟩
      rcases List.mem_cons.mp ((requeue_perm r q).mem_iff.mp hy) with rfl | hy
      · omega
      · exact h.1 y hy

/-- A record that replaces a waiting one has its class. -/
theorem replaces_cls {r x : Record} (h : replaces r x = true) : r.cls = x.cls := by
  simp only [replaces, isStatus, isLink, Bool.or_eq_true, Bool.and_eq_true, beq_iff_eq] at h
  unfold Record.cls
  rcases h with ⟨h1, h2⟩ | ⟨h1, h2⟩ <;> rw [h1, h2]

/-- The return of the record on the line: the line is free, and the record waits again unless a newer
STATUS or LINK has taken its place (R136, R137). -/
theorem TI.returnLine_cases (t : TI) :
    (t.line = none ∧ t.returnLine = t) ∨
    (∃ r, t.line = some r ∧ t.queue.any (replaces r) = true ∧
      t.returnLine = { t with line := none }) ∨
    (∃ r, t.line = some r ∧ t.queue.any (replaces r) = false ∧
      t.returnLine = { t with line := none, queue := requeue r t.queue }) := by
  unfold TI.returnLine
  split
  next h => exact .inl ⟨h, rfl⟩
  next r h =>
    cases hq : t.queue.any (replaces r)
    · exact .inr (.inr ⟨r, h, hq, by simp⟩)
    · exact .inr (.inl ⟨r, h, hq, by simp⟩)

/-! ### Receiving (R142) -/

/-- An outcome enters the window and displaces the oldest; peers, moves, stations and vehicles are as
they were. -/
theorem Blocks.outcome_frame (good : Bool) :
    (b.outcome e good).zc = b.zc ∧ (b.outcome e good).si = b.si ∧ (b.outcome e good).mm = b.mm ∧
      (b.outcome e good).du = b.du ∧ (b.outcome e good).pd = b.pd ∧ (b.outcome e good).fu = b.fu ∧
      (b.outcome e good).ti.outcomes = good :: b.ti.outcomes.take 63 ∧
      (b.outcome e good).ti.heardAt = b.ti.heardAt ∧ (b.outcome e good).ti.lost = b.ti.lost := by
  have hp (c : Blocks) (r : Record) := c.place_frame e r
  have ht (c : Blocks) (r : Record) : (c.place e r).ti.outcomes = c.ti.outcomes ∧
      (c.place e r).ti.heardAt = c.ti.heardAt ∧ (c.place e r).ti.lost = c.ti.lost := by
    rw [(hp c r).2.2.2.2.2.2.2.2.2]; exact ⟨rfl, rfl, rfl⟩
  unfold Blocks.outcome
  simp only
  split <;> split
  all_goals
    first
    | exact ⟨rfl, rfl, rfl, rfl, rfl, rfl, rfl, rfl, rfl⟩
    | (unfold Blocks.announceLink Blocks.toAll
       refine ⟨?_, ?_, ?_, ?_, ?_, ?_, ?_, ?_, ?_⟩
       · exact (hp _ _).1
       · exact (hp _ _).2.1
       · exact (hp _ _).2.2.1
       · exact (hp _ _).2.2.2.1
       · exact (hp _ _).2.2.2.2.1
       · exact (hp _ _).2.2.2.2.2.1
       · exact (ht _ _).1
       · exact (ht _ _).2.1
       · exact (ht _ _).2.2)

end Sys2Proof.Machine
end

