-- ==== Sys2Proof/Laws/Blocks.lean ====
section
/-! SUPPORT. What the operations shared by many commands do: jobs sent to vehicles, changes of vehicle
state, calls and bids that end, entry into WAITING, and what runs before a command ends. -/
namespace Sys2Proof.Machine
variable (e : Env) (b : Blocks)

/-! ### Jobs and vehicle states -/

/-- Sending a job: in HALTED for DUPLICATE-BAY nothing happens; otherwise GOTO is sent and the entry takes
the job, and a freed parking place is an occasion for park requests (R8, R82, R87). -/
theorem Blocks.sendGoto_cases (id : Nat) (job : Job) :
    (e.node = .haltedDuplicate ∧ b.sendGoto e id job = b) ∨
    (e.node ≠ .haltedDuplicate ∧
      ∃ c, c = (b.modVehicle id (Vehicle.commanded job)).emitZone (.goto id job) ∧
        (b.sendGoto e id job = c ∨ b.sendGoto e id job = c.wantPark)) := by
  unfold Blocks.sendGoto
  by_cases h : e.node = .haltedDuplicate
  · exact .inl ⟨h, if_pos h⟩
  · refine .inr ⟨h, _, rfl, ?_⟩
    rw [if_neg h]
    simp only
    split
    · exact .inr rfl
    · exact .inl rfl

/-- Sending a job touches the vehicle's entry, the zone line and the agenda. -/
theorem Blocks.sendGoto_frame (id : Nat) (job : Job) :
    (b.sendGoto e id job).si = b.si ∧ (b.sendGoto e id job).mm = b.mm ∧
      (b.sendGoto e id job).du = b.du ∧ (b.sendGoto e id job).pd = b.pd ∧
      (b.sendGoto e id job).ti = b.ti ∧ (b.sendGoto e id job).fu = b.fu ∧
      (b.sendGoto e id job).sp = b.sp ∧ (b.sendGoto e id job).free = b.free ∧
      (b.sendGoto e id job).zc.inbound = b.zc.inbound ∧
      (b.sendGoto e id job).zc.segments = b.zc.segments ∧
      (b.sendGoto e id job).out.station = b.out.station := by
  rcases b.sendGoto_cases e id job with ⟨-, h⟩ | ⟨-, c, rfl, h | h⟩ <;> rw [h] <;>
    exact ⟨rfl, rfl, rfl, rfl, rfl, rfl, rfl, rfl, rfl, rfl, rfl⟩

@[simp] theorem Vehicle.commanded_id (j : Job) (v : Vehicle) : (v.commanded j).id = v.id := rfl
@[simp] theorem Vehicle.commanded_job (j : Job) (v : Vehicle) : (v.commanded j).job = some j := rfl
@[simp] theorem Vehicle.commanded_state (j : Job) (v : Vehicle) : (v.commanded j).state = v.state := rfl
@[simp] theorem Vehicle.commanded_bound (j : Job) (v : Vehicle) : (v.commanded j).bound = v.bound := rfl
@[simp] theorem Vehicle.commanded_segment (j : Job) (v : Vehicle) :
    (v.commanded j).segment = v.segment := rfl
@[simp] theorem Vehicle.commanded_clearance (j : Job) (v : Vehicle) :
    (v.commanded j).clearance = v.clearance := rfl

/-- The entry after a job has been sent to it. -/
theorem Blocks.vehicle?_sendGoto (id : Nat) (job : Job) (h : e.node ≠ .haltedDuplicate) :
    (b.sendGoto e id job).vehicle? id = (b.vehicle? id).map (Vehicle.commanded job) := by
  rcases b.sendGoto_cases e id job with ⟨h', -⟩ | ⟨-, c, rfl, h' | h'⟩
  · exact absurd h' h
  all_goals rw [h']; exact b.vehicle?_modVehicle id _ fun _ => rfl

/-- Every other entry is as it was. -/
theorem Blocks.vehicle?_sendGoto_of_ne {id x : Nat} (job : Job) (hne : x ≠ id) :
    (b.sendGoto e id job).vehicle? x = b.vehicle? x := by
  rcases b.sendGoto_cases e id job with ⟨-, h⟩ | ⟨-, c, rfl, h | h⟩ <;> rw [h]
  all_goals exact b.vehicle?_modVehicle_of_ne _ (fun _ => rfl) hne

theorem Blocks.vehicle?_setVehicleState (id : Nat) (st : RosterState) :
    (b.setVehicleState id st).vehicle? id = (b.vehicle? id).map fun v => { v with state := st } :=
  b.vehicle?_modVehicle id _ fun _ => rfl

theorem Blocks.vehicle?_unbind (id : Nat) :
    (b.unbind id).vehicle? id =
      (b.vehicle? id).map fun v => { v with bound := none, arrival := none } :=
  b.vehicle?_modVehicle id _ fun _ => rfl

theorem Blocks.vehicle?_makeIdle (id : Nat) :
    (b.makeIdle e id).vehicle? id =
      (b.vehicle? id).map fun v =>
        { v with state := .idle, idleSince := e.now, clearance := false } :=
  b.vehicle?_modVehicle id _ fun _ => rfl

/-- A vehicle that leaves the wait queue stands in it no more, and the others keep their order. -/
theorem Blocks.leaveQueue_waitQueue (id : Nat) :
    (b.leaveQueue id).si.waitQueue = b.si.waitQueue.filter fun x => x != id := rfl

/-! ### Bids and calls -/

/-- Releasing bids takes exactly the entries named off the Bid List. -/
theorem Blocks.releaseBids_bids (p : BidEntry → Bool) :
    (b.releaseBids p).du.bids = b.du.bids.filter fun x => !p x := by
  unfold Blocks.releaseBids
  split
  · rfl
  next h =>
    refine (List.filter_eq_self.mpr fun x hx => ?_).symm
    have := List.any_eq_false.mp (by simpa using h) x hx
    simpa using this

/-- It touches the Bid List, the reservation marks of the roster, and the agenda. -/
theorem Blocks.releaseBids_frame (p : BidEntry → Bool) :
    (b.releaseBids p).si = b.si ∧ (b.releaseBids p).mm = b.mm ∧ (b.releaseBids p).pd = b.pd ∧
      (b.releaseBids p).ti = b.ti ∧ (b.releaseBids p).fu = b.fu ∧ (b.releaseBids p).sp = b.sp ∧
      (b.releaseBids p).out = b.out ∧ (b.releaseBids p).free = b.free ∧
      (b.releaseBids p).du.calls = b.du.calls ∧ (b.releaseBids p).du.ask = b.du.ask ∧
      (b.releaseBids p).zc.inbound = b.zc.inbound ∧
      (b.releaseBids p).zc.segments = b.zc.segments := by
  unfold Blocks.releaseBids
  split <;> exact ⟨rfl, rfl, rfl, rfl, rfl, rfl, rfl, rfl, rfl, rfl, rfl, rfl⟩

/-- A removed call holds no place; the other calls keep their order (R90). -/
theorem Blocks.removeCall_calls (tag : Tag) :
    (b.removeCall tag).du.calls = b.du.calls.filter fun c => c.tag != tag := rfl

/-- A call that ends early leaves no entry for its move (R99). -/
theorem Blocks.endCall_calls (tag : Tag) :
    (b.endCall e tag).du.calls = b.du.calls.filter fun c => c.tag != tag := by
  unfold Blocks.endCall
  split
  next h =>
    refine (List.filter_eq_self.mpr fun c hc => ?_).symm
    simpa using List.find?_eq_none.mp h c hc
  · simp only [Blocks.bump_du, Blocks.toAll, Blocks.place_du]; rfl

/-- Ending a call touches calls, the Transmit Queue, counters and flags, and the agenda. -/
theorem Blocks.endCall_frame (tag : Tag) :
    (b.endCall e tag).zc = b.zc ∧ (b.endCall e tag).si = b.si ∧ (b.endCall e tag).mm = b.mm ∧
      (b.endCall e tag).pd = b.pd ∧ (b.endCall e tag).fu = b.fu ∧ (b.endCall e tag).out = b.out := by
  unfold Blocks.endCall
  split
  · exact ⟨rfl, rfl, rfl, rfl, rfl, rfl⟩
  · simp only [Blocks.bump_zc, Blocks.bump_si, Blocks.bump_mm, Blocks.bump_pd, Blocks.bump_fu,
      Blocks.bump_out, Blocks.toAll, Blocks.place_zc, Blocks.place_si, Blocks.place_mm,
      Blocks.place_pd, Blocks.place_fu, Blocks.place_out]
    exact ⟨rfl, rfl, rfl, rfl, rfl, rfl⟩

/-! ### Entry into WAITING (R46, R48) -/

/-- The record after its entry into WAITING. -/
theorem Blocks.move?_enterWaiting (tag : Tag) (again : Bool) :
    (b.enterWaiting e tag again).move? tag = (b.move? tag).map fun m =>
      { m with
        state := .waiting
        callId := none
        vehicle := none
        wait := none
        checkHold := false
        destHeld := b.mustHold e m
        retry := if again then min (m.retry + 1) 255 else m.retry } := by
  unfold Blocks.enterWaiting
  simp only
  split <;> exact b.move?_modMove tag _ fun _ => rfl

/-- Every other record is as it was. -/
theorem Blocks.move?_enterWaiting_of_ne {tag x : Tag} (again : Bool) (hne : x ≠ tag) :
    (b.enterWaiting e tag again).move? x = b.move? x := by
  unfold Blocks.enterWaiting
  simp only
  split <;> exact b.move?_modMove_of_ne _ (fun _ => rfl) hne

/-- Entry into WAITING touches the Move Table and the agenda. -/
theorem Blocks.enterWaiting_frame (tag : Tag) (again : Bool) :
    (b.enterWaiting e tag again).zc = b.zc ∧ (b.enterWaiting e tag again).si = b.si ∧
      (b.enterWaiting e tag again).du = b.du ∧ (b.enterWaiting e tag again).pd = b.pd ∧
      (b.enterWaiting e tag again).ti = b.ti ∧ (b.enterWaiting e tag again).fu = b.fu ∧
      (b.enterWaiting e tag again).sp = b.sp ∧ (b.enterWaiting e tag again).out = b.out := by
  unfold Blocks.enterWaiting
  simp only
  split <;> exact ⟨rfl, rfl, rfl, rfl, rfl, rfl, rfl, rfl⟩

/-! ### What runs before a command ends -/

/-- An event that has given no occasion for a pass runs none. -/
theorem Blocks.passes_of_none (h : b.agenda = Agenda.none) : b.passes e = b := by
  have hf : b.followPhase e = b := by simp [Blocks.followPhase, h, Agenda.none]
  have hb : b.bindPhase e = b := by simp [Blocks.bindPhase, h, Agenda.none]
  have hp : b.parkPhase e = b := by simp [Blocks.parkPhase, h, Agenda.none]
  have hc : b.callPhase e = b := by simp [Blocks.callPhase, h, Agenda.none]
  unfold Blocks.passes
  rw [hf, hb, hp, hc, ← h]

/-- After the passes no occasion is left. -/
@[simp] theorem Blocks.passes_agenda : (b.passes e).agenda = Agenda.none := rfl

/-- The supply watch touches the starvation start only (R106). -/
theorem Blocks.supplyWatch_eq (before : Blocks) :
    b.supplyWatch e before = { b with du := { b.du with starve := (b.supplyWatch e before).du.starve } } := by
  unfold Blocks.supplyWatch
  split
  · rfl
  · split <;> rfl

/-- Placing HOLD touches what placing a record touches. -/
theorem Blocks.placeHold_cases :
    b.placeHold e = b ∨ b.placeHold e = b.place e { dest := none, body := .hold e.cfg.quanta } := by
  unfold Blocks.placeHold
  split
  · exact .inl rfl
  · exact .inr rfl

/-- TI's upkeep of HOLD touches the Transmit Queue, counters and flags, and nothing else (R141). -/
theorem Blocks.holdUpkeep_frame (half : Bool) :
    (b.holdUpkeep e half).zc = b.zc ∧ (b.holdUpkeep e half).si = b.si ∧
      (b.holdUpkeep e half).mm = b.mm ∧ (b.holdUpkeep e half).du = b.du ∧
      (b.holdUpkeep e half).pd = b.pd ∧ (b.holdUpkeep e half).fu = b.fu ∧
      (b.holdUpkeep e half).out = b.out ∧ (b.holdUpkeep e half).agenda = b.agenda := by
  have hp (c : Blocks) (r : Record) : (c.place e r).zc = c.zc ∧ (c.place e r).si = c.si ∧
      (c.place e r).mm = c.mm ∧ (c.place e r).du = c.du ∧ (c.place e r).pd = c.pd ∧
      (c.place e r).fu = c.fu ∧ (c.place e r).out = c.out ∧ (c.place e r).agenda = c.agenda :=
    let h := c.place_frame e r
    ⟨h.1, h.2.1, h.2.2.1, h.2.2.2.1, h.2.2.2.2.1, h.2.2.2.2.2.1, h.2.2.2.2.2.2.1,
      h.2.2.2.2.2.2.2.1⟩
  have hq (c : Blocks) : (c.placeHold e).zc = c.zc ∧ (c.placeHold e).si = c.si ∧
      (c.placeHold e).mm = c.mm ∧ (c.placeHold e).du = c.du ∧ (c.placeHold e).pd = c.pd ∧
      (c.placeHold e).fu = c.fu ∧ (c.placeHold e).out = c.out ∧
      (c.placeHold e).agenda = c.agenda := by
    rcases c.placeHold_cases e with h | h <;> rw [h]
    · exact ⟨rfl, rfl, rfl, rfl, rfl, rfl, rfl, rfl⟩
    · exact hp _ _
  unfold Blocks.holdUpkeep
  simp only
  split
  · exact ⟨rfl, rfl, rfl, rfl, rfl, rfl, rfl, rfl⟩
  · split
    · split
      · exact hq _
      · exact ⟨rfl, rfl, rfl, rfl, rfl, rfl, rfl, rfl⟩
    · split
      · exact hp _ _
      · exact ⟨rfl, rfl, rfl, rfl, rfl, rfl, rfl, rfl⟩

/-- A command that finds no failed bit waiting reads the tables as they are (R166). -/
theorem Blocks.readSpoiled_of_nil (h : b.spoiled = []) : b.readSpoiled e = b := by
  cases b; simp_all [Blocks.readSpoiled, Blocks.parityErrors]

/-- What ends a command touches, when no pass is due: the Transmit Queue and the buffered period, counters
and flags, and the starvation start. -/
theorem Blocks.settle_frame (before : Blocks) (h : b.agenda = Agenda.none) :
    (b.settle e before).zc = b.zc ∧ (b.settle e before).si = b.si ∧ (b.settle e before).mm = b.mm ∧
      (b.settle e before).pd = b.pd ∧ (b.settle e before).fu = b.fu ∧
      (b.settle e before).out = b.out ∧ (b.settle e before).agenda = Agenda.none ∧
      (b.settle e before).du = { b.du with starve := (b.settle e before).du.starve } := by
  unfold Blocks.settle
  rw [b.passes_of_none e h, Blocks.supplyWatch_eq]
  have hu := b.holdUpkeep_frame e false
  have hper (c : Blocks) : (c.periodUpkeep e).zc = c.zc ∧ (c.periodUpkeep e).si = c.si ∧
      (c.periodUpkeep e).mm = c.mm ∧ (c.periodUpkeep e).pd = c.pd ∧ (c.periodUpkeep e).fu = c.fu ∧
      (c.periodUpkeep e).out = c.out ∧ (c.periodUpkeep e).agenda = c.agenda ∧
      (c.periodUpkeep e).du = c.du := by
    unfold Blocks.periodUpkeep
    split <;> exact ⟨rfl, rfl, rfl, rfl, rfl, rfl, rfl, rfl⟩
  have hp := hper (b.holdUpkeep e false)
  unfold Blocks.trunkUpkeep
  refine ⟨hp.1.trans hu.1, hp.2.1.trans hu.2.1, hp.2.2.1.trans hu.2.2.1,
    hp.2.2.2.1.trans hu.2.2.2.2.1, hp.2.2.2.2.1.trans hu.2.2.2.2.2.1,
    hp.2.2.2.2.2.1.trans hu.2.2.2.2.2.2.1,
    hp.2.2.2.2.2.2.1.trans (hu.2.2.2.2.2.2.2.trans h), ?_⟩
  have hd := hp.2.2.2.2.2.2.2.trans hu.2.2.2.1
  rw [hd]

/-- A command that brings no failed bit runs its effect alone (R166). -/
@[simp] theorem State.runFailing_nil (read : List ParityTable) (f : Env → Blocks → Blocks) (s : State) :
    s.runFailing read [] f = s.run f := by
  simp [State.runFailing, Blocks.parityErrors]
  rfl

/-- A command finds the failed bits that waited, and leaves none of them waiting. -/
theorem Blocks.readSpoiled_eq :
    b.readSpoiled e = b.spoiled.foldl (Blocks.parityError e) { b with spoiled := [] } := rfl

@[simp] theorem Blocks.spoiledIn_nil : b.spoiledIn [] = false := by simp [Blocks.spoiledIn]

/-- No failed bit waits in any table. -/
theorem Blocks.spoiledIn_of_nil (l : List ParityTable) (h : b.spoiled = []) : b.spoiledIn l = false := by
  simp [Blocks.spoiledIn, h]

/-- DONE for a tag whose home bay a record can address is placed for that bay (R126, R127). -/
theorem Blocks.sendDone_eq (tag : Tag) (vehicle : Nat) (o : DoneOutcome) (h : tag.home ≤ 31) :
    b.sendDone e tag vehicle o = b.toBay e tag.home (.done tag vehicle o) := by
  simp [Blocks.sendDone, Nat.not_lt.mpr h]

/-- No DONE is sent for a tag whose home bay no record can address (R127, log 67). -/
theorem Blocks.sendDone_none (tag : Tag) (vehicle : Nat) (o : DoneOutcome) (h : 31 < tag.home) :
    b.sendDone e tag vehicle o = b := by
  simp [Blocks.sendDone, h]

/-- What a guarded service command answers while no failed bit waits in the tables that its check reads: a
refusal that changes nothing else, or its effect and OK (R171). -/
theorem State.serveActive_cases (reads : Env → Blocks → List ParityTable)
    (check : Env → Blocks → Result) (act : Env → Blocks → Blocks) (s : State)
    (h : s.b.spoiledIn (reads s.env s.b) = false) :
    (s.cl.node.active = false ∧
      s.serveActive reads check act = s.runPlain fun _ b => b.reply (.result .wrongState)) ∨
    (s.cl.node.active = true ∧ check s.env s.b ≠ .ok ∧
      s.serveActive reads check act = s.runPlain fun e b => b.reply (.result (check e b))) ∨
    (s.cl.node.active = true ∧ check s.env s.b = .ok ∧
      s.serveActive reads check act = s.run fun e b => b.serve (check e b) (act e)) := by
  unfold State.serveActive
  by_cases ha : s.cl.node.active = true
  · by_cases hc : check s.env s.b = .ok
    · exact .inr (.inr ⟨ha, hc, by simp [ha, hc]⟩)
    · exact .inr (.inl ⟨ha, hc, by simp [ha, h, hc]⟩)
  · have ha := Bool.not_eq_true _ ▸ ha
    exact .inl ⟨ha, by simp [ha]⟩

/-! ### A consignment wait that ends (R121, R124) -/

@[simp] theorem Move.endWait_wait (m : Move) : m.endWait.wait = none := rfl
@[simp] theorem Move.endWait_tag (m : Move) : m.endWait.tag = m.tag := rfl
@[simp] theorem Move.endWait_state (m : Move) : m.endWait.state = m.state := rfl
@[simp] theorem Move.endWait_vehicle (m : Move) : m.endWait.vehicle = m.vehicle := rfl
@[simp] theorem Move.endWait_consignee (m : Move) : m.endWait.consignee = m.consignee := rfl

/-- A wait that is under way ends without clearance. -/
theorem Move.endWait_cleared {m : Move} (h : m.wait.isSome = true) : m.endWait.cleared = false := by
  have : m.wait.isNone = false := by simpa using h
  simp [Move.endWait, this]

/-- For a FAULTED vehicle the absence of the owner ends the wait and does nothing else. -/
theorem Blocks.ownerLost_of_faulted {e : Env} {b : Blocks} {m : Move} (h : b.carrierFaulted m = true) :
    b.ownerLost e m = b.modMove m.tag Move.endWait := by
  simp [Blocks.ownerLost, h]

/-- So it does for a vehicle marked RELEARN. -/
theorem Blocks.ownerAbsent_of_relearn {e : Env} {b : Blocks} {tag : Tag} {m : Move} {v : Vehicle}
    (hm : b.move? tag = some m) (hv : m.vehicle.bind b.vehicle? = some v) (hr : v.relearn = true) :
    b.ownerAbsent e tag = b.modMove tag Move.endWait := by
  simp [Blocks.ownerAbsent, hm, hv, hr]

/-! ### The decision made again (R35) -/

/-- With no vehicle of the delivery near the station, a dropped reservation decides nothing at once. -/
theorem Blocks.redecide_none {e : Env} {n seg : Nat} {tag : Tag} {b : Blocks}
    (h : ∀ v ∈ b.vehicles, v.redecides n seg tag = false) : b.redecide e n seg tag = b := by
  have : b.vehicles.filter (Vehicle.redecides n seg tag) = [] :=
    List.filter_eq_nil_iff.2 fun v hv => by simp [h v hv]
  simp [Blocks.redecide, this]

/-- With one such vehicle, it is the delivery decision of that vehicle. -/
theorem Blocks.redecide_one {e : Env} {n seg : Nat} {tag : Tag} {b : Blocks} {v : Vehicle}
    (h : b.vehicles.filter (Vehicle.redecides n seg tag) = [v]) :
    b.redecide e n seg tag = b.decideDelivery e v.id := by
  simp [Blocks.redecide, h]

/-- A spoiled entry is never decided again, whatever its free fields read as. -/
theorem Vehicle.redecides_relearn {n seg : Nat} {tag : Tag} {v : Vehicle} (h : v.relearn = true) :
    v.redecides n seg tag = false := by
  simp [Vehicle.redecides, h]

end Sys2Proof.Machine
end

