-- ==== Sys2Proof/Tests/Slice0.lean ====
section
/-! SUPPORT. Tests on fixed values: ill-formed commands are refused by the checks, the worked cases of the
manual come out as it gives them, and every statement's hypotheses are met by a concrete state. -/
namespace Sys2Proof.Machine

/-! ### States built for the tests -/

def State.withB (s : State) (f : Blocks → Blocks) : State := { s with b := f s.b }

def State.inNode (s : State) (n : NodeState) : State := { s with cl := { s.cl with node := n } }

def State.withCar (s : State) (v : Vehicle) : State := s.withB fun b => b.modRoster (putFree v)
def State.withOrder (s : State) (m : Move) : State := s.withB fun b => b.modMoves (putFree m)
def State.withInbound (s : State) (i : Inbound) : State := s.withB fun b => b.addInbound i
def State.withStation (s : State) (n : Nat) (f : Station → Station) : State :=
  s.withB fun b => b.modStation n f
def State.withPeer (s : State) (k : Nat) (f : Peer → Peer) : State := s.withB fun b => b.modPeer k f

end Sys2Proof.Machine

set_option maxRecDepth 20000

namespace Sys2Proof.Tests
open Sys2Proof.Machine

/-! ### A node of bay 10 with the zone of the manual's worked cases -/

def cfg : Cfg :=
  { Cfg.blank with
    bay := 10, nBays := 16, base := 320, limit := 351, rate := .k500, loopLen := 6
    sectionTime := 40, xDefault := 60, deadlineHot := 120, deadlineExpress := 300
    deadlineNormal := 900, deadlineReturn := 1800, checkMode := .holdMismatch, wCall := 500
    wSend := 2000, wRecall := 3, wAccept := 20, wRetry := 5, wAsk := 20, tStarve := 10, fMin := 1
    kKeep := 0, slackIn := 30, tRec := 60, tIdlePark := 30, hThr := 2, quanta := 50, q := 3
    parkPenalty := 20, rLoaded := 2, pPoll := 200, pStatus := 1000, tSilent := 3, tAbsent := 10
    segments := [⟨96, 2, 0⟩, ⟨80, 3, 1⟩, ⟨120, 3, 1⟩, ⟨100, 4, 2⟩, ⟨64, 3, 0⟩, ⟨150, 3, 0⟩,
      ⟨88, 3, 0⟩, ⟨72, 2, 0⟩]
    stations := [⟨321, .port, 1⟩, ⟨322, .port, 4⟩, ⟨324, .port, 3⟩, ⟨330, .port, 6⟩,
      ⟨340, .shelf, 2⟩, ⟨341, .shelf, 5⟩] }

/-- READY at node time 100 000 ms, with nothing on its tables. -/
def ready : State :=
  { State.reset with
    now := 100000
    cl := { node := .ready, cfg := cfg, listenEnd := none }
    b := (State.reset.b.configure cfg).modTI fun t =>
      { t with interval := 1000, buffered := 1000, statusDue := 100500, heardAt := 99000 } }

/-- An IDLE vehicle without job, binding or grant. -/
def car (id segment : Nat) : Vehicle where
  id := id
  segment := segment
  motion := .moving
  carrier := false
  carrierId := none
  hoist := .idle
  level := .none
  state := .idle
  bound := none
  reserved := false
  job := none
  echo := none
  grant := none
  clearance := false
  lastReport := 99900
  missed := 0
  idleSince := 99000
  unexpected := false
  arrival := none
  relearn := false
  capture := none
  blocked := none
  jobDone := false
  phase := .idle
  portOff := false
  given := false

/-- A WAITING move of bay 10, accepted 60 s ago. -/
def order (seq : Id8) (source dest : Nat) : Move where
  tag := ⟨10, seq⟩
  source := source
  dest := dest
  cls := .normal
  carrierId := none
  acceptedAt := 40000
  deadline := 900
  state := .waiting
  destHeld := false
  vehicle := none
  callId := none
  consignId := none
  consignee := none
  endMethod := none
  retry := 0
  shelfSourced := false
  poisoned := false
  checkHold := false
  lastHoist := .idle
  recallAt := none
  wait := none
  cleared := false

/-- A PRESENT peer in good order, last heard 500 ms ago. -/
def goodPeer (lo hi x idle : Nat) (_ : Peer) : Peer :=
  { Peer.unknown with
    presence := .present, lastHeard := some 99500, window := some (lo, hi), sectionTime := some x
    period := some 10, idle := idle, node := some .ready, recovery := some .normal
    link := some .good, bad := some 0 }

/-- `ready` with bay 14 and bay 7 heard. -/
def heardPeers : State := (ready.withPeer 14 (goodPeer 400 431 30 2)).withPeer 7 (goodPeer 200 231 35 1)

def entry (vehicle : Nat) (kind : InboundKind) (expected : Time) : Inbound where
  vehicle := vehicle
  kind := kind
  source := 14
  tag := if kind = .loan then none else some ⟨14, 3⟩
  ref := 2
  dest := if kind = .loaded then some 330 else none
  cls := none
  carrierId := none
  expected := expected
  recirc := 0
  late := false

def callOf (id : Id8) (seq : Id8) (best : Option BestBid) : CallEntry where
  id := id
  tag := ⟨10, seq⟩
  windowEnd := 100000
  best := best
  bids := 0
  awardDeadline := some 100000

def bidOf (caller : Nat) (id : Id8) (vehicle : Nat) : BidEntry where
  caller := caller
  id := id
  tag := ⟨14, 5⟩
  urgency := 1000
  vehicle := vehicle
  eta := 40
  holdEnd := 100000

def report (vehicle : Nat) (place : Place) (echo : Job) : Report where
  vehicle := vehicle
  place := place
  atMarker := false
  motion := .moving
  carrier := false
  carrierId := none
  hoist := .idle
  level := .none
  echo := echo
  jobDone := false

/-- What a command answers satisfies `p`. -/
def gives (c : Instr) (s : State) (p : State → Bool) : Bool :=
  match exec c s with
  | .next t => p t
  | _ => false

/-! ### Ill-formed commands -/

theorem test_wf_vehicle : (Instr.missedPoll 255).wf = false := by decide
theorem test_wf_place : (Instr.rollCallAnswer (report 1 (.segment 40) (passJob 1))).wf = false := by
  decide
theorem test_wf_carrier : (Instr.portState 321 .occupied (some [1, 2])).wf = false := by decide
theorem test_wf_target : (Instr.entryWatchReport (report 1 .divert (passJob 65536))).wf = false := by
  decide
theorem test_wf_job_tag :
    (Instr.entryWatchReport (report 1 .divert (loadJob 321 ⟨255, 0⟩))).wf = false := by decide
theorem test_wf_job_dest :
    (Instr.entryWatchReport (report 1 .divert (unloadJob 321 none 65535))).wf = false := by decide
theorem test_wf_job_bay :
    (Instr.entryWatchReport (report 1 .divert (exitJob none none 255))).wf = false := by decide
theorem test_wf_parity_move : (Instr.pollRound [⟨.move, 64, false⟩]).wf = false := by decide
theorem test_wf_parity_roster : (Instr.ageReview [⟨.roster, 24, false⟩]).wf = false := by decide
theorem test_wf_parity_inbound :
    (Instr.inboundLate 1 [⟨.inbound, 16, false⟩]).wf = false := by decide
theorem test_wf_deadline : (Instr.moveReq 321 322 .hot none (some 65536)).wf = false := by decide
theorem test_wf_tag : (Instr.cancelReq ⟨255, 0⟩).wf = false := by decide
theorem test_wf_station : (Instr.shelfState 65536 true).wf = false := by decide
theorem test_wf_status :
    (Instr.status 3 ⟨.ready, .normal, .good, 32, 63, 40, 4, 0, [], false⟩).wf = false := by decide
theorem test_wf_hold : (Instr.hold 3 256).wf = false := by decide
theorem test_wf_link : (Instr.link 3 .good 65).wf = false := by decide
theorem test_wf_call : (Instr.call 3 0 ⟨3, 0⟩ .hot 65536 0).wf = false := by decide
theorem test_wf_bid : (Instr.bid 3 0 256 0).wf = false := by decide
theorem test_wf_award : (Instr.award 3 0 32 1).wf = false := by decide
theorem test_wf_sent : (Instr.sent 3 0 1 65536).wf = false := by decide
theorem test_wf_retract : (Instr.retract 3 0 256 .gone).wf = false := by decide
theorem test_wf_ask : (Instr.ask 3 0 0).wf = false := by decide
theorem test_wf_loan : (Instr.loan 3 0 0 [1, 2, 3, 4, 5]).wf = false := by decide
theorem test_wf_consign :
    (Instr.consign 3 0 1 ⟨256, 0⟩ 321 .hot none 0).wf = false := by decide
theorem test_wf_accept : (Instr.accept 3 0 256 .busy).wf = false := by decide
theorem test_wf_done : (Instr.done 3 ⟨10, 0⟩ 1 (.deliveredPort (some 65536))).wf = false := by decide
theorem test_wf_read : (Instr.read 256 0).wf = false := by decide
theorem test_wf_token : (Instr.clearSticky 65536).wf = false := by decide
theorem test_wf_resolve : (Instr.resolve ⟨10, 0⟩ (.atStation 65536)).wf = false := by decide
theorem test_wf_vehicleOut : (Instr.vehicleOut 256).wf = false := by decide
theorem test_wf_restore :
    (Instr.restoreSegment 256).wf = false ∧ (Instr.restoreShelf 256).wf = false := by decide

/-! ### Worked cases of the manual -/

/-- The chapter on the rail zone, learning on one segment: seven measurements. -/
theorem test_learning :
    learn 100 1380 = (101, false) ∧ learn 101 900 = (98, false) ∧ learn 98 8000 = (134, true) ∧
      learn 134 50 = (122, false) ∧ learn 122 12000 = (167, true) ∧
      learn 167 12000 = (229, true) ∧ learn 229 12000 = (314, true) := by decide

/-- The third clamped measurement in a row gives a segment fault and ends the run (R24). -/
theorem test_third_clamp :
    let b := ready.b.modSeg 1 fun g => { g with t := 229, clampRun := 2 }
    let c := b.measure 1 12000
    (c.seg? 1).map (fun g => (g.t, g.clampRun, g.faults)) = some (314, 0, 1) ∧
      c.flag .segment = true := by decide

/-- The chapter on dispatch arithmetic: a segment of T = 100 costs 13 ds, one of 64 costs 8. -/
theorem test_segment_costs : [96, 80, 120, 100, 64, 150, 88, 72].map segCost =
    [12, 10, 15, 13, 8, 19, 11, 9] := by decide

/-- The four vehicles A, B, C and D of the worked case, ids 1 to 4. -/
def fourCars : State :=
  (((heardPeers.withCar (car 1 5)).withCar { car 2 2 with state := .parked }).withCar
    { car 3 2 with state := .loaded, carrier := true, bound := some ⟨10, 9⟩ }).withCar
    { car 4 6 with state := .toSource, bound := some ⟨10, 8⟩ }

/-- Choosing a local vehicle: A is estimated at 85 ds, B at 59 ds, and B comes first. -/
theorem test_local_estimates :
    fourCars.b.estimateOf fourCars.env (car 1 5) (.seg 4) = some 85 ∧
      fourCars.b.estimateOf fourCars.env { car 2 2 with state := .parked } (.seg 4) = some 59 ∧
      (fourCars.b.nearest fourCars.env (order 0 322 330)).map Vehicle.id = some 2 := by
  decide

/-- A bid and its remote cost: exit ETA 41 from bay 7 costs 198 ds, and 230 with bay 8 ABSENT. -/
theorem test_remote_cost :
    let s := ((fourCars.withPeer 7 (goodPeer 200 231 35 1)).withPeer 8 (goodPeer 240 271 28 1)).withPeer 9
      fun p => { goodPeer 280 311 30 1 p with presence := .stale }
    let t := s.withPeer 8 fun p => { p with presence := .absent }
    s.b.remoteCost s.env 7 41 4 = 198 ∧ t.b.remoteCost t.env 7 41 4 = 230 := by decide

/-- The urgencies of the chapter's table. -/
theorem test_urgencies :
    let aged (s : Nat) (m : Move) : Move := { m with acceptedAt := 5000000 - BitVec.ofNat 32 (1000 * s) }
    let u (s : Nat) (c : MoveClass) (d : Nat) : Nat :=
      (aged s { order 0 321 330 with cls := c, deadline := d }).urgency 5000000
    [u 250 .normal 900, u 10 .hot 120, u 119 .hot 120, u 120 .hot 120, u 100 .express 300,
      u 1000 .normal 900, u 2000 .ret 1800, u 4095 .normal 900, u 4095 .hot 120] =
    [1000, 16544, 18288, 22400, 4896, 8096, 6096, 20476, 65535] := by decide

/-- A hold ends on two moves: one pass gives B to (10, 50) and A to (10, 51). -/
theorem test_hold_ends_on_two_moves :
    let held (m : Move) : Move := { m with destHeld := true }
    let s := ((((ready.withPeer 14 fun p =>
        { goodPeer 400 431 30 0 p with holdUntil := some 104000 }).withCar (car 1 5)).withCar
        { car 2 2 with state := .parked }).withOrder
          (held { order 50 322 400 with cls := .express })).withOrder
          (held { order 51 330 400 with acceptedAt := 0xFFFCF2C0 })
    gives (.hold 14 0) s (fun t =>
      (t.b.move? ⟨10, 50⟩).map (fun m => (m.state, m.vehicle)) == some (.bound, some 2) &&
      (t.b.move? ⟨10, 51⟩).map (fun m => (m.state, m.vehicle)) == some (.bound, some 1) &&
      t.b.out.zone == [.goto 2 (loadJob 322 ⟨10, 50⟩), .goto 1 (loadJob 330 ⟨10, 51⟩)] &&
      t.b.ti.queue == []) = true := by decide

/-- Three records start together: bay 3's DONE goes first, then bay 14's CONSIGN, then bay 7's BID. -/
theorem test_three_records :
    let f3 := arbitrationField 2 3
    let f14 := arbitrationField 2 14
    let f7 := arbitrationField 3 7
    f3 = 0x43#8 ∧ f14 = 0x4E#8 ∧ f7 = 0x67#8 ∧ arbitrate 8 [f3, f14, f7] = [f3] ∧
      arbitrate 8 [f14, f7] = [f14] := by decide

/-- A hold: f falls to H_thr with the admission at the divert point, and HOLD(50) is placed (R141). -/
theorem test_hold_on_admission :
    let full := (List.range 21).map fun i => some (car (100 + i) 3)
    let s := (ready.withInbound (entry 7 .loan 100000)).withB fun b =>
      b.modRoster fun _ => full ++ [none, none, none]
    gives (.entryWatchReport (report 7 .divert (exitJob none none 10))) s (fun t =>
      t.b.freeSlots == 2 && t.b.ti.queue == [⟨none, .hold 50⟩]) = true := by decide

/-- Sent to its last bit, the HOLD makes the node holding and the buffered period 500 ms (R140, R141). -/
theorem test_hold_sent :
    let s := ready.withB fun b =>
      (b.modTI fun t => { t with line := some ⟨none, .hold 50⟩ }).modRoster fun _ =>
        (List.range 22).map fun i => some (car (100 + i) 3)
    gives .recordSent s (fun t =>
      t.b.ti.holdingUntil == some 105000 && t.b.ti.buffered == 500 && t.b.ti.interval == 1000) =
      true := by decide

/-- A second fault during recovery, t = 0: HELD, SUSPENDED, RECOVERING, deadline after 60 s. -/
def firstFault : State :=
  (((ready.withCar { car 88 3 with
      state := .loaded, carrier := true, bound := some ⟨10, 12⟩
      job := some (unloadJob 330 (some ⟨10, 12⟩) 330) }).withCar { car 57 1 with
      state := .toSource, bound := some ⟨10, 41⟩, job := some (loadJob 321 ⟨10, 41⟩) }).withOrder
      { order 12 321 330 with state := .carrying, vehicle := some 88 }).withOrder
      { order 41 321 324 with state := .bound, vehicle := some 57 }

theorem test_first_fault :
    let r := { report 88 (.segment 3) (unloadJob 330 (some ⟨10, 12⟩) 330) with
      carrier := true, level := .major }
    gives (.report r []) (firstFault.withStation 330 fun x => { x with reservation := some ⟨10, 12⟩ })
      (fun t =>
        t.b.fu.recovery == .recovering && t.b.fu.watch == some ⟨some 88, 160000⟩ &&
        t.b.fu.first == some ⟨.vehicle, some 88, some ⟨10, 12⟩, some .held, 100000⟩ &&
        (t.b.moveState ⟨10, 12⟩) == some .suspended && t.b.flag .vehicle && t.alert &&
        (t.b.station? 330).bind Station.reservation == none) = true := by decide

/-- t = 20: CLEAN, (10, 41) WAITING with retry 1; RESTRICTED with the VEHICLE flag; HOLD(50) placed. -/
theorem test_second_fault :
    let s := firstFault.withB fun b => b.modFU fun f =>
      { f with
        recovery := .recovering
        first := some ⟨.vehicle, some 88, some ⟨10, 12⟩, some .held, 80000⟩
        watch := some ⟨some 88, 140000⟩ }
    let r := { report 57 (.segment 1) (loadJob 321 ⟨10, 41⟩) with level := .major }
    gives (.report r []) s (fun t =>
      t.b.fu.recovery == .restricted && t.b.fu.multiVehicle && t.b.fu.watch == none &&
      (t.b.move? ⟨10, 41⟩).map (fun m => (m.state, m.retry)) == some (.waiting, 1) &&
      t.b.ti.queue == [⟨none, .hold 50⟩] && t.b.ti.buffered == 500) = true := by decide

/-- A delivery turned aside on segment 3, whose port has been taken: shelf 341, two segments ahead, is
chosen before shelf 340, a full circuit round. -/
theorem test_turned_aside :
    let tag : Tag := ⟨10, 40⟩
    let s := ((ready.withCar { car 57 3 with
        state := .loaded, carrier := true, bound := some tag
        job := some (unloadJob 324 (some tag) 324) }).withOrder
        { order 40 321 324 with state := .carrying, vehicle := some 57 }).withStation 324 fun x =>
          { x with state := .empty, reservation := some tag }
    gives (.portState 324 .occupied none)
      (s.withB fun b => { b with si := { b.si with linkReset := true } }) (fun t =>
        (t.b.vehicle? 57).bind Vehicle.job == some (unloadJob 341 (some tag) 324) &&
        (t.b.station? 341).bind Station.reservation == some tag &&
        (t.b.station? 324).bind Station.reservation == none) = true := by decide

/-- The CRC of R132 over the nine characters 1 to 9, the published check value of this polynomial and
initial value. -/
theorem test_crc : crc16 [0x31, 0x32, 0x33, 0x34, 0x35, 0x36, 0x37, 0x38, 0x39] = 0x29B1#16 := by
  decide

/-- One byte on the line: start bit, most significant bit first, stop bit (R128). -/
theorem test_frame_byte :
    frameByte 0x43#8 = [false, false, true, false, false, false, false, true, true, true] := by decide

/-- The bytes of a HOLD(50) of bay 14, before its CRC: class 0, kind 12, to ALL, four bytes (R127,
R175). -/
theorem test_hold_bytes :
    (recordBytes 14 ⟨none, .hold 50⟩).take 8 = [0x0E, 0x0C, 0xFF, 4, 50, 0, 0, 0] ∧
      hear 10 (recordBytes 14 ⟨none, .hold 50⟩) = .record 14 (.hold 50) := by decide

/-- The same record under this node's own bay, with a bit changed, and cut short (R131 to R134). -/
theorem test_bad_records :
    hear 14 (recordBytes 14 ⟨none, .hold 50⟩) = .ownBay ∧
      hear 10 ((recordBytes 14 ⟨none, .hold 50⟩).set 4 51) = .bad ∧
      hear 10 ((recordBytes 14 ⟨none, .hold 50⟩).take 9) = .fragment ∧
      hear 10 ((recordBytes 14 ⟨none, .hold 50⟩).set 3 41) = .malformed := by decide

/-! ### The image of the configuration above, and start-up -/

/-- The configuration image of R176 for `cfg`, with any bytes before its CRC. -/
def image : List Byte :=
  withCrc <|
    word 122 ++ [10, 16] ++ word 320 ++ word 351 ++ [1, 6] ++ word 40 ++ word 60 ++ word 120 ++
      word 300 ++ word 900 ++ word 1800 ++ [1] ++ word 500 ++ word 2000 ++
      [3, 20, 5, 20, 10, 1, 0] ++ word 30 ++ word 60 ++ word 30 ++ [2, 50, 3, 20, 2] ++
      word 200 ++ word 1000 ++ [3, 10, 6] ++ List.replicate 12 0 ++
      cfg.segments.flatMap (fun g => word g.t ++ [byte g.capacity, byte g.parking]) ++
      cfg.stations.flatMap fun s =>
        word s.number ++ [if s.kind = .port then 0 else 1, byte s.segment]

/-- The image is read as the configuration it spells. -/
theorem test_image : readImage (some image) = .ok cfg := by decide +kernel

/-- Each of the four checks refuses an image that fails it, in their order (R156). -/
theorem test_image_checks :
    readImage none = .error .read ∧ readImage (some (image.take 121)) = .error .read ∧
      readImage (some (image.set 10 1)) = .error .crc ∧
      readImage (some (withCrc ((image.take 120).set 10 16))) = .error .ranges ∧
      readImage (some (withCrc ((image.take 120).set 3 10))) = .error .consistency := by
  decide +kernel

/-- From power-on an image that passes its checks brings the node into LISTEN, with the roll call sent. -/
theorem test_start :
    gives (.configImageRead (some image)) State.reset (fun t =>
      t.cl.node == .listen && t.b.out.zone == [.rollCall] && t.cl.listenEnd == some 2000) = true := by
  decide +kernel

/-! ### Every statement's hypotheses are met -/

/-- `ready` in LISTEN, with the roll-call answers of vehicle `v` due and LISTEN ending at `u`. -/
def listening (v : Nat) (u : Time) : State :=
  { ready with
    cl := { node := .listen, cfg := cfg, listenEnd := some u }
    b := { ready.b with zc := { ready.b.zc with census := some v } } }

theorem test_meets_StepRunsFrontCommand :
    ({ ready with pending := [.readStatus, .resume] } : State).pending = .readStatus :: [.resume] := rfl

theorem test_meets_EmptyQueueLetsTimePass : ready.pending = [] := rfl

theorem test_meets_CommandsKeepToTheirBlocks :
    Instr.readStatus ≠ .powerOn ∧ mayFault .readStatus = false ∧
      mayChangePeers .readStatus = false ∧ ready.b.spoiled = [] := by decide

theorem test_meets_ImageDecidesStart :
    State.reset.cl.node = .config ∧ readImage none = .error .read ∧
      readImage (some image) = .ok cfg ∧ State.reset.rested ∧ State.reset.b.ti.queue = [] ∧
      State.reset.b.ti.line = none := by decide +kernel

/-- At the end of LISTEN to the millisecond with a lower bay's window that overlaps by one station, one
millisecond before it, and with no such window. -/
theorem test_meets_ListenEndsInReadyOrConflict :
    let s := (listening 1 100000).withPeer 9 (goodPeer 289 320 30 0)
    s.cl.node = .listen ∧ s.cl.listenEnd = some 100000 ∧ passed s.now 100000 0 = true ∧ s.rested ∧
      9 < s.cl.cfg.bay.val ∧ (s.b.peer 9).window = some (289, 320) ∧ 289 ≤ s.cl.cfg.limit ∧
      s.cl.cfg.base ≤ 320 ∧ passed (listening 1 100001).now 100001 0 = false ∧
      ((List.range 10).all fun k => (ready.b.peer k).window == none) = true := by decide

theorem test_meets_RollCallTakesAnswersInSlots :
    let s := listening 254 102000
    let r := report 254 (.segment 7) (passJob 1)
    s.cl.node = .listen ∧ s.b.zc.census = some 254 ∧ s.rested ∧ r.vehicle = 254 ∧
      s.b.onRoster 254 = false ∧ 0 < s.b.freeSlots ∧ s.b.inbound? 254 = none ∧
      (∀ m ∈ s.b.mm.moves, m = none) ∧ r.place = .segment 7 ∧ 7 ≤ s.cl.cfg.loopLen + 1 ∧
      r.level ≠ .major ∧ (r.hoist = .idle ∨ r.hoist = .done) ∧ r.carrier = false := by decide

theorem test_meets_PollRoundPollsRosterAndGrantsRoom :
    fourCars.cl.node.running = true ∧ fourCars.WellSized ∧ fourCars.b.UniqueIds ∧
      fourCars.b.zc.roster[0]? = some (some (car 1 5)) := by decide

/-- The polls of the four vehicles, in roster-index order; A, C and D are granted their successors, and
the PARKED B is not (R5, R6, R19). -/
theorem test_poll_round :
    gives (.pollRound []) fourCars (fun t =>
      t.b.out.zone.filterMap ZoneMsg.polled == [1, 2, 3, 4] &&
      t.b.vehicles.map Vehicle.grant == [some 6, none, some 3, some 1]) = true := by decide

/-- On the segment it was on, and on a next segment without a grant: an overrun. -/
theorem test_meets_IdleVehicleReportMovesEntry :
    let s := ready.withCar (car 1 7)
    let r := report 1 (.segment 7) (passJob 1)
    s.cl.node.running = true ∧ s.rested ∧ s.b.vehicle? r.vehicle = some (car 1 7) ∧
      (car 1 7).state = .idle ∧ (car 1 7).bound = none ∧ (car 1 7).relearn = false ∧
      (car 1 7).job = none ∧ r.place = .segment 7 ∧ 7 ≤ s.cl.cfg.loopLen + 1 ∧
      r.atMarker = false ∧ r.motion = .moving ∧ r.carrier = false ∧ r.hoist = .idle ∧
      r.level = .none ∧ s.b.fu.watch.bind Watch.vehicle ≠ some (car 1 7).id := by decide

/-- The clause on a RELEARN entry, of a vehicle that was SILENT before. -/
theorem test_meets_IdleVehicleReportMovesEntry_relearn :
    let v := { car 1 7 with relearn := true, state := .silent }
    let s := ready.withCar v
    s.b.vehicle? 1 = some v ∧ v.bound = none ∧ v.relearn = true ∧ s.b.recordOf 1 = none ∧
      s.b.candidateMoves = [] ∧ s.b.fu.watch.bind Watch.vehicle ≠ some 1 ∧ s.rested ∧
      gives (.report (report 1 (.segment 7) (passJob 1)) []) s
        (fun t => (t.b.vehicle? 1).map Vehicle.state == some .idle) = true := by decide

/-- A vehicle marked RELEARN that a move of this bay names. -/
def relearning (st : MoveState) : State :=
  (ready.withCar { car 1 7 with relearn := true }).withOrder
    { order 0 321 400 with state := st, vehicle := some 1, lastHoist := .raising }

/-- The clause on fault level MAJOR, and what then becomes of the vehicle. -/
theorem test_meets_IdleVehicleReportMovesEntry_major :
    ∀ p ∈ [(MoveState.carrying, true), (.bound, false)],
      let s := relearning p.1
      let r := { report 1 (.segment 7) (passJob 1) with level := .major, carrier := p.2 }
      s.rested ∧ (s.b.vehicle? 1).map (fun v => (v.bound, v.relearn)) = some (none, true) ∧
        (s.b.recordOf 1).map (fun m => (m.tag.home, m.poisoned, m.state)) = some (10, false, p.1) ∧
        s.b.recordOf 1 = s.b.move? ⟨10, 0⟩ ∧ s.b.fu.watch.bind Watch.vehicle ≠ some 1 ∧
        gives (.report r []) s (fun t => (t.b.vehicle? 1).map Vehicle.state == some .faulted) = true := by
  decide

/-- Under MAJOR a load that the REPORT shows complete is none: the move is lost and no GOTO is sent (R18, R160). -/
theorem test_rebuilt_major_ends_no_load :
    gives (.report { report 1 (.segment 1) (loadJob 321 ⟨10, 0⟩) with
        level := .major, hoist := .done, carrier := true } []) (relearning .loading)
      (fun t => t.b.moveState ⟨10, 0⟩ == some .stranded && t.b.out.zone.isEmpty) = true := by decide

/-- A loaded vehicle that a CONSIGNED record names takes its move back, whatever its echo names; an empty one
is bound to nothing (R18, R42, R119). -/
theorem test_rebuilt_consigned :
    (∀ p ∈ [(true, MoveState.carrying, some (⟨10, 0⟩ : Tag)), (false, .consigned, none)],
      gives (.report { report 1 (.segment 7) (passJob 1) with carrier := p.1 } []) (relearning .consigned)
        (fun t => t.b.moveState ⟨10, 0⟩ == some p.2.1 &&
          (t.b.vehicle? 1).bind Vehicle.bound == p.2.2) = true) := by decide

/-- A vehicle TO-SOURCE on segment 1 for its move. -/
def atSource : State :=
  (ready.withCar { car 1 1 with
    state := .toSource, bound := some ⟨10, 0⟩, job := some (loadJob 321 ⟨10, 0⟩) }).withOrder
    { order 0 321 330 with state := .bound, vehicle := some 1 }

/-- A vehicle that took its enter job for a BOUND move is sent to the source when its entry is rebuilt
(R18, R114). -/
theorem test_rebuilt_bound :
    let s := (ready.withCar { car 1 0 with state := .entering, relearn := true }).withOrder
      { order 0 321 330 with state := .bound, vehicle := some 1 }
    gives (.report (report 1 (.segment 1) (enterJob none none)) []) s (fun t =>
      (t.b.vehicle? 1).map (fun v => (v.state, v.job)) ==
        some (.toSource, some (loadJob 321 ⟨10, 0⟩))) = true := by decide

theorem test_meets_LoweringStartsLoad :
    let r := { report 1 (.segment 1) (loadJob 321 ⟨10, 0⟩) with hoist := .lowering, motion := .stopped }
    ∃ v m, atSource.cl.node.running = true ∧ atSource.WellSized ∧
      atSource.b.vehicle? r.vehicle = some v ∧ v.state = .toSource ∧ v.relearn = false ∧
      v.bound = some ⟨10, 0⟩ ∧ (10 : Nat) = atSource.cl.cfg.bay.val ∧
      atSource.b.move? ⟨10, 0⟩ = some m ∧ m.state = .bound ∧
      v.job = some (loadJob m.source ⟨10, 0⟩) ∧ r.echo = loadJob m.source ⟨10, 0⟩ ∧
      r.hoist = .lowering ∧ r.place = .segment v.segment ∧
      v.segment ≤ atSource.cl.cfg.loopLen + 1 ∧ r.level = .none ∧ r.atMarker = false ∧
      r.motion = .stopped ∧ atSource.b.fu.watch.bind Watch.vehicle ≠ some v.id :=
  ⟨{ car 1 1 with
      state := .toSource, bound := some ⟨10, 0⟩, job := some (loadJob 321 ⟨10, 0⟩) },
    { order 0 321 330 with state := .bound, vehicle := some 1 }, by decide⟩

/-- A vehicle at the end of a load at station 321, for a move to `dest` that expects `expected`. -/
def loadingAt (dest : Nat) (expected : Option CarrierId) : State :=
  ((heardPeers.withCar { car 1 1 with
    state := .loading, bound := some ⟨10, 0⟩, job := some (loadJob 321 ⟨10, 0⟩) }).withOrder
    { order 0 321 dest with state := .loading, vehicle := some 1, carrierId := expected }).withStation
      321 fun x => { x with state := .occupied }

def cid (n : Byte) : CarrierId := List.replicate 8 n

def loaded : Report :=
  { report 1 (.segment 1) (loadJob 321 ⟨10, 0⟩) with
    hoist := .done, motion := .stopped, carrier := true, carrierId := some (cid 65) }

/-- The clauses on a load that completes: for a station of this bay, for one of bay 14, and with another
carrier than the expected one. -/
theorem test_meets_LoweringStartsLoad_complete :
    (∀ s ∈ [loadingAt 330 none, loadingAt 400 none, loadingAt 330 (some (cid 66))],
      s.cl.node.active = true ∧ s.WellSized ∧ s.roomFor 1 ∧
      s.b.vehicle? 1 = some { car 1 1 with
        state := .loading, bound := some ⟨10, 0⟩, job := some (loadJob 321 ⟨10, 0⟩) } ∧
      s.b.moveState ⟨10, 0⟩ = some .loading ∧
      (s.b.move? ⟨10, 0⟩).bind Move.vehicle = some 1 ∧ s.b.fu.watch = none) ∧
    (loadingAt 330 none).b.ownsStation (loadingAt 330 none).env 330 = true ∧
    ((loadingAt 330 none).b.station? 330).map Station.segment ≠ some 1 ∧
    (loadingAt 400 none).b.owner (loadingAt 400 none).env 400 = some 14 ∧
    ((loadingAt 400 none).b.peer 14).presence ≠ .absent ∧
    (loadingAt 400 none).b.consignQueued ⟨10, 0⟩ = false ∧
    mismatch none loaded.carrierId = false ∧ mismatch (some (cid 66)) loaded.carrierId = true ∧
    cfg.checkMode = .holdMismatch := by decide

/-- The load of the worked case ends with the vehicle on its way, or held (R50, R51). -/
theorem test_load_complete :
    gives (.report loaded []) (loadingAt 330 none) (fun t =>
      (t.b.vehicle? 1).map (fun v => (v.state, v.job)) ==
        some (.loaded, some (unloadJob 330 (some ⟨10, 0⟩) 330)) &&
      (t.b.station? 321).map Station.state == some .empty) = true ∧
    gives (.report loaded []) (loadingAt 330 (some (cid 66))) (fun t =>
      (t.b.move? ⟨10, 0⟩).map (fun m => (m.state, m.checkHold)) == some (.suspended, true) &&
      t.b.flag .carrier) = true := by decide

/-- The clause on the return of a SILENT vehicle, at each condition of its table (R17). -/
theorem test_meets_ThirdMissedPollSilences_return :
    let v := { car 1 7 with state := .silent }
    let s := ready.withCar v
    let r := report 1 (.segment 7) (passJob 1)
    let after_ (r : Report) (st : RosterState) : Bool := gives (.report r []) s fun t =>
      (t.b.vehicle? 1).map Vehicle.state == some st
    s.rested ∧ s.b.vehicle? 1 = some v ∧ v.relearn = false ∧ v.bound = none ∧
      s.b.candidateMoves = [] ∧ after_ r .idle = true ∧
      after_ { r with carrier := true } .faulted = true ∧
      after_ { r with level := .major } .faulted = true ∧
      after_ { r with hoist := .lowering } .faulted = true ∧
      after_ { r with level := .minor } .idle = true := by decide

theorem test_meets_ThirdMissedPollSilences :
    let v := { car 1 1 with missed := 1 }
    let w := { car 2 1 with missed := 2 }
    let s := (ready.withCar v).withCar w
    s.cl.node.running = true ∧ s.rested ∧ s.b.vehicle? 1 = some v ∧ v.missed < 2 ∧
      s.b.vehicle? 2 = some w ∧ w.missed = 2 := by decide

/-- With exactly the free entries asked for, and with one less. -/
theorem test_meets_LoanVehicleAdmittedOrRefused :
    let i := entry 7 .loan 100000
    let r := report 7 .divert (exitJob none none 10)
    let fill (n : Nat) : State := (ready.withInbound i).withB fun b => b.modRoster fun _ =>
      (List.range n).map (fun k => some (car (100 + k) 3)) ++ List.replicate (24 - n) none
    (∀ n ∈ [21, 22], (fill n).cl.node = .ready ∧ (fill n).WellSized ∧
      (fill n).b.onRoster r.vehicle = false ∧ r.place = .divert ∧
      (fill n).b.inbound? r.vehicle = some i ∧ i.kind = .loan ∧ r.carrier = false) ∧
      1 + (fill 21).cl.cfg.rLoaded ≤ (fill 21).b.freeSlots ∧
      (fill 21).b.occupancy 0 < (fill 21).b.working 0 ∧
      ¬ (1 + (fill 22).cl.cfg.rLoaded ≤ (fill 22).b.freeSlots) := by decide

theorem test_meets_CostLearningAndUrgency :
    8 ≤ 8 ∧ 8 ≤ 32760 ∧ max (max 8 (8 / 4)) (min (1000 * 2 / 25) (min (4 * 8) 32760)) = 32 ∧
      max (max 8 (32760 / 4)) (min (1000 * 2 / 25) (min (4 * 32760) 32760)) = 8190 := by decide

theorem test_meets_BindingPassLeavesNoPair :
    (fourCars.b.zc.roster.length = Config.rosterSize) ∧
      (Blocks.bindPairs fourCars.env Config.rosterSize
        (fourCars.withOrder (order 0 322 330)).b).candidateMoves = [] := by decide

/-- The law: a WAITING move beside a vehicle on the exit spur, and a second move that is accepted. -/
theorem test_meets_BindingPassLeavesNoPair_law :
    let s := ((ready.withOrder (order 0 321 330)).withCar (car 1 7)).withStation 322 fun x =>
      { x with state := .occupied }
    s.Sized ∧ s.MovesSound ∧ s.b.UniqueIds ∧ s.LawOfBinding ∧ s.b.candidateMoves ≠ [] ∧
      (s.withCar (car 2 7)).b.candidates.length = 2 ∧ ¬ (s.withCar (car 2 1)).LawOfBinding ∧
      s.leavesSpur (.moveReq 322 324 .normal none none) = false ∧
      gives (.moveReq 322 324 .normal none none) s (fun t => decide t.LawOfBinding) = true := by
  decide

/-- A port OCCUPIED, a full Move Table, and the requests that fail each check. -/
def loadedPort : State := ready.withStation 322 fun x => { x with state := .occupied }

def fullTable : State :=
  loadedPort.withB fun b => b.modMoves fun _ => List.replicate 64 (some (order 0 321 330))

theorem test_meets_MoveReqRefusedInOrder :
    (∀ s ∈ [ready.inNode .listen, loadedPort, fullTable],
      s.cl.node.running = true ∧ s.WellSized) ∧
      (ready.inNode .listen).cl.node ≠ .ready ∧ loadedPort.b.station? 323 = none ∧
      (loadedPort.b.station? 330).map Station.state = some .offline ∧
      (loadedPort.b.station? 322).map Station.state = some .occupied ∧
      ¬ loadedPort.routed 323 ∧ ¬ loadedPort.routed 352 ∧ ¬ fullTable.b.mm.moves.contains none := by
  decide

/-- Each check gives its own refusal, the first that fails deciding (R43). -/
theorem test_refusals :
    let ask (source dest : Nat) (s : State) : Option StationMsg :=
      match exec (.moveReq source dest .hot none none) s with
      | .next t => t.b.out.station.head?
      | _ => none
    let busy := loadedPort.withStation 322 fun x => { x with active := some ⟨10, 1⟩ }
    [ask 323 323 (ready.inNode .conflict), ask 323 323 loadedPort, ask 330 330 loadedPort,
      ask 322 322 busy, ask 322 322 loadedPort, ask 322 352 loadedPort, ask 322 330 fullTable,
      ask 322 330 loadedPort] =
    [some (.refused .notReady none), some (.refused .unknownSource none),
      some (.refused .sourceEmpty none), some (.refused .duplicate none),
      some (.refused .noRoute none), some (.refused .noRoute none),
      some (.refused .tableFull none), some (.accepted ⟨10, 0⟩)] := by decide

theorem test_meets_MoveReqAccepted :
    ∃ x, loadedPort.cl.node = .ready ∧ loadedPort.WellSized ∧ loadedPort.b.station? 322 = some x ∧
      (x.state = .occupied ∨ x.state = .holding) ∧ x.active = none ∧ loadedPort.routed 330 ∧
      330 ≠ 322 ∧ none ∈ loadedPort.b.mm.moves :=
  ⟨{ stationOf ⟨322, .port, 4⟩ with state := .occupied }, by decide⟩

theorem test_meets_CancelFreesOrRefuses :
    let s := ready.withOrder (order 0 321 330)
    let t := ready.withOrder { order 0 321 330 with state := .loading }
    s.cl.node.running = true ∧ s.WellSized ∧ (⟨3, 0⟩ : Tag).home ≠ s.cl.cfg.bay.val ∧
      s.b.move? ⟨10, 1⟩ = none ∧ s.b.move? ⟨10, 0⟩ = some (order 0 321 330) ∧
      (order 0 321 330).state = .waiting ∧ (∀ x ∈ s.b.stationList, x.followOnDue = false) ∧
      t.WellSized ∧ t.b.moveState ⟨10, 0⟩ = some .loading := by decide

def linked : State := ready.withB fun b => { b with si := { b.si with linkReset := true } }

theorem test_meets_PortStateTaken :
    ready.cl.node.running = true ∧ ready.rested ∧ ready.b.si.linkReset = false ∧ linked.rested ∧
      linked.b.station? 323 = none ∧ (linked.b.station? 340).map Station.kind = some .shelf ∧
      linked.b.si.linkReset = true ∧ (linked.b.station? 321).map Station.kind = some .port := by
  decide

/-- A loaded vehicle on the segment of the reserved port 324, or on its way with a grant into it, behind a
spoiled entry that reads as its twin; with shelves and without. -/
def turned (seg : Nat) (grant : Option Nat) (shelf : StationState) : State :=
  let v := { car 57 seg with
    state := .loaded, carrier := true, bound := some ⟨10, 40⟩, grant := grant
    job := some (unloadJob 324 (some ⟨10, 40⟩) 324) }
  ((((linked.withCar { v with id := 56, bound := none, grant := none, relearn := true }).withCar v
    ).withStation 324 fun x =>
    { x with state := .empty, reservation := some ⟨10, 40⟩ }).withStation 340 fun x =>
    { x with state := shelf }).withStation 341 fun x => { x with state := shelf }

/-- The clauses on the delivery that a report turns aside. -/
theorem test_meets_PortStateTaken_aside :
    ∀ p ∈ [(3, none), (2, some 3)], ∀ q ∈ [StationState.free, .disabled],
      let s := turned p.1 p.2 q
      s.cl.node ≠ .haltedDuplicate ∧ s.rested ∧ s.b.StationsSound ∧ s.b.si.linkReset = true ∧
      (s.b.station? 324).map (fun x => (x.kind, x.state, x.reservation, x.segment)) =
        some (.port, .empty, some ⟨10, 40⟩, 3) ∧
      (s.b.vehicles.filter fun w => w.state == .loaded && !w.relearn && w.aim .unload == some 324 &&
        (w.job.any fun j => j.tag == some ⟨10, 40⟩) &&
        (w.segment == 3 || w.grant == some 3)).map Vehicle.id = [57] ∧
      (s.b.vehicle? 57).map (fun v => (v.job.isSome, (s.b.chooseShelf s.env v).isSome)) =
        some (true, q == .free) := by decide

/-- The spoiled twin does not hide the vehicle whose delivery is decided again (R35). -/
theorem test_spoiled_twin_hides_nothing :
    let aims (target : Target) (t : State) : Bool :=
      ((t.b.vehicle? 57).bind Vehicle.job).map Job.target == some target
    gives (.portState 324 .offline none) (turned 3 none .free) (aims (.station 341)) ∧
    gives (.portState 324 .offline none) (turned 3 none .disabled) (aims (.segment 3)) := by decide

theorem test_meets_ShelfStateTaken :
    let s := (linked.withStation 340 fun x => { x with state := .holding }).withStation 341 fun x =>
      { x with state := .disabled }
    linked.cl.node.running = true ∧ linked.rested ∧ linked.b.si.linkReset = true ∧
      (linked.b.station? 340).map (fun x => (x.kind, x.state)) = some (.shelf, .free) ∧
      linked.b.unloadingAt 340 = false ∧ s.rested ∧
      (s.b.station? 340).map (fun x => (x.kind, x.state)) = some (.shelf, .holding) ∧
      (s.b.station? 341).map (fun x => (x.kind, x.state)) = some (.shelf, .disabled) := by
  decide

/-- READ at both ends of every table, and just beyond (R171). -/
theorem test_read_bounds :
    let out (table index : Nat) : Option Reply :=
      match exec (.read table index) ready with
      | .next t => t.b.out.service
      | _ => none
    let bad := some (.result .badIndex)
    out 0 63 = some (.entry (.move none)) ∧ out 0 64 = bad ∧
      out 1 23 = some (.entry (.roster none)) ∧ out 1 24 = bad ∧
      out 2 15 = some (.entry (.inbound none)) ∧ out 2 16 = bad ∧
      out 3 7 = some (.entry (.segment (ready.b.segView 7))) ∧ out 3 8 = bad ∧
      out 4 31 = some (.entry (.station none)) ∧ out 4 32 = bad ∧
      out 5 31 = some (.entry (.peer Peer.unknown)) ∧ out 5 32 = bad ∧
      out 6 7 = some (.entry (.call none)) ∧ out 6 8 = bad ∧
      out 7 7 = some (.entry (.bid none)) ∧ out 7 8 = bad ∧ out 8 0 = bad ∧
      ready.cl.node.running = true ∧ (31 : Nat) ≠ ready.cl.cfg.bay.val := by decide

theorem test_meets_ArbitrationLeavesSmallest : 5 ≤ 5 ∧ 31 < 32 ∧ 0 < 32 := by decide

/-- A record at the head, and one on the line: a STATUS and a HOLD. -/
theorem test_meets_TransmitCycle :
    let r : Record := ⟨none, .cancel 1⟩
    let s := ready.withB fun b => b.modTI fun t => { t with queue := [r] }
    let u := ready.withB fun b => b.modTI fun t => { t with line := some r }
    let h := ready.withB fun b => b.modTI fun t => { t with line := some ⟨none, .hold 0⟩ }
    s.WellSized ∧ s.cl.node.active = true ∧ s.b.ti.mute = false ∧ s.b.ti.line = none ∧
      s.b.ti.queue = r :: [] ∧ u.WellSized ∧ u.b.ti.line = some r ∧ r.isHold = false ∧
      u.b.ti.queue.any (replaces r) = false ∧ h.WellSized ∧
      h.b.ti.line = some ⟨none, .hold 0⟩ := by decide

/-- The clauses on a record that comes back: a STATUS while a newer one waits, and either HOLD. -/
theorem test_meets_TransmitCycle_back :
    let st (n : Nat) : Record :=
      ⟨none, .status ⟨.ready, .normal, .good, 320, 351, 40, 10, n, [], false⟩⟩
    let s := ready.withB fun b => b.modTI fun t => { t with queue := [st 2], line := some (st 1) }
    s.WellSized ∧ s.b.ti.line = some (st 1) ∧ s.b.ti.queue.any (replaces (st 1)) = true ∧
    (∀ d ∈ [0, 50], let h := ready.withB fun b => b.modTI fun t =>
        { t with line := some ⟨none, .hold d⟩, holdingUntil := some 104000 }
      h.WellSized ∧ h.HoldsOnce ∧ h.b.ti.Ordered ∧ Record.isHold ⟨none, .hold d⟩ = true ∧
      h.b.ti.line = some ⟨none, .hold d⟩ ∧ h.b.holdCause h.env = false ∧
      (h.withB fun b => b.modFU fun f => { f with recovery := .restricted }).b.holdCause h.env =
        true) := by decide

/-- A HOLD that comes back without its cause is withdrawn, and HOLD(0) ends the holding (R141). -/
theorem test_hold_comes_back :
    let h := ready.withB fun b => b.modTI fun t =>
      { t with line := some ⟨none, .hold 50⟩, holdingUntil := some 104000 }
    gives .arbitrationLost h (fun t => t.b.ti.queue == [⟨none, .hold 0⟩]) = true := by decide

/-- The eighth bad outcome makes the link DEGRADED, and the fourth left makes it GOOD again. -/
theorem test_meets_DiscardedRecordsEnterWindow :
    let bad (n : Nat) (x : LinkState) : State := ready.withB fun b => b.modTI fun t =>
      { t with outcomes := List.replicate n false ++ List.replicate (64 - n) true, receive := x }
    (bad 7 .good).cl.node.running = true ∧ (bad 7 .good).WellSized ∧
      gives .badRecord (bad 7 .good) (fun t => t.b.ti.receive == .degraded) = true ∧
      gives .badRecord (bad 6 .good) (fun t => t.b.ti.receive == .good) = true ∧
      gives .trunkFragment (bad 3 .degraded) (fun t => t.b.ti.receive == .good) = true ∧
      gives .malformedRecord (bad 4 .degraded) (fun t => t.b.ti.receive == .degraded) = true := by
  decide

theorem test_meets_OwnBayRecordHalts :
    ready.rested ∧ ready.cl.node.active = true ∧ (ready.inNode .haltedDuplicate).rested ∧
      (ready.inNode .haltedDuplicate).cl.node = .haltedDuplicate ∧
      bodyInRange (.hold 50) = true ∧ bodyInRange (.bid 1 7 40) = true := by decide

theorem test_meets_RecordsAndJobsRoundTrip :
    (Body.hold 50).wf = true ∧ (14 : Bay).val ≠ 10 ∧ kindToAll (kindCode (.hold 50)) = true ∧
      (Body.bid 1 7 40).wf = true ∧ kindToAll (kindCode (.bid 1 7 40)) = false ∧ 31 < 32 ∧
      (loadJob 321 ⟨10, 0⟩).wf = true := by decide

/-- A window that has moved to overlap by one station, from a lower and from a higher bay. -/
theorem test_meets_StatusOverwritesPeer :
    let st : StatusBody := ⟨.ready, .normal, .good, 289, 320, 30, 10, 1, [300], false⟩
    heardPeers.hears 7 ∧ heardPeers.hears 14 ∧ heardPeers.WellSized ∧
      (heardPeers.b.peer 31).presence = .unknown ∧ bodyInRange (.status st) = true ∧
      heardPeers.cl.node = .ready ∧ (7 : Bay).val < heardPeers.cl.cfg.bay.val ∧
      (heardPeers.b.peer 7).window ≠ some (st.base, st.limit) ∧
      st.base ≤ heardPeers.cl.cfg.limit ∧ heardPeers.cl.cfg.base ≤ st.limit ∧
      (heardPeers.withB fun b => b.modTI fun t =>
        { t with lost := true, mute := true, muteHeard := 31 }).WellSized := by decide

theorem test_meets_HoldLinkAndForeignRecords :
    heardPeers.hears 14 ∧ (64 : Nat) ≤ 64 ∧ ready.cl.node.running = true ∧
      (31 : Bay) ≠ ready.cl.cfg.bay ∧ ready.WellSized ∧ (ready.b.peer 31).presence ≠ .present ∧
      (ready.withB fun b => b.modTI fun t => { t with lost := true }).WellSized := by decide

/-- An idle vehicle and no candidate move, K_keep being 0; and each reason to stay silent. -/
theorem test_meets_CallGetsOneBid :
    let s := heardPeers.withCar (car 1 5)
    let v := car 1 5
    s.hears 14 ∧ s.WellSized ∧ s.b.UniqueIds ∧ s.roomFor 2 ∧ (14 : Bay).val < s.cl.cfg.nBays ∧
      (∀ x ∈ s.b.du.bids, ¬ (x.caller = 14 ∧ x.id = 1)) ∧ s.cl.node = .ready ∧
      s.b.fu.recovery = .normal ∧ s.b.candidateMoves = [] ∧ s.b.du.bids.length < 8 ∧
      s.cl.cfg.kKeep < s.b.idleCount ∧
      (s.b.rank s.env s.b.candidates .exit).head? = some (39, v) ∧
      heardPeers.b.idleCount ≤ heardPeers.cl.cfg.kKeep ∧ heardPeers.WellSized := by decide

/-- A call with a best bid of bay 9 at 166: bay 6 at the same cost is before it, bay 14 is not. -/
theorem test_meets_BidComparedWithBest :
    let m := { order 0 322 330 with state := .calling }
    let c := callOf 1 0 (some ⟨9, 3, 166⟩)
    let s := (heardPeers.withOrder m).withB fun b => b.modCalls fun _ => [c]
    s.hears 14 ∧ s.b.du.calls.find? (fun x => x.id == 1) = some c ∧ s.b.move? c.tag = some m ∧
      m.state = .calling ∧ 1 ≤ 254 ∧ 254 ≤ 254 ∧ (0 : Nat) < 1 ∧ s.cl.cfg.nBays ≤ 16 := by decide

/-- A bid from bay 16, which is off a loop of 16 bays, displaces no best bid (R70). -/
theorem test_bid_off_loop :
    let m := { order 0 322 330 with state := .calling }
    let s := ((heardPeers.withOrder m).withPeer 16 (goodPeer 500 531 30 2)).withB fun b =>
      b.modCalls fun _ => [callOf 1 0 (some ⟨31, 3, 65535⟩)]
    gives (.bid 16 1 7 1) s (fun t =>
      t.b.du.calls.map (fun c => (c.bids, c.best)) == [(1, some ⟨31, 3, 65535⟩)]) = true := by
  decide

theorem test_meets_AwardHonoured :
    let s := (heardPeers.withCar { car 1 5 with reserved := true }).withB fun b =>
      b.modBids fun _ => [bidOf 14 2 1]
    let v := { car 1 5 with reserved := true }
    s.hears 14 ∧ s.WellSized ∧ s.roomFor 2 ∧ (31 : Nat) ≤ 31 ∧
      s.b.du.bids.find? (bidFor 14 2) = some (bidOf 14 2 1) ∧
      s.b.vehicle? (bidOf 14 2 1).vehicle = some v ∧ (10 : Nat) = s.cl.cfg.bay.val ∧
      s.cl.node.active = true ∧ (31 : Nat) ≠ s.cl.cfg.bay.val := by decide

/-- An award that names another free vehicle than the bid did sends that one, under the call's tag (R103,
R105). -/
theorem test_award_other_vehicle :
    let s := ((heardPeers.withCar { car 1 5 with reserved := true }).withCar (car 2 5)).withB fun b =>
      b.modBids fun _ => [bidOf 14 2 1]
    gives (.award 14 2 10 2) s (fun t =>
      (t.b.vehicle? 2).map (fun v => (v.state, v.bound)) ==
        some (.toExit, some (bidOf 14 2 1).tag) &&
      (t.b.vehicle? 1).map Vehicle.reserved == some false) = true := by decide

theorem test_meets_BidReleasedByCancelOrHoldEnd :
    let s := (heardPeers.withCar { car 1 5 with reserved := true }).withB fun b =>
      b.modBids fun _ => [bidOf 14 2 1]
    s.rested ∧ s.hears 14 ∧ bidFor 14 2 (bidOf 14 2 1) = true ∧ bidOf 14 2 1 ∈ s.b.du.bids ∧
      passed s.now (bidOf 14 2 1).holdEnd 0 = true := by decide

/-- The call of an AWARDED move, won by bay 14. -/
def awarded : State :=
  (heardPeers.withOrder { order 0 322 330 with state := .awarded, callId := some 1 }).withB fun b =>
    b.modCalls fun _ => [callOf 1 0 (some ⟨14, 7, 100⟩)]

theorem test_meets_SentBindsAwardedMove :
    awarded.hears 14 ∧ awarded.b.awardedCall 14 1 = some (callOf 1 0 (some ⟨14, 7, 100⟩)) ∧
      awarded.b.known 7 = false := by decide

theorem test_meets_FailedAwardReturnsMove :
    let c := callOf 1 0 (some ⟨14, 7, 100⟩)
    awarded.WellSized ∧
      awarded.b.move? c.tag = some { order 0 322 330 with state := .awarded, callId := some 1 } ∧
      awarded.hears 14 ∧ awarded.b.awardedCall 14 1 = some c ∧
      awarded.b.du.calls.find? (fun x => x.id == 1) = some c ∧
      (c.awardDeadline.any fun u => passed awarded.now u 0) = true := by decide

/-- Asked for one vehicle and for four, with one to give and with none. -/
theorem test_meets_AskAnsweredWithLoan :
    let s := heardPeers.withCar (car 1 5)
    s.hears 14 ∧ s.WellSized ∧ s.roomFor 2 ∧ 1 ≤ 1 ∧ (4 : Nat) ≤ 4 ∧ s.cl.node.active = true ∧
      (s.b.peer 14).holdUntil = none ∧ s.cl.node = .ready ∧ s.b.fu.recovery = .normal ∧
      s.b.candidateMoves = [] ∧ min 4 (s.b.idleCount - s.cl.cfg.kKeep) = 1 ∧
      (heardPeers.inNode .conflict).hears 14 ∧ (heardPeers.inNode .conflict).WellSized ∧
      (heardPeers.inNode .conflict).cl.node ≠ .ready := by decide

theorem test_meets_LoanClosesAsk :
    let a : Ask := ⟨0, 14, 2, 100000⟩
    let s := heardPeers.withB fun b => b.modDU fun d => { d with ask := some a }
    s.WellSized ∧ s.b.du.ask = some a ∧ s.hears 14 ∧ a.lender = (14 : Bay).val ∧
      [5, 6].length ≤ 4 ∧ [5, 6].length ≤ a.count ∧ [5, 6].Nodup ∧
      (∀ v ∈ [5, 6], s.b.known v = false) ∧ passed s.now a.deadline 0 = true := by decide

theorem test_meets_ConsignAnswered :
    let full := heardPeers.withB fun b =>
      b.modInbound fun _ => (List.range 16).map fun k => entry (50 + k) .loan 100000
    heardPeers.hears 14 ∧ heardPeers.roomFor 2 ∧ heardPeers.cl.node.active = true ∧
      heardPeers.b.known 7 = false ∧
      (∀ i ∈ heardPeers.b.zc.inbound, ¬ (i.kind = .loaded ∧ i.source = 14 ∧ i.ref = 1)) ∧
      (heardPeers.inNode .listen).hears 14 ∧ (heardPeers.inNode .listen).cl.node = .listen ∧
      heardPeers.b.station? 323 = none ∧ (heardPeers.b.station? 330).isSome = true ∧
      1 ≤ heardPeers.b.room ∧ full.hears 14 ∧ full.b.known 7 = false ∧ full.b.room = 0 ∧
      (∀ i ∈ full.b.zc.inbound, ¬ (i.kind = .loaded ∧ i.source = 14 ∧ i.ref = 1)) := by
  decide

/-- A CARRYING move whose CONSIGN awaits its answer. -/
def waiting (retry : Bool) : State :=
  (heardPeers.withCar { car 1 5 with state := .toExit, carrier := true, bound := some ⟨10, 0⟩ }
    ).withOrder { order 0 322 400 with
      state := .carrying, vehicle := some 1, consignId := some 1
      wait := some { retry := retry, deadline := 100000 } }

theorem test_meets_AcceptActsByResult :
    let v := { car 1 5 with state := .toExit, carrier := true, bound := some ⟨10, 0⟩ }
    let m := { order 0 322 400 with
      state := .carrying, vehicle := some 1, consignId := some 1
      wait := some { retry := false, deadline := 100000 } }
    (waiting false).hears 14 ∧ (waiting false).WellSized ∧
      ((waiting false).b.moveList.map Move.tag).Nodup ∧
      (waiting false).b.acceptedMove 2 1 = none ∧ (waiting false).b.acceptedMove 1 1 = some m ∧
      (waiting false).b.vehicle? 1 = some v ∧ v.relearn = false ∧
      m.wait = some { retry := false, deadline := 100000 } := by decide

theorem test_meets_DoneClosesMove :
    let m := { order 0 322 400 with state := .consigned, consignee := some 14 }
    let s := heardPeers.withOrder m
    s.hears 14 ∧ s.WellSized ∧ s.b.move? ⟨10, 1⟩ = none ∧ s.b.move? ⟨10, 0⟩ = some m ∧
      (10 : Nat) = s.cl.cfg.bay.val ∧ m.consignee = some (14 : Bay).val ∧ m.poisoned = false ∧
      m.state = .consigned ∧ (∀ x ∈ s.b.stationList, x.followOnDue = false) := by decide

/-- A vehicle at the end of its unload at a station, under a job to `dest` for a tag. -/
def unloadingAt (station dest : Nat) (tag : Tag) : State :=
  (ready.withCar { car 1 4 with
    state := .unloading, carrier := true, bound := some tag
    job := some (unloadJob station (some tag) dest) }).withOrder
    { order 0 321 dest with state := .carrying, vehicle := some 1 }

def unloaded (station dest : Nat) (tag : Tag) : Report :=
  { report 1 (.segment 4) (unloadJob station (some tag) dest) with
    hoist := .done, motion := .stopped }

/-- The clauses on an unload that completes: delivered at its port, set down on a shelf, and reported to
another home bay. -/
theorem test_meets_DoneClosesMove_unload :
    (∀ x ∈ [(322, 322, (⟨10, 0⟩ : Tag)), (340, 322, ⟨10, 0⟩), (322, 322, ⟨14, 5⟩)],
      let s := unloadingAt x.1 x.2.1 x.2.2
      s.cl.node.active = true ∧ s.WellSized ∧ s.roomFor 1 ∧ x.2.2.home ≤ 31 ∧
      s.b.vehicle? 1 = some { car 1 4 with
        state := .unloading, carrier := true, bound := some x.2.2
        job := some (unloadJob x.1 (some x.2.2) x.2.1) } ∧
      (s.b.station? x.1).map Station.disablePending = some false ∧
      (∀ y ∈ s.b.stationList, y.followOnDue = false) ∧
      s.b.move? ⟨10, 0⟩ = some { order 0 321 x.2.1 with state := .carrying, vehicle := some 1 } ∧
      s.env.inWindow x.2.1 = true ∧ s.b.fu.watch = none) := by decide

/-- A delivery, a carrier set down on a shelf for its port, and a foreign one (R55, R126). -/
theorem test_unload_complete :
    gives (.report (unloaded 322 322 ⟨10, 0⟩) []) (unloadingAt 322 322 ⟨10, 0⟩) (fun t =>
      t.b.out.station == [.moveDone ⟨10, 0⟩ .delivered] &&
      (t.b.station? 322).map Station.state == some .occupied) = true ∧
    gives (.report (unloaded 340 322 ⟨10, 0⟩) []) (unloadingAt 340 322 ⟨10, 0⟩) (fun t =>
      t.b.out.station == [.moveDone ⟨10, 0⟩ .deliveredToShelf] &&
      (t.b.station? 340).map (fun x => (x.state, x.finalDest)) == some (.holding, some 322)) =
        true ∧
    gives (.report (unloaded 322 322 ⟨14, 5⟩) []) (unloadingAt 322 322 ⟨14, 5⟩) (fun t =>
      t.b.ti.queue.contains ⟨some 14, .done ⟨14, 5⟩ 1 (.deliveredPort (some 322))⟩) = true := by
  decide

/-- A shelf given in the wait queue counts as turned aside (R36), and a DONE with HELD drops the reservation
of its move (R32). -/
theorem test_turned_aside_and_held :
    gives (.report (unloaded 340 340 ⟨10, 0⟩) []) ((unloadingAt 340 340 ⟨10, 0⟩).withB fun b =>
      b.modVehicle 1 fun v => { v with given := true }) (fun t =>
        t.b.out.station == [.moveDone ⟨10, 0⟩ .deliveredToShelf]) = true ∧
    gives (.done 14 ⟨10, 0⟩ 9 (.fault true))
      ((heardPeers.withOrder { order 0 322 400 with state := .consigned, consignee := some 14 }).withB
        fun b => b.modStation 322 fun x => { x with state := .empty, reservation := some ⟨10, 0⟩ }) (fun t =>
          t.b.stationList.all fun x => x.reservation.isNone) = true := by decide

/-- MAJOR is an urgent fault though the hoist works out of place (R16, R159), a job done frees its vehicle
for a grant (R5), and a refusal that reads no entry leaves a failed bit waiting (R166, R171). -/
theorem test_review_points :
    gives (.report { unloaded 322 322 ⟨10, 0⟩ with hoist := .raising, level := .major, carrier := true } [])
      ((unloadingAt 322 322 ⟨10, 0⟩).withB fun b => b.modVehicle 1 fun v => { v with state := .loadedWait })
      (fun t => t.b.fu.recovery == .recovering) = true ∧
    gives (.pollRound []) ((unloadingAt 322 322 ⟨10, 0⟩).withB fun b =>
      b.modVehicle 1 fun v => { v with jobDone := true }) (fun t => t.b.out.zone == [.poll 1 true]) = true ∧
    gives (.restoreSegment 255) ((unloadingAt 322 322 ⟨10, 0⟩).withB fun b =>
      { b with spoiled := [⟨.move, 0, false⟩] }) (fun t =>
        t.b.spoiled.length == 1 && t.b.out.service == some (.result .badIndex)) = true := by decide

/-- At the expiry to the millisecond; half-way through a hold of 50 ds with a full roster; at its end. -/
theorem test_meets_StatusAndHoldTimers :
    let s := ready.withB fun b => (b.modTI fun t =>
      { t with statusDue := 100000, holdingUntil := some 102500 }).modRoster fun _ =>
        (List.range 22).map (fun k => some (car (100 + k) 3)) ++ [none, none]
    let u := ready.withB fun b => b.modTI fun t => { t with holdingUntil := some 100000 }
    s.rested ∧ s.cl.node.active = true ∧ passed s.now s.b.ti.statusDue 0 = true ∧ s.roomFor 1 ∧
      s.b.holdCause s.env = true ∧ s.b.ti.holdingUntil = some 102500 ∧
      2 * since 102500 s.now ≤ (s.cl.cfg.quanta * 100 : Nat) ∧ 1 ≤ s.cl.cfg.quanta ∧
      s.b.ti.holds isHoldQuanta = false ∧ u.rested ∧ u.b.ti.holdingUntil = some 100000 ∧
      passed u.now 100000 0 = true := by decide

/-- Each age at its limit to the millisecond. -/
theorem test_meets_SilenceAgesPeers :
    let s := ((heardPeers.withPeer 14 fun p =>
        { p with lastHeard := some 97000, holdUntil := some 100000 }).withPeer 9 fun p =>
        { p with presence := .stale, staleSince := some 90000 }).withB fun b =>
        b.modTI fun t => { t with heardAt := 97000 }
    s.cl.node.running = true ∧ s.rested ∧ s.b.ti.lost = false ∧
      passed s.now s.b.ti.heardAt (s.cl.cfg.tSilent * 1000) = true ∧
      (14 : Bay) ≠ s.cl.cfg.bay ∧ (s.b.peer 14).presence = .present ∧
      (s.b.peer 14).lastHeard = some 97000 ∧
      passed s.now 97000 (3 * (s.b.peer 14).period.getD 50 * 100) = true ∧
      passed (s.now - 1) 97000 (3 * (s.b.peer 14).period.getD 50 * 100) = false ∧
      (9 : Bay) ≠ s.cl.cfg.bay ∧ (s.b.peer 9).presence = .stale ∧
      (s.b.peer 9).staleSince = some 90000 ∧
      passed s.now 90000 (s.cl.cfg.tAbsent * 1000) = true ∧
      (s.b.peer 14).holdUntil = some 100000 ∧ passed s.now 100000 0 = true := by decide

/-- The clause on the waits of a peer that becomes ABSENT, for a FAULTED vehicle, for one marked RELEARN, and for
one TO-EXIT; a consignee of an earlier TAKEN gives the rebuilt vehicle no clearance (R121, R124). -/
theorem test_meets_SilenceAgesPeers_waits :
    (∀ p ∈ [(RosterState.faulted, false), (.idle, true), (.toExit, false)],
      let s := (((heardPeers.withPeer 14 fun q =>
          { q with presence := .stale, staleSince := some 90000 }).withCar { car 1 5 with
        state := p.1, relearn := p.2, carrier := true, bound := some ⟨10, 0⟩ })).withOrder
        { order 0 322 400 with
          state := .carrying, vehicle := some 1, consignId := some 1, consignee := some 14
          wait := some { retry := false, deadline := 100000 } }
      s.rested ∧ (s.b.peer 14).presence = .stale ∧
        (s.b.move? ⟨10, 0⟩).map (fun m => (m.state, m.wait.isSome)) = some (.carrying, true) ∧
        s.b.owner s.env 400 = some 14 ∧ s.b.onRoster 1 = true ∧
        gives (.peerAbsent 14) s (fun t => (t.b.move? ⟨10, 0⟩).map
          (fun m => (m.state, m.wait, m.cleared, m.consignee)) == some (.carrying, none, false, some 14))
          = true) := by decide

theorem test_meets_CallWindowDecides :
    let with_ (best : Option BestBid) : State :=
      (heardPeers.withOrder { order 0 322 330 with state := .calling, callId := some 1 }).withB
        fun b => b.modCalls fun _ => [callOf 1 0 best]
    (∀ best ∈ [none, some ⟨14, 7, 100⟩], (with_ best).WellSized ∧
      (with_ best).b.du.calls.find? (fun x => x.id == 1) = some (callOf 1 0 best) ∧
      (with_ best).b.moveState (callOf 1 0 best).tag = some .calling ∧
      passed (with_ best).now (callOf 1 0 best).windowEnd 0 = true ∧
      (with_ best).cl.node.active = true ∧ (with_ best).roomFor 1) ∧
      1 ≤ cfg.wRecall ∧ cfg.wRecall ≤ 30 := by decide

theorem test_meets_CallPassOpensCall :
    let s := ready.withOrder (order 0 322 330)
    s.rested ∧ s.roomFor 1 ∧ s.b.mayCall s.env = true ∧
      sortBy (Move.before s.now) (s.b.moveList.filter (Move.eligible s.now)) =
        order 0 322 330 :: [] := by decide

theorem test_meets_StarvationAsksLender :
    let s := heardPeers.withB fun b => b.modDU fun d => { d with starve := some 90000 }
    s.WellSized ∧ s.roomFor 1 ∧ s.cl.node = .ready ∧ s.b.fu.recovery ≠ .restricted ∧
      s.b.ti.linkUp = true ∧ s.b.du.ask = none ∧ s.b.du.starve = some 90000 ∧
      passed s.now 90000 (s.cl.cfg.tStarve * 1000) = true ∧ s.b.lender s.env = some 14 ∧
      1 = min (min 4 (s.cl.cfg.fMin - s.b.supply)) s.b.room := by decide

theorem test_meets_ConsignmentWaitRetries :
    let m (retry : Bool) : Move := { order 0 322 400 with
      state := .carrying, vehicle := some 1, consignId := some 1
      wait := some { retry := retry, deadline := 100000 } }
    let v := { car 1 5 with state := .toExit, carrier := true, bound := some ⟨10, 0⟩ }
    (∀ r ∈ [true, false], (waiting r).WellSized ∧ (waiting r).b.move? ⟨10, 0⟩ = some (m r) ∧
      (m r).state = .carrying ∧ passed (waiting r).now 100000 0 = true ∧
      (waiting r).b.consignQueued ⟨10, 0⟩ = false) ∧
      (waiting true).cl.node.active = true ∧ (waiting true).roomFor 1 ∧
      (m true).vehicle.bind (waiting true).b.vehicle? = some v ∧
      (waiting true).b.owner (waiting true).env 400 = some 14 ∧
      ((waiting true).b.peer 14).presence ≠ .absent := by decide

/-- The clause on a vehicle that leaves at the merge marker. -/
theorem test_meets_ConsignmentWaitRetries_merged :
    let j := exitJob (some ⟨10, 0⟩) (some 400) 14
    let v := { car 1 7 with
      state := .toExit, carrier := true, bound := some ⟨10, 0⟩, clearance := true, job := some j }
    let m := { order 0 322 400 with state := .carrying, vehicle := some 1 }
    let s := (heardPeers.withCar v).withOrder m
    s.WellSized ∧ s.cl.node.running = true ∧ s.b.vehicle? 1 = some v ∧ v.relearn = false ∧
      s.b.move? ⟨10, 0⟩ = some m ∧ (v.job.any fun j => j.target == .recirculate) = false ∧
      gives (.report { report 1 .merged j with carrier := true } []) s (fun t =>
        t.b.moveState ⟨10, 0⟩ == some .consigned && !t.b.onRoster 1) = true := by decide

/-- Late by slack_in, and missing by three times slack_in, to the millisecond. -/
theorem test_meets_InboundGoesLateThenMissing :
    let i := entry 7 .loaded 70000
    let j := entry 8 .loaded 10000
    let s := (heardPeers.withInbound i).withInbound j
    s.WellSized ∧ s.b.inbound? 7 = some i ∧ i.late = false ∧
      passed s.now i.expected (s.cl.cfg.slackIn * 1000) = true ∧ s.b.inbound? 8 = some j ∧
      passed s.now j.expected (3 * s.cl.cfg.slackIn * 1000) = true ∧ j.kind = .loaded ∧
      j.tag = some ⟨14, 3⟩ ∧ j.source ≠ s.cl.cfg.bay.val ∧ s.cl.node.active = true ∧
      s.roomFor 1 := by decide

theorem test_meets_DueVehicleParks :
    let v := { car 1 5 with idleSince := 70000 }
    let s := ready.withCar v
    s.cl.node = .ready ∧ s.rested ∧ s.b.vehicle? v.id = some v ∧ v.state = .idle ∧
      v.bound = none ∧ v.relearn = false ∧ s.b.bidNames v.id = false ∧ v.parkTarget = none ∧
      passed s.now v.idleSince (s.cl.cfg.tIdlePark * 1000) = true ∧
      s.b.parkingFor s.env v = some 1 := by decide

theorem test_meets_AgeReviewStopsAge : ready.rested := by decide

/-- The age of a record stops at 4095 s, and the review draws its accepted at forward (R72). -/
theorem test_age_review :
    let s := { ready.withOrder { order 0 321 330 with acceptedAt := 0 } with now := 4095999 }
    gives (.ageReview []) s (fun t =>
      (t.b.move? ⟨10, 0⟩).map Move.acceptedAt == some 999) = true := by decide

/-- The clauses on a spoiled record: its body, and its key (R63, R167). -/
theorem test_meets_AgeReviewStopsAge_parity :
    let m := { order 0 321 330 with state := .bound, vehicle := some 1 }
    let s := ready.withOrder m
    s.WellSized ∧ (0 : Nat) < 64 ∧ s.b.mm.moves[0]? = some (some m) ∧
      (s.b.moveList.map Move.tag).Nodup ∧ s.b.fu.recovery = .normal ∧
      (∀ x ∈ s.b.stationList, x.followOnDue = false) := by decide

/-- The clauses on a MAJOR fault: of a loaded vehicle and of one TO-SOURCE, in each recovery state. -/
theorem test_meets_RecoveryEnds_major :
    let in_ (x : Recovery) : State := firstFault.withB fun b => b.modFU fun f =>
      { f with recovery := x, first := some ⟨.vehicle, some 88, none, some .held, 90000⟩ }
    (∀ x ∈ [Recovery.normal, .recovering, .restricted], (in_ x).rested ∧
      (in_ x).cl.node.running = true ∧
      (∀ p ∈ [(88, (⟨10, 12⟩ : Tag), RosterState.loaded, MoveState.carrying, 3),
          (57, ⟨10, 41⟩, .toSource, .bound, 1)],
        ((in_ x).b.vehicle? p.1).map (fun v => (v.bound, v.state, v.segment, v.relearn)) =
          some (some p.2.1, p.2.2.1, p.2.2.2.2, false) ∧
        ((in_ x).b.move? p.2.1).map (fun m => (m.state, m.vehicle, m.poisoned)) =
          some (p.2.2.2.1, some p.1, false))) ∧
    (in_ .recovering).b.fu.first.bind FirstFault.vehicle = some 88 ∧
    (in_ .recovering).b.fu.first.bind FirstFault.vehicle ≠ some 57 := by decide

theorem test_meets_RecoveryEnds :
    let w : Watch := ⟨some 88, 100000⟩
    let s := ready.withB fun b => b.modFU fun f => { f with recovery := .recovering, watch := some w }
    let r := ready.withB fun b => b.modFU fun f => { f with recovery := .restricted, multiVehicle := true }
    s.rested ∧ s.b.fu.recovery = .recovering ∧ s.b.fu.watch = some w ∧
      passed s.now w.deadline 0 = true ∧ s.cl.node.active = true ∧ s.b.fu.recovery ≠ .restricted ∧
      r.rested ∧ r.b.fu.recovery = .restricted ∧
      (∀ v ∈ r.b.vehicles, v.state ≠ .faulted ∧ v.state ≠ .silent) ∧
      (∃ v ∈ (r.withCar { car 1 5 with state := .silent }).b.vehicles,
        v.state = .faulted ∨ v.state = .silent) := by decide

theorem test_meets_SnapshotGuardsClear :
    ready.cl.node ≠ .config ∧ 0 = ready.b.sp.token.toNat ∧ (65535 : Nat) ≠ ready.b.sp.token.toNat ∧
      State.reset.cl.node = .config := by decide

theorem test_meets_ResolveStranded :
    let m := { order 0 322 330 with state := .stranded }
    let s := loadedPort.withOrder m
    s.cl.node.active = true ∧ s.WellSized ∧ (⟨3, 0⟩ : Tag).home ≠ s.cl.cfg.bay.val ∧
      s.b.move? ⟨10, 1⟩ = none ∧ s.b.move? ⟨10, 0⟩ = some m ∧ m.state = .stranded ∧
      m.poisoned = false ∧ (∀ x ∈ s.b.stationList, x.followOnDue = false) ∧
      (s.b.station? m.source).map Station.state = some .occupied ∧
      (loadedPort.withOrder (order 0 322 330)).WellSized ∧
      (order 0 322 330).state ≠ .stranded ∧ (order 0 322 330).state ≠ .suspended := by decide

/-- The clauses on AT-STATION, and on the refusals, of a STRANDED move. -/
theorem test_meets_ResolveStranded_station :
    let m := { order 0 322 330 with state := .stranded }
    let s := loadedPort.withOrder m
    let p := loadedPort.withOrder { m with poisoned := true }
    let at324 := s.withStation 324 fun x => { x with state := .occupied }
    at324.WellSized ∧ (at324.b.station? 324).map (fun x => (x.active, x.state)) =
      some (none, .occupied) ∧ 324 ≠ m.dest ∧ s.b.station? 323 = none ∧ p.WellSized ∧
      (s.b.station? 324).map Station.state = some .offline ∧
      gives (.resolve ⟨10, 0⟩ (.atStation 324)) at324 (fun t =>
        (t.b.station? 324).bind Station.active == some ⟨10, 0⟩ &&
        (t.b.move? ⟨10, 0⟩).map (fun m => (m.state, m.source, m.retry)) ==
          some (.waiting, 324, 1)) = true := by decide

/-- The clauses on a SUSPENDED move: under check hold, with its vehicle FAULTED, and without it. -/
theorem test_meets_ResolveStranded_suspended :
    let m := { order 0 321 330 with state := .suspended, vehicle := some 1, checkHold := true }
    let v (st : RosterState) : Vehicle := { car 1 1 with
      state := st, bound := some ⟨10, 0⟩, carrier := true, job := some (loadJob 321 ⟨10, 0⟩) }
    (∀ st ∈ [RosterState.loading, .faulted], let s := (ready.withOrder m).withCar (v st)
      s.cl.node.active = true ∧ s.WellSized ∧ s.b.move? ⟨10, 0⟩ = some m ∧
      s.b.vehicle? 1 = some (v st) ∧ (∀ x ∈ s.b.stationList, x.followOnDue = false) ∧
      s.routed 330 ∧ 330 ≠ m.source ∧ s.env.inWindow 323 = true ∧ s.b.station? 323 = none ∧
      s.env.inWindow 100 = false ∧ s.b.owner s.env 100 = none) ∧
    (ready.withOrder m).WellSized ∧ m.vehicle.bind (ready.withOrder m).b.vehicle? = none ∧
    gives (.resolve ⟨10, 0⟩ (.atStation 330)) ((ready.withOrder m).withCar (v .loading)) (fun t =>
      (t.b.move? ⟨10, 0⟩).map (fun m => (m.state, m.checkHold)) == some (.carrying, false)) =
        true := by
  refine ⟨?_, by decide, by decide, by decide⟩
  intro st h
  exact ⟨by revert st; decide, by revert st; decide, by revert st; decide, by revert st; decide,
    by revert st; decide, .inl (by revert st; decide), by decide, by revert st; decide,
    by revert st; decide, by revert st; decide, by revert st; decide⟩

theorem test_meets_RepairsByService :
    let s := (ready.withCar (car 254 5)).withStation 341 fun x => { x with state := .disabled }
    s.cl.node.active = true ∧ s.rested ∧ 1 ≤ 254 ∧ (254 : Nat) ≤ 254 ∧ s.b.onRoster 254 = true ∧
      s.b.onRoster 1 = false ∧ 7 ≤ s.cl.cfg.loopLen + 1 ∧ (s.b.seg? 7).isSome = true ∧
      s.cl.cfg.loopLen + 1 < 8 ∧
      (s.b.si.stations[21]?).map (Option.map fun x => (x.kind, x.state)) =
        some (some (.shelf, .disabled)) ∧
      (s.b.si.stations[1]?).map (Option.map Station.kind) = some (some .port) ∧
      s.b.si.stations[32]? = none := by decide

/-- A node at work: a calling move with its call, a bound one with its vehicle, a vehicle awaited, one
reserved, a HOLD waiting. -/
def working : State :=
  let held (n : Nat) (seq : Id8) (s : State) : State :=
    s.withStation n fun x => { x with active := some ⟨10, seq⟩ }
  let s := ((ready.withOrder { order 0 321 330 with state := .calling, callId := some 1 }).withOrder
    { order 1 322 330 with state := .bound, vehicle := some 5 }).withOrder
    { order 2 324 330 with state := .bound, vehicle := some 7 }
  let s := (s.withCar { car 5 2 with state := .toSource, bound := some ⟨10, 1⟩ }).withCar
    { car 6 2 with reserved := true }
  let s := s.withInbound { entry 7 .emptyForMove 100000 with tag := some ⟨10, 2⟩ }
  (held 321 0 (held 322 1 (held 324 2 s))).withB fun b =>
    ((b.modCalls fun _ => [callOf 1 0 none]).modBids fun _ => [bidOf 14 2 6]).modTI fun t =>
      { t with queue := [⟨none, .hold 50⟩], line := some ⟨none, .hold 0⟩ }

/-- The invariants hold in a node at work, and a step answers a next state there. -/
theorem test_meets_Invariants :
    working.b.UniqueIds ∧ working.b.BidsDistinct ∧ working.b.BidsFree ∧ working.b.ti.Ordered ∧
      working.b.fu.Consistent ∧ working.b.StationsSound ∧ working.Sized ∧
      working.b.PlacesFit ∧ working.MovesSound ∧ working.b.SourcesNamed ∧
      step working = .next working.tick := by
  refine ⟨by decide, by decide, by decide, by decide, by decide, by decide, by decide, by decide,
    by decide, by decide, rfl⟩

theorem test_meets_Invariants_holds : working.HoldsOnce := by decide

theorem test_meets_Invariants_calls : working.b.CallsMatch := by decide

theorem test_meets_Invariants_bindings :
    working.BindingsAgree ∧ (∀ c ∈ working.pending.head?, namesOwnMove 10 c = false) := by decide

theorem test_meets_NodeStateFollowsTable :
    gives .listenEnd (listening 1 100000) (fun t => t.cl.node == .ready) = true ∧
      Instr.listenEnd ≠ .powerOn ∧ Instr.listenEnd ≠ .restart ∧
      gives (.status 7 ⟨.ready, .normal, .good, 289, 320, 30, 10, 1, [], false⟩) heardPeers
        (fun t => t.cl.node == .conflict) = true ∧
      (ready.inNode .haltedDuplicate).cl.node.halted = true := by decide

end Sys2Proof.Tests
end

section
/-! PROOFS. Segment cost, learning of traversal times, and urgency (R23, R64, R72, R73). -/
namespace Sys2Proof.Machine

/-! ### Segment cost (R64) -/

/-- Rounding up: the cost is the least whole number of deciseconds that covers T. -/
theorem segCost_le_iff {t n : Nat} : segCost t ≤ n ↔ t ≤ 8 * n := by
  unfold segCost
  omega

theorem le_mul_segCost (t : Nat) : t ≤ 8 * segCost t := segCost_le_iff.1 le_rfl

theorem mul_segCost_lt (t : Nat) : 8 * segCost t < t + 8 := by
  unfold segCost
  omega

theorem one_le_segCost {t : Nat} (ht : 8 ≤ t) : 1 ≤ segCost t := by
  have := le_mul_segCost t
  omega

theorem segCost_le_4095 {t : Nat} (ht : t ≤ 32760) : segCost t ≤ 4095 := segCost_le_iff.2 ht

/-! ### Learning (R23) -/

/-- A measurement converted to eighths and clamped against the old T (R23, steps 1 and 2). -/
def clampedMeasure (t ms : Nat) : Nat :=
  max (max 8 (t / 4)) (min (ms * 2 / 25) (min (4 * t) 32760))

/-- T moved by an eighth of its difference to `c`, rounded toward T (R23, step 3). -/
def eighthToward (t c : Nat) : Nat := if t ≤ c then t + (c - t) / 8 else t - (t - c) / 8

/-- The clamping branches of R23, step 2, as one maximum and minimum: for a T in range the lower limit is
not above the upper one, so the order in which the two are applied makes no difference. -/
theorem learn_eq {t : Nat} (ms : Nat) (hlo : 8 ≤ t) (hhi : t ≤ 32760) :
    learn t ms = (eighthToward t (clampedMeasure t ms),
      decide (min (4 * t) 32760 < ms * 2 / 25)) := by
  have limits_ordered : max 8 (t / 4) ≤ min (4 * t) 32760 := by omega
  have clamp_eq : (if ms * 2 / 25 < max 8 (t / 4) then max 8 (t / 4)
      else if min (4 * t) 32760 < ms * 2 / 25 then min (4 * t) 32760 else ms * 2 / 25) =
      clampedMeasure t ms := by
    unfold clampedMeasure
    generalize max 8 (t / 4) = lo at *
    generalize min (4 * t) 32760 = hi at *
    split
    case isTrue below => omega
    case isFalse notBelow =>
      split
      case isTrue above => omega
      case isFalse notAbove => omega
  simp only [learn, clamp_eq, eighthToward]

theorem clampedMeasure_mem_range {t : Nat} (ms : Nat) (hhi : t ≤ 32760) :
    8 ≤ clampedMeasure t ms ∧ clampedMeasure t ms ≤ 32760 := by
  unfold clampedMeasure
  omega

/-- R23, step 4. -/
theorem eighthToward_between (t c : Nat) :
    min t c ≤ eighthToward t c ∧ eighthToward t c ≤ max t c := by
  unfold eighthToward
  split
  case isTrue rises => omega
  case isFalse falls => omega

/-- Both ends of the move lie within the range of a learned time, so T does too (R23, step 4). -/
theorem eighthToward_clampedMeasure_mem_range {t : Nat} (ms : Nat) (hlo : 8 ≤ t) (hhi : t ≤ 32760) :
    8 ≤ eighthToward t (clampedMeasure t ms) ∧ eighthToward t (clampedMeasure t ms) ≤ 32760 := by
  obtain ⟨above_min, below_max⟩ := eighthToward_between t (clampedMeasure t ms)
  obtain ⟨clamped_lo, clamped_hi⟩ := clampedMeasure_mem_range ms hhi
  exact ⟨(le_min hlo clamped_lo).trans above_min, below_max.trans (max_le hhi clamped_hi)⟩

/-! ### Urgency (R73) -/

theorem Move.overdue_iff {now : Time} {m : Move} : m.overdue now = true ↔ m.deadline ≤ m.age now :=
  decide_eq_true_iff

theorem Move.urgency_eq_min (now : Time) (m : Move) :
    m.urgency now = min 65535 (classK m.cls + classM m.cls * m.age now +
      if m.deadline ≤ m.age now then 4096 else 0) := by
  simp only [Move.urgency, sat16, Move.overdue_iff, Nat.min_comm]

/-! ### The statement -/

/-- Settles O15. -/
theorem costLearningAndUrgency : Obligations.CostLearningAndUrgency := by
  refine ⟨fun t hlo hhi => ?cost, fun t ms c hlo hhi hc => ?learning, fun now m => ?urgency⟩
  case cost =>
    exact ⟨le_mul_segCost t, mul_segCost_lt t, one_le_segCost hlo, segCost_le_4095 hhi⟩
  case learning =>
    obtain rfl : c = clampedMeasure t ms := hc
    obtain ⟨above_min, below_max⟩ := eighthToward_between t (clampedMeasure t ms)
    obtain ⟨ge_8, le_32760⟩ := eighthToward_clampedMeasure_mem_range ms hlo hhi
    rw [learn_eq ms hlo hhi]
    exact ⟨rfl, above_min, below_max, ge_8, le_32760, decide_eq_true_iff⟩
  case urgency =>
    rw [Move.urgency_eq_min]
    cases m.cls <;> simp only [classK, classM, Nat.zero_add, Nat.one_mul]

end Sys2Proof.Machine
end

section
/-! PROOFS. What a refusal of the station link does to the counters and the tables, and the order
of the checks of a MOVE-REQ (R43). -/
namespace Sys2Proof.Machine
variable {e : Env} {b : Blocks} {k j : Counter}

/-! ### Counters that a command's end leaves alone (R2, R141) -/

theorem Blocks.counter_congr {c : Blocks} (h : c.sp.counters = b.sp.counters) (j : Counter) :
    c.counter j = b.counter j := by
  simp only [Blocks.counter, h]

theorem Blocks.counter_bump_self (h : k.index < b.sp.counters.length) :
    (b.bump k).counter k = sat32 (b.counter k + 1) := by
  simp only [Blocks.bump, b.counter_bumpBy k k 1 h, if_true]

theorem Blocks.counter_bump_of_ne (hne : j.index ≠ k.index) : (b.bump k).counter j = b.counter j := by
  simp [Blocks.counter, Blocks.bump, Blocks.bumpBy, hne.symm]

/-- Placing a record can raise no counter but overflows. -/
theorem Blocks.counter_place (r : Record) (hj : j.index ≠ Counter.overflows.index) :
    (b.place e r).counter j = b.counter j := by
  rcases b.place_cases e r with ⟨-, h⟩ | ⟨-, -, h⟩ | ⟨-, -, -, h⟩ | ⟨-, -, -, h⟩ <;> rw [h]
  case inr.inr.inl => exact counter_bump_of_ne hj
  all_goals rfl

/-- TI's upkeep of HOLD does to the counters what placing one HOLD, or none, does. -/
theorem Blocks.counter_holdUpkeep (half : Bool) (hj : j.index ≠ Counter.overflows.index) :
    (b.holdUpkeep e half).counter j = b.counter j := by
  have placeHold_keeps (c : Blocks) : (c.placeHold e).counter j = c.counter j := by
    rcases c.placeHold_cases e with h | h <;> rw [h]
    exact counter_place _ hj
  unfold Blocks.holdUpkeep
  simp only
  split
  case isTrue silent => rfl
  case isFalse sends =>
    split
    case isTrue cause =>
      split
      case isTrue due => exact placeHold_keeps _
      case isFalse notDue => rfl
    case isFalse noCause =>
      split
      case isTrue due => exact counter_place _ hj
      case isFalse notDue => rfl

theorem Blocks.periodUpkeep_sp : (b.periodUpkeep e).sp = b.sp := by
  unfold Blocks.periodUpkeep
  split <;> rfl

/-- With no pass due, the end of a command can raise no counter but overflows. -/
theorem Blocks.counter_settle (before : Blocks) (h : b.agenda = Agenda.none)
    (hj : j.index ≠ Counter.overflows.index) :
    (b.settle e before).counter j = b.counter j := by
  unfold Blocks.settle
  rw [b.passes_of_none e h, Blocks.supplyWatch_eq]
  calc (b.trunkUpkeep e).counter j
      = (b.holdUpkeep e false).counter j := counter_congr (congrArg SP.counters periodUpkeep_sp) j
    _ = b.counter j := counter_holdUpkeep false hj

/-! ### A refusal (R43, R58) -/

theorem Counter.refusal_index_ne_overflows (c : RefusalCode) :
    (Counter.refusal c).index ≠ Counter.overflows.index := by
  cases c <;> decide

/-- A command whose effect is a refusal sends that refusal alone, counts it, and leaves every table of
the bay and of the Dispatch Unit as it was, for no pass is due at its end. -/
theorem State.run_of_refuseMove {s : State} {f : Env → Blocks → Blocks} {c : RefusalCode}
    {tag : Option Tag} (hsized : s.WellSized) (hf : f s.env s.b.quiet = s.b.quiet.refuseMove c tag) :
    (s.run f).b.out.station = [.refused c tag] ∧ Raised (.refusal c) s (s.run f) ∧
      SameBay s.b (s.run f).b ∧ SameBooks s.b (s.run f).b := by
  obtain ⟨⟨-, -, -, -, -, -, counters_length, -⟩, agenda_none, spoiled_nil⟩ := hsized
  have run_eq : (s.run f).b = (s.b.quiet.refuseMove c tag).settle s.env s.b := by
    rw [State.run_b, s.b.quiet.readSpoiled_of_nil s.env spoiled_nil, hf]
  have none_due : (s.b.quiet.refuseMove c tag).agenda = Agenda.none := agenda_none
  obtain ⟨zc_eq, si_eq, mm_eq, -, -, out_eq, -, du_eq⟩ :=
    Blocks.settle_frame s.env _ s.b none_due
  have counted : (s.b.quiet.refuseMove c tag).counter (.refusal c) =
      sat32 (s.b.counter (.refusal c) + 1) :=
    Blocks.counter_bump_self (counters_length ▸ Counter.index_lt _)
  unfold Raised SameBay SameBooks
  rw [run_eq, Blocks.counter_settle s.b none_due (Counter.refusal_index_ne_overflows c), out_eq, du_eq]
  exact ⟨rfl, counted, ⟨zc_eq, si_eq, mm_eq⟩, rfl, rfl, rfl, rfl, rfl⟩

/-- A running node answers a MOVE-REQ that fails a check with that check's refusal. -/
theorem answers_moveReq_of_checkMove {s : State} {source dest : Nat} {code : RefusalCode} (cls : MoveClass)
    (carrier : Option CarrierId) (deadline : Option Nat) (hrun : s.cl.node.running = true)
    (hsized : s.WellSized) (hcheck : s.b.checkMove s.env source dest = some code) :
    Answers (.moveReq source dest cls carrier deadline) s fun t =>
      t.b.out.station = [.refused code none] ∧ Raised (.refusal code) s t ∧ SameBay s.b t.b ∧
      SameBooks s.b t.b := by
  have hquiet : s.b.quiet.checkMove s.env source dest = some code := hcheck
  exact ⟨_, rfl, State.run_of_refuseMove hsized (by simp [hrun, hquiet])⟩

/-! ### The checks (R43) -/

theorem Blocks.checkMove_of_not_ready (source dest : Nat) (hnode : e.node ≠ .ready) :
    b.checkMove e source dest = some .notReady := by
  simp [Blocks.checkMove, hnode]

theorem Blocks.checkMove_of_no_station {source : Nat} (dest : Nat) (hnode : e.node = .ready)
    (hx : b.station? source = none) : b.checkMove e source dest = some .unknownSource := by
  simp [Blocks.checkMove, hnode, hx]

theorem Blocks.checkMove_of_empty {source : Nat} {x : Station} (dest : Nat) (hnode : e.node = .ready)
    (hx : b.station? source = some x) (hempty : ¬ (x.state = .occupied ∨ x.state = .holding)) :
    b.checkMove e source dest = some .sourceEmpty := by
  simp [Blocks.checkMove, hnode, hx, not_or.1 hempty]

/-- The checks left once the source is known to hold a carrier. -/
theorem Blocks.checkMove_of_loaded {source : Nat} {x : Station} (dest : Nat) (hnode : e.node = .ready)
    (hx : b.station? source = some x) (hloaded : x.state = .occupied ∨ x.state = .holding) :
    b.checkMove e source dest =
      if x.active.isSome then some .duplicate
      else if b.owner e dest = none ∨ dest = source then some .noRoute
      else if freeCount b.mm.moves = 0 then some .tableFull
      else none := by
  have hstate : ¬ (x.state ≠ .occupied ∧ x.state ≠ .holding) := by
    rwa [← not_or, not_not]
  simp [Blocks.checkMove, hnode, hx, hstate]

/-- A station number has an owner exactly when it is routed (R153). -/
theorem State.owner_eq_none_iff (s : State) (n : Nat) : s.b.owner s.env n = none ↔ ¬ s.routed n := by
  unfold Blocks.owner State.routed
  cases s.env.inWindow n <;> simp

/-! ### The statement -/

/-- Settles O17: the fault named by each clause is the first one that the checks come to. -/
theorem moveReqRefusedInOrder : Obligations.MoveReqRefusedInOrder := by
  intro s source dest cls carrier deadline code hrun hsized hfails
  refine answers_moveReq_of_checkMove cls carrier deadline hrun hsized ?_
  rcases hfails with ⟨hnode, rfl⟩ | ⟨hnode, hx, rfl⟩ |
    ⟨x, hnode, hx, ⟨hempty, rfl⟩ | ⟨hloaded, hlater⟩⟩
  · exact Blocks.checkMove_of_not_ready source dest hnode
  · exact Blocks.checkMove_of_no_station dest hnode hx
  · exact Blocks.checkMove_of_empty dest hnode hx hempty
  simp only [Blocks.checkMove_of_loaded (e := s.env) dest hnode hx hloaded, State.owner_eq_none_iff]
  rcases hlater with ⟨hactive, rfl⟩ |
    ⟨hactive, ⟨hroute, rfl⟩ | ⟨hrouted, hother, htable, rfl⟩⟩
  · exact if_pos hactive
  · rw [hactive, Option.isSome_none, if_neg Bool.false_ne_true, if_pos hroute]
  · have table_full : freeCount s.b.mm.moves = 0 := freeCount_eq_zero.2 fun hnone => htable _ hnone rfl
    rw [hactive, Option.isSome_none, if_neg Bool.false_ne_true,
      if_neg (not_or.2 ⟨not_not.2 hrouted, hother⟩), if_pos table_full]

end Sys2Proof.Machine
end

section
/-! PROOFS. What an event can do to the blocks, said once: `Evolves K e b c` says that `c` comes of `b`
by the elementary changes that the operations of the blocks are made of. Every operation is shown to
evolve the blocks; every invariant is then shown for the elementary changes alone. -/
namespace Sys2Proof.Machine

/-! ### The Transmit Queue under elementary changes (R136, R137, R141) -/

/-- Of each kind of HOLD at most one waits, and none of the content that is on the line. Between the
return of a HOLD from the line and the upkeep that ends the command, one of each kind may wait. -/
structure TI.HoldsApart (t : TI) : Prop where
  zero : t.queue.countP isHoldZero ≤ 1
  quanta : t.queue.countP isHoldQuanta ≤ 1
  zeroLine : ¬ (t.queue.any isHoldZero = true ∧ t.line.any isHoldZero = true)
  quantaLine : ¬ (t.queue.any isHoldQuanta = true ∧ t.line.any isHoldQuanta = true)

/-- What every change of the Trunk Interface keeps. -/
structure TI.Kept (e : Env) (t u : TI) : Prop where
  ordered : t.Ordered → u.Ordered
  apart : (e.node.active = true → 1 ≤ e.cfg.quanta) → t.HoldsApart → u.HoldsApart
  silent : e.node.active = false → t.queue = [] → t.line = none → u.queue = [] ∧ u.line = none
  window : t.outcomes.length = Config.windowSize → u.outcomes.length = Config.windowSize

/-- A change that leaves queue and line alone, and the window its length. -/
theorem TI.Kept.of_eq {e : Env} {t u : TI} (hq : u.queue = t.queue) (hl : u.line = t.line)
    (hw : t.outcomes.length = Config.windowSize → u.outcomes.length = Config.windowSize) :
    TI.Kept e t u where
  ordered h := by simpa only [TI.Ordered, TI.count, hq, hl] using h
  apart _ h := ⟨hq ▸ h.zero, hq ▸ h.quanta, hq ▸ hl ▸ h.zeroLine, hq ▸ hl ▸ h.quantaLine⟩
  silent _ h1 h2 := ⟨hq.trans h1, hl.trans h2⟩
  window := hw

theorem isHoldZero_eq_false {r : Record} (h : r.isHold = false) : isHoldZero r = false :=
  (Bool.or_eq_false_iff.1 h).1

theorem isHoldQuanta_eq_false {r : Record} (h : r.isHold = false) : isHoldQuanta r = false :=
  (Bool.or_eq_false_iff.1 h).2

theorem isHoldZero_iff {r : Record} : isHoldZero r = true ↔ r.body = .hold 0 := beq_iff_eq

theorem isHoldQuanta_iff {r : Record} : isHoldQuanta r = true ↔ ∃ d, d ≠ 0 ∧ r.body = .hold d := by
  unfold isHoldQuanta
  cases r.body <;> simp [kindCode]

/-- A replacing record is of the kind that it replaces, so no HOLD takes part. -/
theorem replaces_kind {r x : Record} (h : replaces r x = true) :
    isStatus r = isStatus x ∧ isLink r = isLink x ∧ r.isHold = false ∧ x.isHold = false := by
  have not_hold {y : Record} (hy : kindCode y.body = 0 ∨ kindCode y.body = 13) : y.isHold = false := by
    unfold Record.isHold isHoldZero isHoldQuanta
    cases hb : y.body <;> simp_all [kindCode]
  simp only [replaces, isStatus, isLink, Bool.or_eq_true, Bool.and_eq_true, beq_iff_eq] at h ⊢
  rcases h with ⟨h1, h2⟩ | ⟨h1, h2⟩
  · exact ⟨by rw [h1, h2], by rw [h1, h2], not_hold (.inl h1), not_hold (.inl h2)⟩
  · exact ⟨by rw [h1, h2], by rw [h1, h2], not_hold (.inr h1), not_hold (.inr h2)⟩

/-- The queue after a newer STATUS or LINK has taken the place of the waiting one. -/
def replaceIn (r : Record) (q : List Record) : List Record := q.map fun x => if replaces r x then r else x

theorem countP_replaceIn {r : Record} {p : Record → Bool} (q : List Record)
    (hp : ∀ x, replaces r x = true → p r = p x) : (replaceIn r q).countP p = q.countP p := by
  unfold replaceIn
  rw [List.countP_map]
  congr 1
  funext x
  simp only [Function.comp_apply]
  split
  next h => exact hp x h
  next => rfl

theorem any_replaceIn {r : Record} {p : Record → Bool} (q : List Record)
    (hp : ∀ x, replaces r x = true → p r = p x) : (replaceIn r q).any p = q.any p := by
  unfold replaceIn
  rw [List.any_map]
  congr 1
  funext x
  simp only [Function.comp_apply]
  split
  next h => exact hp x h
  next => rfl

theorem replaceIn_ordered (r : Record) {q : List Record} (h : q.Pairwise fun x y => x.cls ≤ y.cls) :
    (replaceIn r q).Pairwise fun x y => x.cls ≤ y.cls := by
  have cls_eq (x : Record) : (if replaces r x then r else x).cls = x.cls := by
    split
    next hx => exact replaces_cls hx
    next => rfl
  exact List.pairwise_map.2 (h.imp fun hxy => by rwa [cls_eq, cls_eq])

theorem TI.Kept.replace (e : Env) (r : Record) (t : TI) :
    TI.Kept e t { t with queue := replaceIn r t.queue } where
  ordered := by
    rintro ⟨bound, sorted, status, link⟩
    refine ⟨?_, replaceIn_ordered r sorted, ?_, ?_⟩
    · simpa [TI.count, replaceIn] using bound
    · rwa [countP_replaceIn _ fun x hx => (replaces_kind hx).1]
    · rwa [countP_replaceIn _ fun x hx => (replaces_kind hx).2.1]
  apart _ h := by
    have zero_eq (x : Record) (hx : replaces r x = true) : isHoldZero r = isHoldZero x := by
      obtain ⟨-, -, hr, hx⟩ := replaces_kind hx
      rw [isHoldZero_eq_false hr, isHoldZero_eq_false hx]
    have quanta_eq (x : Record) (hx : replaces r x = true) : isHoldQuanta r = isHoldQuanta x := by
      obtain ⟨-, -, hr, hx⟩ := replaces_kind hx
      rw [isHoldQuanta_eq_false hr, isHoldQuanta_eq_false hx]
    exact ⟨by rw [countP_replaceIn _ zero_eq]; exact h.zero,
      by rw [countP_replaceIn _ quanta_eq]; exact h.quanta,
      by rw [any_replaceIn _ zero_eq]; exact h.zeroLine,
      by rw [any_replaceIn _ quanta_eq]; exact h.quantaLine⟩
  silent _ hq hl := ⟨by rw [hq]; rfl, hl⟩
  window := id

/-- The counts of a queue that one record has joined, wherever it stands. -/
theorem countP_of_perm_cons {r : Record} {q q' : List Record} (hp : q'.Perm (r :: q))
    (p : Record → Bool) : q'.countP p = q.countP p + if p r then 1 else 0 := by
  rw [hp.countP_eq, List.countP_cons]

theorem any_of_perm_cons {r : Record} {q q' : List Record} (hp : q'.Perm (r :: q))
    (p : Record → Bool) : q'.any p = (p r || q.any p) := by
  rw [hp.any_eq, List.any_cons]

/-- No STATUS waits where none would be replaced by the STATUS `r`. -/
theorem countP_status_of_fresh {r : Record} {q : List Record} (h : q.any (replaces r) = false)
    (hr : isStatus r = true) : q.countP isStatus = 0 := by
  refine List.countP_eq_zero.2 fun x hx hs => ?_
  have := List.any_eq_false.1 h x hx
  simp [replaces, hr, hs] at this

theorem countP_link_of_fresh {r : Record} {q : List Record} (h : q.any (replaces r) = false)
    (hr : isLink r = true) : q.countP isLink = 0 := by
  refine List.countP_eq_zero.2 fun x hx hs => ?_
  have := List.any_eq_false.1 h x hx
  simp [replaces, hr, hs] at this

/-- A record joins the queue, having left the line or not: order and counts of the kinds are kept. -/
theorem TI.Ordered.join {t u : TI} {r : Record} (h : t.Ordered) (hp : u.queue.Perm (r :: t.queue))
    (hs : u.queue.Pairwise fun x y => x.cls ≤ y.cls) (hc : u.count ≤ Config.queueSize)
    (hr : t.queue.any (replaces r) = false) : u.Ordered := by
  obtain ⟨-, -, status, link⟩ := h
  refine ⟨hc, hs, ?_, ?_⟩
  · rw [countP_of_perm_cons hp]
    split
    next hk => rw [countP_status_of_fresh hr hk]
    next => exact status
  · rw [countP_of_perm_cons hp]
    split
    next hk => rw [countP_link_of_fresh hr hk]
    next => exact link

/-- A record joins the queue; a HOLD does so only where none of its content waits or is on the line. -/
theorem TI.Kept.join {e : Env} {r : Record} {t : TI}
    (hz : (e.node.active = true → 1 ≤ e.cfg.quanta) → isHoldZero r = true → t.holds isHoldZero = false)
    (hn : isHoldQuanta r = true → t.holds isHoldQuanta = false)
    (ha : e.node.active = true) (hq : t.queue.any (replaces r) = false)
    (hc : t.count < Config.queueSize) : TI.Kept e t { t with queue := enqueue r t.queue } where
  ordered h := by
    have hp : (enqueue r t.queue).Perm (r :: t.queue) := insertBy_perm _ _ _
    refine h.join hp (enqueue_ordered r _ h.2.1) ?_ hq
    have := hp.length_eq
    simp only [TI.count, List.length_cons] at hc this ⊢
    omega
  apart hquanta h := by
    have hp : (enqueue r t.queue).Perm (r :: t.queue) := insertBy_perm _ _ _
    have joined {p : Record → Bool} (hr : p r = true → t.holds p = false)
        (hone : t.queue.countP p ≤ 1) (hline : ¬ (t.queue.any p = true ∧ t.line.any p = true)) :
        (enqueue r t.queue).countP p ≤ 1 ∧
          ¬ ((enqueue r t.queue).any p = true ∧ t.line.any p = true) := by
      rw [countP_of_perm_cons hp, any_of_perm_cons hp]
      cases hk : p r with
      | false => simpa only [Bool.false_or, Bool.false_eq_true, if_false, Nat.add_zero] using ⟨hone, hline⟩
      | true =>
        obtain ⟨queue_none, line_none⟩ := Bool.or_eq_false_iff.1 (hr hk)
        have : t.queue.countP p = 0 := List.countP_eq_zero.2 (by simpa using queue_none)
        simp [this, line_none]
    obtain ⟨zero, zeroLine⟩ := joined (hz hquanta) h.zero h.zeroLine
    obtain ⟨quanta, quantaLine⟩ := joined hn h.quanta h.quantaLine
    exact ⟨zero, quanta, zeroLine, quantaLine⟩
  silent hn := by simp [ha] at hn
  window := id

/-- Records leave the queue. -/
theorem TI.Kept.withdraw (e : Env) (p : Record → Bool) (t : TI) :
    TI.Kept e t { t with queue := t.queue.filter p } where
  ordered := by
    rintro ⟨bound, sorted, status, link⟩
    have sub : (t.queue.filter p).Sublist t.queue := List.filter_sublist
    refine ⟨?_, sorted.sublist sub, sub.countP_le.trans status, sub.countP_le.trans link⟩
    have := sub.length_le
    simp only [TI.count] at bound ⊢
    omega
  apart _ h := by
    have sub : (t.queue.filter p).Sublist t.queue := List.filter_sublist
    have any_of {k : Record → Bool} (hk : (t.queue.filter p).any k = true) : t.queue.any k = true := by
      obtain ⟨x, hx, hkx⟩ := List.any_eq_true.1 hk
      exact List.any_eq_true.2 ⟨x, sub.subset hx, hkx⟩
    exact ⟨sub.countP_le.trans h.zero, sub.countP_le.trans h.quanta,
      fun hz => h.zeroLine ⟨any_of hz.1, hz.2⟩, fun hz => h.quantaLine ⟨any_of hz.1, hz.2⟩⟩
  silent _ hq hl := ⟨by rw [hq]; rfl, hl⟩
  window := id

/-! ### Elementary changes -/

/-- The parts of the state whose changes a proof may want to shut out. -/
inductive Part | peers | fault | inbound | stations | segments | census

/-- The tables and counters of the blocks have their sizes (R2, R10, R25, R40, R142, R146). -/
structure SP.WidthKept (p q : SP) : Prop where
  length : q.counters.length = p.counters.length
  width : (∀ n ∈ p.counters, n ≤ 4294967295) → ∀ n ∈ q.counters, n ≤ 4294967295

/-- `c` comes of `b` by elementary changes, of which those of peers, Fault Unit, Inbound List, stations,
segments and census are allowed as `K` says. -/
inductive Evolves (K : Part → Prop) (e : Env) (b : Blocks) : Blocks → Prop
  | refl : Evolves K e b b
  | modRoster {c : Blocks} {f : List (Option Vehicle) → List (Option Vehicle)} (h : Evolves K e b c)
      (hf : ∀ l, (f l).length = l.length) : Evolves K e b (c.modRoster f)
  | setMM {c : Blocks} {m : MM} (h : Evolves K e b c) (hm : m.moves.length = c.mm.moves.length) :
      Evolves K e b { c with mm := m }
  | setSI {c : Blocks} {x : SI} (h : Evolves K e b c) (hK : K .stations)
      (hx : x.stations.length = c.si.stations.length ∨ x.stations.length = Config.stationSize) :
      Evolves K e b { c with si := x }
  | modSegments {c : Blocks} {f : List Seg → List Seg} (h : Evolves K e b c) (hK : K .segments) :
      Evolves K e b (c.modSegments f)
  | setCensus {c : Blocks} {n : Option Nat} (h : Evolves K e b c) (hK : K .census) :
      Evolves K e b { c with zc := { c.zc with census := n } }
  | countDiscarded {c : Blocks} {s : Nat} (h : Evolves K e b c) :
      Evolves K e b { c with zc := { c.zc with
        discarded := c.zc.discarded.modify s fun n => sat32 (n + 1) } }
  | setDU {c : Blocks} {d : DU} (h : Evolves K e b c)
      (hfit : c.PlacesFit → ({ c with du := d } : Blocks).PlacesFit) : Evolves K e b { c with du := d }
  | setLists {c : Blocks} {d : DU} {l : List Inbound} (h : Evolves K e b c) (hK : K .inbound)
      (hfit : c.PlacesFit → ({ c with du := d, zc := { c.zc with inbound := l } } : Blocks).PlacesFit) :
      Evolves K e b { c with du := d, zc := { c.zc with inbound := l } }
  | modPeer {c : Blocks} {k : Nat} {f : Peer → Peer} (h : Evolves K e b c) (hK : K .peers) :
      Evolves K e b (c.modPeer k f)
  | modFU {c : Blocks} {f : FU → FU} (h : Evolves K e b c) (hK : K .fault)
      (hf : c.fu.Consistent → (f c.fu).Consistent) : Evolves K e b (c.modFU f)
  | modTI {c : Blocks} {f : TI → TI} (h : Evolves K e b c) (hf : TI.Kept e c.ti (f c.ti)) :
      Evolves K e b (c.modTI f)
  | modSP {c : Blocks} {f : SP → SP} (h : Evolves K e b c) (hf : SP.WidthKept c.sp (f c.sp)) :
      Evolves K e b (c.modSP f)
  | modOut {c : Blocks} {f : Out → Out} (h : Evolves K e b c) : Evolves K e b (c.modOut f)
  | modAgenda {c : Blocks} {f : Agenda → Agenda} (h : Evolves K e b c)
      (hf : K .stations ∨ (f c.agenda).follow = c.agenda.follow) : Evolves K e b (c.modAgenda f)
  | setSpoiled {c : Blocks} {l : List ParityError} (h : Evolves K e b c) :
      Evolves K e b { c with spoiled := l }
  | setFree {c : Blocks} {n : Nat} (h : Evolves K e b c) : Evolves K e b { c with free := n }

namespace Evolves
variable {K : Part → Prop} {e : Env} {b c : Blocks}

theorem trans {d : Blocks} (h : Evolves K e b c) (h' : Evolves K e c d) : Evolves K e b d := by
  induction h' with
  | refl => exact h
  | modRoster _ hf ih => exact ih.modRoster hf
  | setMM _ hm ih => exact ih.setMM hm
  | setSI _ hK hx ih => exact ih.setSI hK hx
  | modSegments _ hK ih => exact ih.modSegments hK
  | setCensus _ hK ih => exact ih.setCensus hK
  | countDiscarded _ ih => exact ih.countDiscarded
  | setDU _ hfit ih => exact ih.setDU hfit
  | setLists _ hK hfit ih => exact ih.setLists hK hfit
  | modPeer _ hK ih => exact ih.modPeer hK
  | modFU _ hK hf ih => exact ih.modFU hK hf
  | modTI _ hf ih => exact ih.modTI hf
  | modSP _ hf ih => exact ih.modSP hf
  | modOut _ ih => exact ih.modOut
  | modAgenda _ hf ih => exact ih.modAgenda hf
  | setSpoiled _ ih => exact ih.setSpoiled
  | setFree _ ih => exact ih.setFree

/-! ### What elementary changes keep -/

/-- What stays as it was while its part is shut out. -/
structure Frame (K : Part → Prop) (b c : Blocks) : Prop where
  pd : ¬ K .peers → c.pd = b.pd
  fu : ¬ K .fault → c.fu = b.fu
  inbound : ¬ K .inbound → c.zc.inbound = b.zc.inbound
  si : ¬ K .stations → c.si = b.si
  segments : ¬ K .segments → c.zc.segments = b.zc.segments
  census : ¬ K .census → c.zc.census = b.zc.census
  follow : ¬ K .stations → c.agenda.follow = b.agenda.follow

theorem frame (h : Evolves K e b c) : Frame K b c := by
  induction h with
  | refl =>
    exact ⟨fun _ => rfl, fun _ => rfl, fun _ => rfl, fun _ => rfl, fun _ => rfl, fun _ => rfl, fun _ => rfl⟩
  | setSI _ hK _ ih => exact { ih with si := fun hn => absurd hK hn }
  | modSegments _ hK ih => exact { ih with segments := fun hn => absurd hK hn }
  | setCensus _ hK ih => exact { ih with census := fun hn => absurd hK hn }
  | setLists _ hK _ ih => exact { ih with inbound := fun hn => absurd hK hn }
  | modPeer _ hK ih => exact { ih with pd := fun hn => absurd hK hn }
  | modFU _ hK _ ih => exact { ih with fu := fun hn => absurd hK hn }
  | modRoster _ _ ih | setMM _ _ ih | countDiscarded _ ih | setDU _ _ ih | modTI _ _ ih
  | modSP _ _ ih | modOut _ ih | setSpoiled _ ih | setFree _ ih =>
    exact ⟨ih.pd, ih.fu, ih.inbound, ih.si, ih.segments, ih.census, ih.follow⟩
  | modAgenda _ hf ih =>
    exact { ih with follow := fun hn => (hf.resolve_left hn).trans (ih.follow hn) }

theorem pd_eq (h : Evolves K e b c) (hK : ¬ K .peers) : c.pd = b.pd := h.frame.pd hK
theorem fu_eq (h : Evolves K e b c) (hK : ¬ K .fault) : c.fu = b.fu := h.frame.fu hK
theorem inbound_eq (h : Evolves K e b c) (hK : ¬ K .inbound) : c.zc.inbound = b.zc.inbound :=
  h.frame.inbound hK
theorem si_eq (h : Evolves K e b c) (hK : ¬ K .stations) : c.si = b.si := h.frame.si hK
theorem segments_eq (h : Evolves K e b c) (hK : ¬ K .segments) : c.zc.segments = b.zc.segments :=
  h.frame.segments hK
/-- No follow-on is asked where no station changes. -/
theorem follow_eq (h : Evolves K e b c) (hK : ¬ K .stations) : c.agenda.follow = b.agenda.follow :=
  h.frame.follow hK
theorem census_eq (h : Evolves K e b c) (hK : ¬ K .census) : c.zc.census = b.zc.census :=
  h.frame.census hK

theorem fu_consistent (h : Evolves K e b c) (hb : b.fu.Consistent) : c.fu.Consistent := by
  induction h with
  | modFU _ _ hf ih => exact hf ih
  | refl => exact hb
  | modRoster _ _ ih | setMM _ _ ih | setSI _ _ _ ih | modSegments _ _ ih | setCensus _ _ ih
  | countDiscarded _ ih
  | setDU _ _ ih | setLists _ _ _ ih | modPeer _ _ ih | modTI _ _ ih | modSP _ _ ih | modOut _ ih
  | modAgenda _ _ ih | setSpoiled _ ih | setFree _ ih => exact ih

theorem ti_kept (h : Evolves K e b c) : TI.Kept e b.ti c.ti := by
  induction h with
  | modTI _ hf ih =>
    exact ⟨fun h => hf.ordered (ih.ordered h), fun hn h => hf.apart hn (ih.apart hn h),
      fun hn hq hl => (ih.silent hn hq hl).elim (hf.silent hn), fun h => hf.window (ih.window h)⟩
  | refl => exact ⟨id, fun _ => id, fun _ hq hl => ⟨hq, hl⟩, id⟩
  | modRoster _ _ ih | setMM _ _ ih | setSI _ _ _ ih | modSegments _ _ ih | setCensus _ _ ih
  | countDiscarded _ ih
  | setDU _ _ ih | setLists _ _ _ ih | modPeer _ _ ih | modFU _ _ _ ih | modSP _ _ ih | modOut _ ih
  | modAgenda _ _ ih | setSpoiled _ ih | setFree _ ih => exact ih

theorem fits (h : Evolves K e b c) (hb : b.PlacesFit) : c.PlacesFit := by
  induction h with
  | setDU _ hfit ih => exact hfit ih
  | setLists _ _ hfit ih => exact hfit ih
  | refl => exact hb
  | modRoster _ _ ih | setMM _ _ ih | setSI _ _ _ ih | modSegments _ _ ih | setCensus _ _ ih
  | countDiscarded _ ih
  | modPeer _ _ ih | modFU _ _ _ ih | modTI _ _ ih | modSP _ _ ih | modOut _ ih
  | modAgenda _ _ ih | setSpoiled _ ih | setFree _ ih => exact ih

theorem roster_length (h : Evolves K e b c) : c.zc.roster.length = b.zc.roster.length := by
  induction h with
  | modRoster _ hf ih => exact (hf _).trans ih
  | refl => rfl
  | setMM _ _ ih | setSI _ _ _ ih | modSegments _ _ ih | setCensus _ _ ih
  | countDiscarded _ ih
  | setDU _ _ ih | setLists _ _ _ ih | modPeer _ _ ih | modFU _ _ _ ih | modTI _ _ ih | modSP _ _ ih
  | modOut _ ih | modAgenda _ _ ih | setSpoiled _ ih | setFree _ ih => exact ih

theorem moves_length (h : Evolves K e b c) : c.mm.moves.length = b.mm.moves.length := by
  induction h with
  | setMM _ hm ih => exact hm.trans ih
  | refl => rfl
  | modRoster _ _ ih | setSI _ _ _ ih | modSegments _ _ ih | setCensus _ _ ih
  | countDiscarded _ ih
  | setDU _ _ ih | setLists _ _ _ ih | modPeer _ _ ih | modFU _ _ _ ih | modTI _ _ ih | modSP _ _ ih
  | modOut _ ih | modAgenda _ _ ih | setSpoiled _ ih | setFree _ ih => exact ih

theorem stations_length (h : Evolves K e b c) (hb : b.si.stations.length = Config.stationSize) :
    c.si.stations.length = Config.stationSize := by
  induction h with
  | setSI _ _ hx ih => exact hx.elim (·.trans ih) id
  | refl => exact hb
  | modRoster _ _ ih | setMM _ _ ih | modSegments _ _ ih | setCensus _ _ ih
  | countDiscarded _ ih
  | setDU _ _ ih | setLists _ _ _ ih | modPeer _ _ ih | modFU _ _ _ ih | modTI _ _ ih | modSP _ _ ih
  | modOut _ ih | modAgenda _ _ ih | setSpoiled _ ih | setFree _ ih => exact ih

theorem peers_length (h : Evolves K e b c) : c.pd.peers.length = b.pd.peers.length := by
  induction h with
  | modPeer _ _ ih => exact (List.length_modify _ _ _).trans ih
  | refl => rfl
  | modRoster _ _ ih | setMM _ _ ih | setSI _ _ _ ih | modSegments _ _ ih | setCensus _ _ ih
  | countDiscarded _ ih
  | setDU _ _ ih | setLists _ _ _ ih | modFU _ _ _ ih | modTI _ _ ih | modSP _ _ ih
  | modOut _ ih | modAgenda _ _ ih | setSpoiled _ ih | setFree _ ih => exact ih

theorem sp_kept (h : Evolves K e b c) : SP.WidthKept b.sp c.sp := by
  induction h with
  | modSP _ hf ih => exact ⟨hf.length.trans ih.length, fun hb => hf.width (ih.width hb)⟩
  | refl => exact ⟨rfl, id⟩
  | modRoster _ _ ih | setMM _ _ ih | setSI _ _ _ ih | modSegments _ _ ih | setCensus _ _ ih
  | countDiscarded _ ih
  | setDU _ _ ih | setLists _ _ _ ih | modPeer _ _ ih | modFU _ _ _ ih | modTI _ _ ih
  | modOut _ ih | modAgenda _ _ ih | setSpoiled _ ih | setFree _ ih => exact ih

theorem discarded_kept (h : Evolves K e b c) :
    c.zc.discarded.length = b.zc.discarded.length ∧
      ((∀ n ∈ b.zc.discarded, n ≤ 4294967295) → ∀ n ∈ c.zc.discarded, n ≤ 4294967295) := by
  induction h with
  | @countDiscarded c s _ ih =>
    refine ⟨(List.length_modify _ _ _).trans ih.1, fun hb n hn => ?_⟩
    obtain ⟨i, hi, rfl⟩ := List.mem_iff_getElem.1 hn
    have hi' : i < c.zc.discarded.length := by simpa using hi
    rw [List.getElem_modify]
    split
    · exact sat32_le _
    · exact ih.2 hb _ (List.getElem_mem hi')
  | refl => exact ⟨rfl, id⟩
  | modRoster _ _ ih | setMM _ _ ih | setSI _ _ _ ih | modSegments _ _ ih | setCensus _ _ ih
  | setDU _ _ ih | setLists _ _ _ ih | modPeer _ _ ih | modFU _ _ _ ih | modTI _ _ ih | modSP _ _ ih
  | modOut _ ih | modAgenda _ _ ih | setSpoiled _ ih | setFree _ ih => exact ih

end Evolves
end Sys2Proof.Machine
end

section
/-! PROOFS. The operations of the blocks evolve them: one lemma for each, in the order of their
definitions. -/
namespace Sys2Proof.Machine
namespace Evolves
variable {K : Part → Prop} {e : Env} {b c : Blocks}

/-! ### Folds, and the updates of the tables -/

theorem foldl {l : List α} {f : Blocks → α → Blocks} (h : Evolves K e b c)
    (hf : ∀ {c : Blocks} (x : α), Evolves K e b c → Evolves K e b (f c x)) :
    Evolves K e b (l.foldl f c) := by
  induction l generalizing c with
  | nil => exact h
  | cons x l ih => exact ih (hf x h)

theorem updRoster {p : Vehicle → Bool} {f : Vehicle → Vehicle} (h : Evolves K e b c) :
    Evolves K e b (c.modRoster (updWhere p f)) := h.modRoster fun _ => length_updWhere _ _ _

theorem modVehicle {id : Nat} {f : Vehicle → Vehicle} (h : Evolves K e b c) :
    Evolves K e b (c.modVehicle id f) := h.updRoster

theorem enterRoster {v : Vehicle} (h : Evolves K e b c) : Evolves K e b (c.enterRoster v) :=
  h.modRoster fun _ => length_putFree _ _

theorem updMoves {p : Move → Bool} {f : Move → Move} (h : Evolves K e b c) :
    Evolves K e b (c.modMoves (updWhere p f)) := h.setMM (length_updWhere _ _ _)

theorem modMove {tag : Tag} {f : Move → Move} (h : Evolves K e b c) :
    Evolves K e b (c.modMove tag f) := h.updMoves

theorem freeMoves {p : Move → Bool} (h : Evolves K e b c) : Evolves K e b (c.modMoves (freeWhere p)) :=
  h.setMM (length_freeWhere _ _)

theorem setConsignCounter {n : Id8} (h : Evolves K e b c) :
    Evolves K e b { c with mm := { c.mm with consignCounter := n } } := h.setMM rfl

theorem updStations {p : Station → Bool} {f : Station → Station} (h : Evolves K e b c)
    (hs : K .stations) : Evolves K e b (c.modStations (updWhere p f)) :=
  h.setSI hs (.inl (length_updWhere _ _ _))

theorem modStation {n : Nat} {f : Station → Station} (h : Evolves K e b c) (hs : K .stations) :
    Evolves K e b (c.modStation n f) := h.updStations hs

theorem modWait {f : List Nat → List Nat} (h : Evolves K e b c) (hs : K .stations) :
    Evolves K e b (c.modWait f) := h.setSI hs (.inl rfl)

theorem modSeg {n : Nat} {f : Seg → Seg} (h : Evolves K e b c) (hg : K .segments) :
    Evolves K e b (c.modSeg n f) := h.modSegments hg

theorem modInbound {f : List Inbound → List Inbound} (h : Evolves K e b c) (hi : K .inbound)
    (hf : ∀ l, (f l).length ≤ l.length) : Evolves K e b (c.modInbound f) :=
  h.setLists (d := c.du) (l := f c.zc.inbound) hi fun hfit =>
    Nat.le_trans (Nat.add_le_add_right (hf _) _) hfit

theorem mapInbound {f : Inbound → Inbound} (h : Evolves K e b c) (hi : K .inbound) :
    Evolves K e b (c.modInbound fun l => l.map f) := h.modInbound hi fun _ => by simp

theorem filterInbound {p : Inbound → Bool} (h : Evolves K e b c) (hi : K .inbound) :
    Evolves K e b (c.modInbound fun l => l.filter p) := h.modInbound hi fun _ => List.length_filter_le _ _

theorem addInbound {i : Inbound} (h : Evolves K e b c) (hi : K .inbound) (hr : 1 ≤ c.room) :
    Evolves K e b (c.addInbound i) :=
  h.setLists (d := c.du) (l := insertBy (fun x y => earlier x.expected y.expected) i c.zc.inbound) hi
    fun hfit => by
      simp only [Blocks.PlacesFit, Blocks.places, Blocks.room, length_insertBy] at hfit hr ⊢
      omega

/-- A change of the Dispatch Unit that takes up no more places. -/
theorem modDU {f : DU → DU} (h : Evolves K e b c) (hc : (f c.du).calls.length ≤ c.du.calls.length)
    (ha : (f c.du).ask = c.du.ask) : Evolves K e b (c.modDU f) :=
  h.setDU (d := f c.du) fun hfit => by
    simp only [Blocks.PlacesFit, Blocks.places, ha] at hfit ⊢
    omega

theorem filterCalls {p : CallEntry → Bool} (h : Evolves K e b c) :
    Evolves K e b (c.modCalls fun l => l.filter p) :=
  h.modDU (f := fun d => { d with calls := d.calls.filter p }) (List.length_filter_le _ _) rfl

theorem mapCalls {f : CallEntry → CallEntry} (h : Evolves K e b c) :
    Evolves K e b (c.modCalls fun l => l.map f) :=
  h.modDU (f := fun d => { d with calls := d.calls.map f }) (List.length_map _).le rfl

theorem modBids {f : List BidEntry → List BidEntry} (h : Evolves K e b c) :
    Evolves K e b (c.modBids f) := h.modDU (f := fun d => { d with bids := f d.bids }) le_rfl rfl

/-- A change of the Trunk Interface that leaves queue, line and window alone. -/
theorem modTIPlain {f : TI → TI} (h : Evolves K e b c) (hq : (f c.ti).queue = c.ti.queue)
    (hl : (f c.ti).line = c.ti.line) (hw : (f c.ti).outcomes = c.ti.outcomes) :
    Evolves K e b (c.modTI f) := h.modTI (.of_eq hq hl fun hb => hw ▸ hb)

theorem emitZone {m : ZoneMsg} (h : Evolves K e b c) : Evolves K e b (c.emitZone m) := h.modOut
theorem emitStation {m : StationMsg} (h : Evolves K e b c) : Evolves K e b (c.emitStation m) := h.modOut
theorem reply {r : Reply} (h : Evolves K e b c) : Evolves K e b (c.reply r) := h.modOut
theorem wantBind (h : Evolves K e b c) : Evolves K e b c.wantBind := h.modAgenda (.inr rfl)
theorem wantCall (h : Evolves K e b c) : Evolves K e b c.wantCall := h.modAgenda (.inr rfl)
theorem wantPark (h : Evolves K e b c) : Evolves K e b c.wantPark := h.modAgenda (.inr rfl)
theorem wantFollow (h : Evolves K e b c) (hs : K .stations) : Evolves K e b c.wantFollow :=
  h.modAgenda (.inl hs)
theorem wantPass {id : Nat} (h : Evolves K e b c) : Evolves K e b (c.wantPass id) :=
  h.modAgenda (.inr rfl)

/-! ### Counters and flags -/

theorem bumpBy {k : Counter} {n : Nat} (h : Evolves K e b c) : Evolves K e b (c.bumpBy k n) := by
  refine h.modSP ⟨List.length_modify _ _ _, fun hb m hm => ?_⟩
  obtain ⟨i, hi, rfl⟩ := List.mem_iff_getElem.1 hm
  have hi' : i < c.sp.counters.length := by simpa using hi
  rw [List.getElem_modify]
  split
  · exact sat32_le _
  · exact hb _ (List.getElem_mem hi')

theorem bump {k : Counter} (h : Evolves K e b c) : Evolves K e b (c.bump k) := h.bumpBy

/-- A change of the Service Port that leaves the counters alone. -/
theorem modSPPlain {f : SP → SP} (h : Evolves K e b c) (hc : (f c.sp).counters = c.sp.counters) :
    Evolves K e b (c.modSP f) := h.modSP ⟨congrArg _ hc, fun hb => hc ▸ hb⟩

theorem writeFlag {f : Flag} {x : Bool} (h : Evolves K e b c) (hf : ∀ k, f ≠ .changed k) :
    Evolves K e b (c.writeFlag f x) := by
  unfold Blocks.writeFlag
  cases f with
  | changed k => exact absurd rfl (hf k)
  | _ => exact h.modSPPlain rfl

theorem writeAnyFlag {f : Flag} {x : Bool} (h : Evolves K e b c) (hp : K .peers) :
    Evolves K e b (c.writeFlag f x) := by
  cases f with
  | changed k => exact h.modPeer hp
  | _ => exact h.writeFlag nofun

theorem setFlag {f : Flag} (h : Evolves K e b c) (hf : ∀ k, f ≠ .changed k := by simp) :
    Evolves K e b (c.setFlag f) := (h.modSPPlain rfl).writeFlag hf

theorem setAnyFlag {f : Flag} (h : Evolves K e b c) (hp : K .peers) : Evolves K e b (c.setFlag f) :=
  (h.modSPPlain rfl).writeAnyFlag hp

/-! ### The Trunk Interface -/

/-- A record that is no HOLD is placed; HOLDs are placed by the upkeep alone (R141). -/
theorem place {r : Record} (h : Evolves K e b c) (hr : r.isHold = false := by rfl) :
    Evolves K e b (c.place e r) := by
  rcases c.place_cases e r with ⟨-, hp⟩ | ⟨-, -, hp⟩ | ⟨-, -, -, hp⟩ | ⟨ha, hq, hc, hp⟩ <;> rw [hp]
  · exact h
  · exact h.modTI (TI.Kept.replace e r _)
  · exact h.bump.setFlag
  · exact h.modTI (.join (fun _ hz => by simp [isHoldZero_eq_false hr] at hz)
      (fun hn => by simp [isHoldQuanta_eq_false hr] at hn) ha hq hc)

theorem toAll {body : Body} (h : Evolves K e b c)
    (hr : Record.isHold { dest := none, body := body } = false := by rfl) :
    Evolves K e b (c.toAll e body) := h.place hr

theorem toBay {k : Nat} {body : Body} (h : Evolves K e b c)
    (hr : Record.isHold { dest := some k, body := body } = false := by rfl) :
    Evolves K e b (c.toBay e k body) := h.place hr

theorem announceLink {x : LinkState} (h : Evolves K e b c) : Evolves K e b (c.announceLink e x) := by
  unfold Blocks.announceLink
  exact (h.modTIPlain rfl rfl rfl).toAll

theorem outcome {good : Bool} (h : Evolves K e b c) : Evolves K e b (c.outcome e good) := by
  have entered : Evolves K e b
      (c.modTI fun t => { t with outcomes := good :: t.outcomes.take 63 }) :=
    h.modTI (.of_eq rfl rfl fun hw => by
      rw [List.length_cons, List.length_take, hw]
      rfl)
  unfold Blocks.outcome
  dsimp only
  split <;> split
  · exact entered.setFlag.announceLink
  · exact entered
  · exact entered.announceLink
  · exact entered

theorem heard (h : Evolves K e b c) : Evolves K e b (c.heard e) := by
  have noted (d : Blocks) (hd : Evolves K e b d) :
      Evolves K e b (d.modTI fun t => { t with heardAt := e.now, lost := false }) :=
    hd.modTIPlain rfl rfl rfl
  have taken := noted _ ((h.bump (k := .received)).outcome (good := true))
  unfold Blocks.heard
  dsimp only
  split <;> split
  · split
    · exact (taken.wantCall.modTIPlain rfl rfl rfl).wantCall
    · exact taken.wantCall.modTIPlain rfl rfl rfl
  · exact taken.wantCall
  · split
    · exact (taken.modTIPlain rfl rfl rfl).wantCall
    · exact taken.modTIPlain rfl rfl rfl
  · exact taken

theorem periodUpkeep (h : Evolves K e b c) : Evolves K e b (c.periodUpkeep e) := by
  unfold Blocks.periodUpkeep
  split
  · exact h.modTIPlain rfl rfl rfl
  · exact h

/-! ### Routing -/

theorem reevaluate {p : Move → Bool} (h : Evolves K e b c) : Evolves K e b (c.reevaluate e p) := by
  unfold Blocks.reevaluate
  dsimp only
  split
  · exact h.updMoves.wantBind
  · exact h.updMoves

theorem reevaluateBay {k : Nat} (h : Evolves K e b c) : Evolves K e b (c.reevaluateBay e k) :=
  h.reevaluate

theorem reevaluateOwn (h : Evolves K e b c) : Evolves K e b (c.reevaluateOwn e) := h.reevaluate

/-! ### The Zone Controller -/

theorem sendGoto {id : Nat} {j : Job} (h : Evolves K e b c) : Evolves K e b (c.sendGoto e id j) := by
  rcases c.sendGoto_cases e id j with ⟨-, hg⟩ | ⟨-, d, rfl, hg | hg⟩ <;> rw [hg]
  · exact h
  · exact h.modVehicle.emitZone
  · exact h.modVehicle.emitZone.wantPark

theorem setVehicleState {id : Nat} {st : RosterState} (h : Evolves K e b c) :
    Evolves K e b (c.setVehicleState id st) := h.modVehicle

theorem unbind {id : Nat} (h : Evolves K e b c) : Evolves K e b (c.unbind id) := h.modVehicle

theorem makeIdle {id : Nat} (h : Evolves K e b c) : Evolves K e b (c.makeIdle e id) :=
  h.modVehicle.wantBind

theorem idleAfterFault {id : Nat} (h : Evolves K e b c) : Evolves K e b (c.idleAfterFault e id) := by
  unfold Blocks.idleAfterFault
  dsimp only
  split
  · exact h.makeIdle
  · split
    · exact h.makeIdle.sendGoto
    · exact h.makeIdle

theorem leaveQueue {id : Nat} (h : Evolves K e b c) (hs : K .stations) :
    Evolves K e b (c.leaveQueue id) := h.modWait hs

theorem releaseBids {p : BidEntry → Bool} (h : Evolves K e b c) : Evolves K e b (c.releaseBids p) := by
  unfold Blocks.releaseBids
  split
  · exact h.modBids.updRoster.wantBind.wantPark
  · exact h

theorem sendOut {id : Nat} {tag : Option Tag} {bay : Nat} (h : Evolves K e b c) :
    Evolves K e b (c.sendOut e id tag bay) := by
  unfold Blocks.sendOut
  exact h.modVehicle.sendGoto

theorem segmentFault {s : Nat} (h : Evolves K e b c) (hg : K .segments) :
    Evolves K e b (c.segmentFault s) := h.setFlag.modSeg hg

theorem measure {s ms : Nat} (h : Evolves K e b c) (hg : K .segments) :
    Evolves K e b (c.measure s ms) := by
  unfold Blocks.measure
  dsimp only
  split
  · exact h.bump
  · split
    · split
      · exact ((h.bump.modSeg hg).modSeg hg).segmentFault hg
      · exact (h.bump.modSeg hg).modSeg hg
    · exact (h.bump.modSeg hg).modSeg hg

theorem capture {id : Nat} {prev : Option Capture} {m : Marker} (h : Evolves K e b c)
    (hg : K .segments) : Evolves K e b (c.capture e id prev m) := by
  unfold Blocks.capture
  refine modVehicle ?_
  split
  · split
    · split
      · exact h.countDiscarded.bump
      · exact h.measure hg
    · exact h
  · exact h

/-! ### The Station Interface -/

theorem aimAt {id n : Nat} {j : Job} (h : Evolves K e b c) : Evolves K e b (c.aimAt e id n j) :=
  h.sendGoto.setVehicleState

section
variable (hs : K .stations)
include hs

theorem clearDue {n : Nat} (h : Evolves K e b c) : Evolves K e b (c.clearDue n) := h.updStations hs

theorem setReservation {n : Nat} {tag : Option Tag} (h : Evolves K e b c) :
    Evolves K e b (c.setReservation n tag) := by
  unfold Blocks.setReservation
  split
  · exact h
  · exact clearDue hs (h.modStation hs)

theorem reserve {n : Nat} {tag : Tag} (h : Evolves K e b c) : Evolves K e b (c.reserve n tag) := by
  unfold Blocks.reserve
  split
  · exact setReservation hs h
  · exact h

theorem giveStation {id n : Nat} {j : Job} (h : Evolves K e b c) :
    Evolves K e b (c.giveStation e id n j) := by
  unfold Blocks.giveStation
  exact (setReservation hs (h.leaveQueue hs)).aimAt.modVehicle

theorem offerShelf {n : Nat} (h : Evolves K e b c) : Evolves K e b (c.offerShelf e n) := by
  unfold Blocks.offerShelf
  split
  · exact h
  · split
    · split
      · exact giveStation hs h
      · exact h
    · exact h

theorem offerPort {n : Nat} (h : Evolves K e b c) : Evolves K e b (c.offerPort e n) := by
  unfold Blocks.offerPort
  split
  · exact h
  · split
    · split
      · exact giveStation hs h
      · split
        · exact (h.modStation hs).wantFollow hs
        · exact h.wantFollow hs
    · exact h

theorem dropReservation {n : Nat} (h : Evolves K e b c) : Evolves K e b (c.dropReservation e n) :=
  offerShelf hs (h.modStation hs)

theorem dropDelivery {tag : Tag} (h : Evolves K e b c) : Evolves K e b (c.dropDelivery e tag) :=
  h.foldl fun _ h => dropReservation hs h

theorem clearActive {tag : Tag} (h : Evolves K e b c) : Evolves K e b (c.clearActive tag) :=
  (h.updStations hs).wantFollow hs

theorem setActive {n : Nat} {tag : Tag} (h : Evolves K e b c) : Evolves K e b (c.setActive n tag) :=
  h.modStation hs

theorem toWait {id seg : Nat} {j : Job} (h : Evolves K e b c) : Evolves K e b (c.toWait e id seg j) := by
  unfold Blocks.toWait
  exact ((h.leaveQueue hs).sendGoto.setVehicleState).modWait hs

theorem toShelf {v : Vehicle} {seg : Nat} {j : Job} (h : Evolves K e b c) :
    Evolves K e b (c.toShelf e v seg j) := by
  unfold Blocks.toShelf
  split
  · exact (setReservation hs h).aimAt
  · exact toWait hs h

theorem decideDelivery {id : Nat} (h : Evolves K e b c) : Evolves K e b (c.decideDelivery e id) := by
  unfold Blocks.decideDelivery
  split
  · exact h
  · split
    · split
      · exact h
      · split
        · exact h
        · split
          · exact setReservation hs h
          · dsimp only
            split
            · exact toShelf hs (dropReservation hs h)
            · exact toShelf hs h
    · exact h

theorem decideIfThere {id : Nat} (h : Evolves K e b c) : Evolves K e b (c.decideIfThere e id) := by
  unfold Blocks.decideIfThere
  split
  · exact h
  · split
    · exact decideDelivery hs h
    · exact h

theorem sendUnload {id n : Nat} {tag : Option Tag} {dest : Nat} (h : Evolves K e b c) :
    Evolves K e b (c.sendUnload e id n tag dest) := by
  unfold Blocks.sendUnload
  exact decideIfThere hs h.sendGoto.setVehicleState

theorem redecide {n seg : Nat} {tag : Tag} (h : Evolves K e b c) :
    Evolves K e b (c.redecide e n seg tag) := h.foldl fun _ h => decideDelivery hs h

end

/-! ### The Move Manager -/

theorem removeCall {tag : Tag} (h : Evolves K e b c) : Evolves K e b (c.removeCall tag) :=
  h.filterCalls.wantCall

theorem endCall {tag : Tag} (h : Evolves K e b c) : Evolves K e b (c.endCall e tag) := by
  unfold Blocks.endCall
  split
  · exact h
  · exact h.removeCall.toAll.bump

theorem enterWaiting {tag : Tag} {again : Bool} (h : Evolves K e b c) :
    Evolves K e b (c.enterWaiting e tag again) := by
  unfold Blocks.enterWaiting
  dsimp only
  split
  · exact h.modMove.wantBind
  · exact h.modMove

theorem bind {m : Move} {id : Nat} (h : Evolves K e b c) : Evolves K e b (c.bind e m id) := by
  unfold Blocks.bind
  exact h.modMove.modVehicle.sendGoto.endCall

theorem inboundToLoan {tag : Tag} (h : Evolves K e b c) (hi : K .inbound) :
    Evolves K e b (c.inboundToLoan tag) := h.mapInbound hi

theorem holdForFloor {id : Nat} (h : Evolves K e b c) (hs : K .stations) :
    Evolves K e b (c.holdForFloor id) := (h.leaveQueue hs).modVehicle

theorem releaseVehicle {tag : Tag} {id : Nat} (h : Evolves K e b c) (hs : K .stations) :
    Evolves K e b (c.releaseVehicle e tag id) := by
  unfold Blocks.releaseVehicle
  split
  · exact h
  · split
    · exact h
    · dsimp only
      split
      · exact h.unbind
      · split
        · exact h.unbind.holdForFloor hs
        · split
          · exact h.unbind
          · exact h.unbind
          · exact h.unbind.makeIdle.wantPass
          · exact h.unbind.makeIdle.wantPass
          · exact (h.unbind.leaveQueue hs).makeIdle

theorem countFreed {m : Move} {o : MoveOutcome} (h : Evolves K e b c) :
    Evolves K e b (c.countFreed e m o) := by
  cases o with
  | delivered | deliveredToShelf => exact h.bump.bump
  | cancelled | sourceGone | returned | removed => exact h.bump

/-- The new record takes a FREE place; every table keeps its size (R44). -/
theorem acceptMove {m : Move} (h : Evolves K e b c) (hs : K .stations) :
    Evolves K e b (c.acceptMove e m) := by
  have taken : Evolves K e b { c with mm := { c.mm with
      moves := putFree { m with destHeld := c.mustHold e m } c.mm.moves
      seqCounter := m.tag.seq + 1 } } := h.setMM (length_putFree _ _)
  unfold Blocks.acceptMove
  dsimp only
  split
  · exact (setActive hs taken).bump
  · exact (setActive hs taken).bump.wantBind

theorem askFollowOn {n : Nat} (h : Evolves K e b c) (hs : K .stations) :
    Evolves K e b (c.askFollowOn e n) := by
  unfold Blocks.askFollowOn
  split
  · exact h
  · split
    · exact h
    · split
      · exact h
      · exact reserve hs ((h.acceptMove hs).modStation hs)

theorem askFollowOns (h : Evolves K e b c) (hs : K .stations) : Evolves K e b (c.askFollowOns e) :=
  h.foldl fun _ h => h.askFollowOn hs

section
variable (hs : K .stations) (hi : K .inbound)
include hs hi

theorem freeMove {tag : Tag} {o : MoveOutcome} (h : Evolves K e b c) :
    Evolves K e b (c.freeMove e tag o) := by
  have dropped : Evolves K e b ((c.clearActive tag).dropDelivery e tag) :=
    dropDelivery hs (clearActive hs h)
  unfold Blocks.freeMove
  split
  · exact h
  · dsimp only
    split
    · exact ((dropped.releaseVehicle hs).endCall.inboundToLoan hi).freeMoves.emitStation.countFreed
    · exact (dropped.endCall.inboundToLoan hi).freeMoves.emitStation.countFreed

theorem sourceGone {tag : Tag} (h : Evolves K e b c) : Evolves K e b (c.sourceGone e tag) := by
  unfold Blocks.sourceGone
  split
  · exact h
  · split
    · exact freeMove hs hi h
    · exact freeMove hs hi h
    · exact freeMove hs hi h
    · exact freeMove hs hi h
    · exact h

theorem leftForFloor {n : Nat} (h : Evolves K e b c) : Evolves K e b (c.leftForFloor e n) := by
  unfold Blocks.leftForFloor
  dsimp only
  split
  · exact sourceGone hs hi (h.modStation hs)
  · exact h.modStation hs

end

/-! ### Consignment -/

theorem sendDone {tag : Tag} {v : Nat} {o : DoneOutcome} (h : Evolves K e b c) :
    Evolves K e b (c.sendDone e tag v o) := by
  unfold Blocks.sendDone
  split
  · exact h
  · exact h.toBay

theorem sendRound {m : Move} {id : Nat} (h : Evolves K e b c) : Evolves K e b (c.sendRound e m id) := by
  unfold Blocks.sendRound
  exact h.modMove.modVehicle.sendGoto

section
variable (hs : K .stations)
include hs

theorem ownerAbsent {tag : Tag} (h : Evolves K e b c) : Evolves K e b (c.ownerAbsent e tag) := by
  unfold Blocks.ownerAbsent
  split
  · exact h
  · split
    · exact h.modMove
    · split
      · exact h.modMove
      · split
        · exact h.sendRound
        · exact decideIfThere hs (toShelf hs h.modMove.modVehicle)

theorem ownerLost {m : Move} (h : Evolves K e b c) : Evolves K e b (c.ownerLost e m) := by
  unfold Blocks.ownerLost
  split
  · exact h.modMove
  · exact ownerAbsent hs h

theorem consignSend {tag : Tag} {fresh : Bool} (h : Evolves K e b c) :
    Evolves K e b (c.consignSend e tag fresh) := by
  unfold Blocks.consignSend
  split
  · exact h
  · split
    · exact h
    · split
      · split
        · exact ownerLost hs h
        · dsimp only
          split <;> split
          · exact h.setConsignCounter.modMove
          · exact h.setConsignCounter.modMove.toBay.bump
          · exact h.modMove
          · exact h.modMove.toBay.bump
      · exact ownerLost hs h

theorem sendExit {m : Move} {id : Nat} {fresh : Bool} (h : Evolves K e b c) :
    Evolves K e b (c.sendExit e m id fresh) := by
  unfold Blocks.sendExit
  split
  · exact ownerAbsent hs h
  · exact consignSend hs h.modMove.modVehicle.sendGoto

theorem deliverHere {m : Move} {id n : Nat} (h : Evolves K e b c) :
    Evolves K e b (c.deliverHere e m id n) := by
  unfold Blocks.deliverHere
  split
  · exact h
  · split
    · exact h.sendRound
    · exact sendUnload hs h.modVehicle

theorem returnMove {tag : Tag} (h : Evolves K e b c) : Evolves K e b (c.returnMove e tag) := by
  unfold Blocks.returnMove
  split
  · exact h
  · dsimp only
    split
    · exact deliverHere hs (reserve hs h.modMove)
    · exact reserve hs h.modMove

theorem sendOnward {m : Move} {id : Nat} (h : Evolves K e b c) : Evolves K e b (c.sendOnward e m id) := by
  unfold Blocks.sendOnward
  split
  · exact deliverHere hs h
  · exact sendExit hs h

theorem waitAgain {id : Nat} (h : Evolves K e b c) : Evolves K e b (c.waitAgain id) := by
  unfold Blocks.waitAgain
  exact (h.leaveQueue hs).setVehicleState.modWait hs

theorem resumeMove {tag : Tag} (h : Evolves K e b c) : Evolves K e b (c.resumeMove e tag) := by
  unfold Blocks.resumeMove
  split
  · exact h
  · split
    · exact h
    · split
      · exact h
      · dsimp only
        split
        · split
          · exact deliverHere hs h.modMove
          · exact waitAgain hs h.modMove
          · split
            · exact returnMove hs h.modMove
            · exact deliverHere hs h.modMove
        · exact sendExit hs h.modMove

theorem resumeForeign {v : Vehicle} (h : Evolves K e b c) : Evolves K e b (c.resumeForeign e v) := by
  unfold Blocks.resumeForeign
  split
  · exact h.setVehicleState
  · split
    · exact h
    · split
      · exact sendUnload hs h
      · exact waitAgain hs h
      · exact sendUnload hs h

theorem strand {tag : Tag} (h : Evolves K e b c) : Evolves K e b (c.strand e tag) := by
  unfold Blocks.strand
  split
  · exact h
  · dsimp only
    split
    · exact dropDelivery hs h.modMove
    · split
      · exact dropDelivery hs h.modMove
      · split
        · exact (dropDelivery hs h.modMove).unbind.holdForFloor hs
        · exact (dropDelivery hs h.modMove).unbind

theorem missingEffects {i : Inbound} (h : Evolves K e b c) : Evolves K e b (c.missingEffects e i) := by
  unfold Blocks.missingEffects
  split
  · split
    · exact h.enterWaiting
    · exact h
  · split
    · dsimp only
      split
      · exact strand hs (dropDelivery hs h)
      · exact dropDelivery hs h
    · exact dropDelivery hs h.toBay
  · exact h

theorem turnFromAbsent {k : Nat} (h : Evolves K e b c) : Evolves K e b (c.turnFromAbsent e k) :=
  h.foldl fun _ h => ownerLost hs h

theorem takeBackMove {m : Move} {id : Nat} (h : Evolves K e b c) :
    Evolves K e b (c.takeBackMove e m id) := sendExit hs (dropDelivery hs (h.leaveQueue hs))

theorem takeBack {p : Nat → Bool} (h : Evolves K e b c) : Evolves K e b (c.takeBack e p) := by
  refine h.foldl fun m h => ?_
  split
  · exact h
  · split
    · exact takeBackMove hs h
    · exact h

theorem takeUp {m : Move} {id : Nat} (h : Evolves K e b c) : Evolves K e b (c.takeUp e m id) := by
  unfold Blocks.takeUp
  split
  · exact h
  · dsimp only
    split
    · split
      · split
        · exact decideIfThere hs h
        · exact deliverHere hs h
      · split
        · exact h
        · exact deliverHere hs h
      · exact h
    · split
      · split
        · exact ownerAbsent hs h
        · exact decideIfThere hs h
      · split
        · exact takeBackMove hs h
        · exact takeBackMove hs h
        · split
          · exact h
          · exact sendExit hs h
        · exact h

end

theorem dropInbound {id : Nat} (h : Evolves K e b c) (hi : K .inbound) :
    Evolves K e b (c.dropInbound id) := (h.filterInbound hi).wantCall

theorem removeInbound {id : Nat} (h : Evolves K e b c) (hs : K .stations) (hi : K .inbound) :
    Evolves K e b (c.removeInbound e id) := by
  unfold Blocks.removeInbound
  split
  · exact h
  · exact missingEffects hs (h.dropInbound hi)

/-! ### The Peer Directory -/

theorem setPresence {k : Bay} {p : Presence} (h : Evolves K e b c) (hp : K .peers) :
    Evolves K e b (c.setPresence e k p) := by
  unfold Blocks.setPresence
  exact ((h.modPeer hp).setAnyFlag hp).reevaluateBay

theorem refresh {k : Bay} (h : Evolves K e b c) (hp : K .peers) (hs : K .stations) :
    Evolves K e b (c.refresh e k) := by
  unfold Blocks.refresh
  dsimp only
  split
  · exact h.modPeer hp
  · split
    · exact takeBack hs ((h.modPeer hp).setPresence hp)
    · exact (h.modPeer hp).setPresence hp

end Evolves
end Sys2Proof.Machine
end

section
/-! PROOFS. The operations of the Fault Unit, of parity errors, of the passes, of arrivals, hoists and
REPORTs, and of the records heard evolve the blocks. -/
namespace Sys2Proof.Machine

/-! ### The recovery state under its changes (R161 to R163) -/

@[simp] theorem FU.setMulti_recovery (f : FU) (k : FaultKind) : (f.setMulti k).recovery = f.recovery := by
  cases k <;> rfl
@[simp] theorem FU.setMulti_first (f : FU) (k : FaultKind) : (f.setMulti k).first = f.first := by
  cases k <;> rfl
@[simp] theorem FU.setMulti_watch (f : FU) (k : FaultKind) : (f.setMulti k).watch = f.watch := by
  cases k <;> rfl
@[simp] theorem FU.anyMulti_setMulti (f : FU) (k : FaultKind) : (f.setMulti k).anyMulti = true := by
  cases k <;> simp [FU.setMulti, FU.anyMulti]

theorem FU.Consistent.anyMulti_eq_false {f : FU} (h : f.Consistent) (hr : f.recovery ≠ .restricted) :
    f.anyMulti = false := by
  simpa using fun ha => hr (h.1.2 ha)

/-- A first urgent fault starts the recovery watch. -/
theorem FU.Consistent.start {f : FU} (h : f.Consistent) (hr : f.recovery = .normal) (x : FirstFault)
    (w : Watch) : FU.Consistent { f with recovery := .recovering, first := some x, watch := some w } := by
  have none_set : f.anyMulti = false := h.anyMulti_eq_false (by simp [hr])
  exact ⟨by simpa [FU.anyMulti] using none_set, by simp, by simp⟩

/-- A second urgent fault restricts the node. -/
theorem FU.Consistent.restrict {f : FU} (h : f.Consistent) (hr : f.recovery = .recovering)
    (k : FaultKind) :
    FU.Consistent { f.setMulti k with recovery := .restricted, watch := none } := by
  have some_set : (f.setMulti k).anyMulti = true := FU.anyMulti_setMulti f k
  have first_set : f.first.isSome = true := h.2.2 (by simp [hr])
  exact ⟨by simpa [FU.anyMulti] using some_set, by simp, fun _ => by simpa using first_set⟩

theorem FU.Consistent.setMulti {f : FU} (h : f.Consistent) (hr : f.recovery = .restricted)
    (k : FaultKind) : (f.setMulti k).Consistent := by
  have no_watch : f.watch = none := by simpa [hr] using h.2.1
  exact ⟨by simp [hr], by simp [hr, no_watch], fun _ => by simpa using h.2.2 (by simp [hr])⟩

theorem FU.Consistent.endWatch {f : FU} (h : f.Consistent) (hr : f.recovery = .recovering) :
    FU.Consistent { f with recovery := .normal, watch := none } := by
  have none_set : f.anyMulti = false := h.anyMulti_eq_false (by simp [hr])
  exact ⟨by simpa [FU.anyMulti] using none_set, by simp, by simp⟩

theorem FU.Consistent.resume {f : FU} (h : f.Consistent) (hr : f.recovery = .restricted) :
    f.resume.Consistent := by
  have no_watch : f.watch = none := by simpa [hr] using h.2.1
  exact ⟨by simp [FU.resume, FU.anyMulti], by simp [FU.resume, no_watch], by simp [FU.resume]⟩

namespace Evolves
variable {K : Part → Prop} {e : Env} {b c : Blocks}

/-! ### The Fault Unit -/

theorem endCalling (h : Evolves K e b c) : Evolves K e b (c.endCalling e) :=
  h.foldl fun _ h => h.endCall.enterWaiting.modMove

section
variable (hs : K .stations)
include hs

theorem applyMethod {tag : Tag} {m : EndMethod} (h : Evolves K e b c) :
    Evolves K e b (c.applyMethod e tag m) := by
  unfold Blocks.applyMethod
  split
  · exact h
  · split
    · exact h
    · dsimp only
      split
      · split
        · split
          · split
            · exact (dropDelivery hs h.modMove).enterWaiting.unbind
            · exact (dropDelivery hs h.modMove).enterWaiting
          · exact (dropDelivery hs h.modMove).enterWaiting
        · exact h.modMove
      · split
        · split
          · exact dropDelivery hs h.modMove.modMove.modVehicle
          · exact dropDelivery hs h.modMove.modMove
        · exact h.modMove
      · split
        · exact strand hs h.modMove
        · exact h.modMove

theorem applyForeign {tag : Tag} {v : Vehicle} {m : EndMethod} (h : Evolves K e b c) :
    Evolves K e b (c.applyForeign e tag v m) := by
  unfold Blocks.applyForeign
  dsimp only
  split
  · exact dropDelivery hs h.sendDone
  · split
    · exact (dropDelivery hs h.sendDone).unbind.holdForFloor hs
    · exact (dropDelivery hs h.sendDone).unbind

theorem dropCarried {v : Vehicle} (h : Evolves K e b c) : Evolves K e b (c.dropCarried e v) := by
  unfold Blocks.dropCarried
  split
  · split
    · exact dropDelivery hs h
    · exact h
  · exact h

theorem deferredFault {v : Vehicle} {i : Incident} (h : Evolves K e b c) :
    Evolves K e b (c.deferredFault e v i) := by
  unfold Blocks.deferredFault
  dsimp only
  split <;> split
  · exact (dropCarried hs h).unbind
  · exact h.unbind
  · exact dropCarried hs h
  · exact h

theorem becomeFaulted {id : Nat} (h : Evolves K e b c) : Evolves K e b (c.becomeFaulted id) := by
  unfold Blocks.becomeFaulted
  exact (h.leaveQueue hs).modVehicle.releaseBids

end

theorem recoveryStep {f : FirstFault} (h : Evolves K e b c) (hf : K .fault) :
    Evolves K e b (c.recoveryStep e f) := by
  unfold Blocks.recoveryStep
  split
  next hr => exact h.modFU hf fun hc => hc.start hr _ _
  next hr =>
    split
    · exact h
    · exact (h.modFU hf fun hc => hc.restrict hr _).endCalling
  next hr => exact h.modFU hf fun hc => hc.setMulti hr _

theorem watchDone (h : Evolves K e b c) (hf : K .fault) : Evolves K e b c.watchDone := by
  unfold Blocks.watchDone
  split
  next hr => exact (h.modFU hf fun hc => hc.endWatch hr).wantCall
  · exact h

theorem watchVehicle {id : Nat} (h : Evolves K e b c) (hf : K .fault) :
    Evolves K e b (c.watchVehicle id) := by
  unfold Blocks.watchVehicle
  split
  · exact h.watchDone hf
  · exact h

theorem setKindFlag {k : FaultKind} (h : Evolves K e b c) : Evolves K e b (c.setFlag k.flag) :=
  h.setFlag fun x => by cases k <;> exact nofun

section
variable (hs : K .stations) (hf : K .fault)
include hs hf

theorem vehicleFault {v : Vehicle} {i : Incident} (h : Evolves K e b c) :
    Evolves K e b (c.vehicleFault e v i) := by
  unfold Blocks.vehicleFault
  dsimp only
  split
  · exact deferredFault hs h.setKindFlag
  · refine recoveryStep ?_ hf
    split
    · exact dropCarried hs h.setKindFlag
    · split
      · split
        · exact h.setKindFlag
        · exact applyMethod hs h.setKindFlag
      · exact applyForeign hs h.setKindFlag

theorem becomeSilent {v : Vehicle} (h : Evolves K e b c) : Evolves K e b (c.becomeSilent e v) := by
  unfold Blocks.becomeSilent
  exact vehicleFault hs hf (h.leaveQueue hs).modVehicle.releaseBids

theorem removeVehicle {id : Nat} (h : Evolves K e b c) : Evolves K e b (c.removeVehicle id) := by
  unfold Blocks.removeVehicle
  exact (((h.leaveQueue hs).releaseBids.modRoster fun _ => length_freeWhere _ _).watchVehicle
    hf).wantPark

theorem vehicleGone {id : Nat} (h : Evolves K e b c) : Evolves K e b (c.vehicleGone e id) := by
  unfold Blocks.vehicleGone
  split
  · exact h
  · refine removeVehicle hs hf ?_
    split
    · exact dropCarried hs h
    · split
      · split
        · exact h
        · split
          · exact h.enterWaiting.modMove
          · split
            · exact strand hs h
            · exact h
      · split
        · exact h
        · exact dropDelivery hs h.sendDone

/-! ### Parity errors -/

omit hf in
theorem unbindSpoiled {v : Vehicle} (h : Evolves K e b c) : Evolves K e b (c.unbindSpoiled e v) := by
  unfold Blocks.unbindSpoiled
  dsimp only
  split
  · exact h.unbind
  · split
    · exact (becomeFaulted hs h.unbind).modVehicle
    · split
      · exact h.unbind
      · exact (h.unbind.leaveQueue hs).makeIdle.wantPass

omit hf in
theorem unbindAll {p : Tag → Bool} (h : Evolves K e b c) : Evolves K e b (c.unbindAll e p) :=
  h.foldl fun _ h => unbindSpoiled hs h

omit hs in
theorem memoryFault {tag : Option Tag} (h : Evolves K e b c) : Evolves K e b (c.memoryFault e tag) := by
  unfold Blocks.memoryFault
  exact h.setFlag.recoveryStep hf

omit hf in
theorem dropStaleLinks (hi : K .inbound) (h : Evolves K e b c) : Evolves K e b (c.dropStaleLinks e) := by
  unfold Blocks.dropStaleLinks
  refine foldl ?_ fun _ h => dropReservation hs h
  refine foldl ?_ fun _ h => h.endCall
  exact (unbindAll hs ((h.updStations hs).wantFollow hs)).mapInbound hi

theorem poison (hi : K .inbound) {m : Move} (h : Evolves K e b c) : Evolves K e b (c.poison e m) := by
  unfold Blocks.poison
  exact dropDelivery hs
    ((unbindAll hs (memoryFault hf h.modMove.setFree).endCall).inboundToLoan hi)

theorem loseMove (hi : K .inbound) {n : Nat} (h : Evolves K e b c) : Evolves K e b (c.loseMove e n) := by
  have lost : Evolves K e b (c.modMoves fun l => l.set n none) := h.setMM List.length_set
  exact dropStaleLinks hs hi (memoryFault hf lost)

omit hs hf in
theorem reclaimBound (h : Evolves K e b c) : Evolves K e b (c.reclaimBound e) :=
  h.foldl fun _ h => h.enterWaiting

theorem parityError (hi : K .inbound) {p : ParityError} (h : Evolves K e b c) :
    Evolves K e b (c.parityError e p) := by
  unfold Blocks.parityError
  split
  · split
    · exact h
    · split
      · exact h.bump.setFlag
      · split
        · exact loseMove hs hf hi h.bump
        · exact poison hs hf hi h.bump
  · split
    · exact h
    · dsimp only
      split
      · exact vehicleGone hs hf h.bump.setFlag
      · exact h.bump.setFlag.modVehicle.setFree
  · split
    · exact h
    · dsimp only
      split
      · exact reclaimBound (h.bump.setFlag.dropInbound hi)
      · exact missingEffects hs (h.bump.setFlag.dropInbound hi)

theorem parityErrors (hi : K .inbound) {l : List ParityError} (h : Evolves K e b c) :
    Evolves K e b (c.parityErrors e l) := h.foldl fun _ h => parityError hs hf hi h

theorem readSpoiled (hi : K .inbound) (h : Evolves K e b c) : Evolves K e b (c.readSpoiled e) :=
  parityErrors hs hf hi h.setSpoiled

end

/-! ### The passes -/

theorem bindPairs {n : Nat} (h : Evolves K e b c) : Evolves K e b (Blocks.bindPairs e n c) := by
  induction n generalizing c with
  | zero => exact h
  | succ n ih =>
    unfold Blocks.bindPairs
    split
    · exact h
    · exact ih h.bind

theorem passReleased (h : Evolves K e b c) : Evolves K e b (c.passReleased e) := by
  refine h.foldl fun id h => ?_
  split
  · exact h
  · split
    · exact h.sendGoto
    · exact h

theorem parkOne {id : Nat} (h : Evolves K e b c) : Evolves K e b (c.parkOne e id) := by
  unfold Blocks.parkOne
  split
  · exact h
  · split
    · split
      · exact h.sendGoto
      · exact h
    · exact h

theorem parkAll (h : Evolves K e b c) : Evolves K e b (c.parkAll e) := by
  unfold Blocks.parkAll
  split
  · exact h
  · exact h.foldl fun _ h => h.parkOne

/-- A call takes a place that the room of the Inbound List leaves free (R92). -/
theorem openCall {m : Move} (h : Evolves K e b c) (hr : 1 ≤ c.room) : Evolves K e b (c.openCall e m) := by
  unfold Blocks.openCall
  refine bump (toAll (setDU h.modMove fun hfit => ?_))
  simp only [Blocks.PlacesFit, Blocks.places, Blocks.room, Blocks.modMove_zc, Blocks.modMove_du,
    List.length_append, List.length_singleton] at hfit hr ⊢
  omega

theorem callPass (h : Evolves K e b c) : Evolves K e b (c.callPass e) := by
  refine h.foldl fun m h => ?_
  split
  next hm => exact h.openCall (by simpa [Blocks.mayCall] using (Bool.and_eq_true_iff.1 hm).2)
  next => exact h

theorem restartStarve (h : Evolves K e b c) : Evolves K e b (c.restartStarve e) := by
  unfold Blocks.restartStarve
  exact h.modDU le_rfl rfl

/-- The places of an ask are bounded by the room that is left (R107). -/
theorem askAttempt (h : Evolves K e b c) (ha : c.du.ask = none) : Evolves K e b (c.askAttempt e) := by
  unfold Blocks.askAttempt
  split
  · exact h.restartStarve
  · dsimp only
    split
    · exact h.restartStarve
    · refine bump (toBay (setDU h fun hfit => ?_))
      have : c.askCount e ≤ c.room := Nat.min_le_right _ _
      simp only [Blocks.PlacesFit, Blocks.places, Blocks.room, ha] at hfit this ⊢
      omega

theorem followPhase (h : Evolves K e b c) (hs : K .stations) : Evolves K e b (c.followPhase e) := by
  unfold Blocks.followPhase
  split
  · exact h.askFollowOns hs
  · exact h

theorem bindPhase (h : Evolves K e b c) : Evolves K e b (c.bindPhase e) := by
  unfold Blocks.bindPhase
  split
  · exact h.bindPairs.passReleased.wantCall
  · exact h

theorem parkPhase (h : Evolves K e b c) : Evolves K e b (c.parkPhase e) := by
  unfold Blocks.parkPhase
  split
  · exact h.parkAll
  · exact h

theorem callPhase (h : Evolves K e b c) : Evolves K e b (c.callPhase e) := by
  unfold Blocks.callPhase
  split
  · exact h.callPass
  · exact h

/-- The passes need the stations only while a follow-on may be asked for. -/
theorem passes (h : Evolves K e b c) (hs : K .stations ∨ c.agenda.follow = false) :
    Evolves K e b (c.passes e) := by
  have alone : (((c.bindPhase e).parkPhase e).callPhase e).agenda.follow = c.agenda.follow :=
    (Evolves.refl (K := fun _ => False)).bindPhase.parkPhase.callPhase.follow_eq id
  unfold Blocks.passes
  rcases hs with hs | hn
  · exact (h.followPhase hs).bindPhase.parkPhase.callPhase.modAgenda (f := fun _ => Agenda.none) (.inl hs)
  · have none_asked : c.followPhase e = c := by
      unfold Blocks.followPhase
      simp [hn]
    rw [none_asked]
    exact h.bindPhase.parkPhase.callPhase.modAgenda (f := fun _ => Agenda.none)
      (.inr (alone.trans hn).symm)

theorem supplyWatch {before : Blocks} (h : Evolves K e b c) : Evolves K e b (c.supplyWatch e before) := by
  unfold Blocks.supplyWatch
  split
  · exact h.modDU le_rfl rfl
  · split
    · exact h.modDU le_rfl rfl
    · exact h

end Evolves
end Sys2Proof.Machine
end

section
/-! PROOFS. The operations of arrivals, hoists, REPORTs, records heard, the station link, the service port
and the timers evolve the blocks. -/
namespace Sys2Proof.Machine
namespace Evolves
variable {K : Part → Prop} {e : Env} {b c : Blocks}

/-! ### Records heard -/

theorem discard {k : Counter} (h : Evolves K e b c) : Evolves K e b (c.discard e k) := by
  unfold Blocks.discard
  split
  · exact h.bump.outcome
  · exact h

theorem takeStatus {k : Nat} {st : StatusBody} (h : Evolves K e b c) (hp : K .peers) (hs : K .stations) :
    Evolves K e b (c.takeStatus e k st) := by
  unfold Blocks.takeStatus
  dsimp only
  split <;> split
  · exact takeBack hs (h.modPeer hp).reevaluate
  · exact takeBack hs (h.modPeer hp)
  · exact (h.modPeer hp).reevaluate
  · exact h.modPeer hp

theorem takeHold {k d : Nat} (h : Evolves K e b c) (hp : K .peers) :
    Evolves K e b (c.takeHold e k d) := by
  unfold Blocks.takeHold
  dsimp only
  split
  · exact (h.modPeer hp).reevaluateBay
  · exact h.modPeer hp

theorem takeCall {k : Nat} {id : Id8} {tag : Tag} {u : Nat} (h : Evolves K e b c) :
    Evolves K e b (c.takeCall e k id tag u) := by
  unfold Blocks.takeCall
  split
  · exact h
  · split
    · exact h
    · exact h.modBids.modVehicle.toBay.bump

theorem takeBid {k : Nat} {id : Id8} {v eta : Nat} (h : Evolves K e b c) :
    Evolves K e b (c.takeBid e k id v eta) := by
  unfold Blocks.takeBid
  split
  · exact h
  · split
    · exact h
    · split
      · exact h
      · exact h.mapCalls

theorem honour {k : Nat} {id : Id8} {tag : Option Tag} {v : Vehicle} (h : Evolves K e b c) :
    Evolves K e b (c.honour e k id tag v) := by
  unfold Blocks.honour
  exact h.sendOut.toBay.bump

theorem retract {k : Nat} {id : Id8} {v : Nat} {r : RetractReason} (h : Evolves K e b c) :
    Evolves K e b (c.retract e k id v r) := h.toBay

theorem lateAward {k : Nat} {id : Id8} {tag : Option Tag} {v : Nat} (h : Evolves K e b c) :
    Evolves K e b (c.lateAward e k id tag v) := by
  unfold Blocks.lateAward
  split
  · exact h
  · split
    · exact h.retract
    · split
      · split
        · exact h.honour
        · exact h.retract
      · split
        · exact h.retract
        · exact h.retract

theorem takeAward {k : Nat} {id : Id8} {w v : Nat} (h : Evolves K e b c) :
    Evolves K e b (c.takeAward e k id w v) := by
  unfold Blocks.takeAward
  split
  · split
    · exact h.lateAward
    · exact h
  · dsimp only
    split
    · exact h.releaseBids
    · split
      · split
        · exact h.releaseBids.honour
        · exact h.releaseBids
      · exact h.releaseBids.lateAward

theorem awardFailed {x : CallEntry} (h : Evolves K e b c) : Evolves K e b (c.awardFailed e x) :=
  h.removeCall.enterWaiting

theorem straySent {k : Nat} {id : Id8} {v eta : Nat} (h : Evolves K e b c) (hi : K .inbound) :
    Evolves K e b (c.straySent e k id v eta) := by
  unfold Blocks.straySent
  split
  · exact h
  next hn => exact h.addInbound hi (by have := (not_or.1 hn).2; omega)

/-- The entry takes the place that its call gives up, so nothing overflows (R96). -/
theorem sentInbound {x : CallEntry} {k v eta : Nat} (h : Evolves K e b c) (hi : K .inbound)
    (hx : x ∈ c.du.calls) : Evolves K e b (c.sentInbound e x k v eta) := by
  have fewer : (c.du.calls.filter fun y => y.tag != x.tag).length < c.du.calls.length :=
    List.length_filter_lt_length_iff_exists.2 ⟨x, hx, by simp⟩
  unfold Blocks.sentInbound
  refine modMove (h.setLists hi fun hfit => ?_)
  simp only [Blocks.PlacesFit, Blocks.places, Blocks.modCalls, length_insertBy] at hfit ⊢
  omega

theorem takeSent {k : Nat} {id : Id8} {v eta : Nat} (h : Evolves K e b c) (hi : K .inbound) :
    Evolves K e b (c.takeSent e k id v eta) := by
  unfold Blocks.takeSent
  split
  · exact h.straySent hi
  next x hx =>
    split
    · split
      · exact h.removeCall.bind.modVehicle
      · exact h.awardFailed
    · split
      · exact h.awardFailed
      · exact h.sentInbound hi (List.mem_of_find?_eq_some hx)

theorem takeAsk {k : Nat} {id : Id8} {n : Nat} (h : Evolves K e b c) :
    Evolves K e b (c.takeAsk e k id n) := by
  unfold Blocks.takeAsk
  split
  · exact h
  · refine bumpBy (toBay (foldl h fun _ h => ?_))
    exact h.sendOut

/-- A lent vehicle takes one of the ask's places, or one that the room leaves free (R109). -/
theorem lendOne {k : Nat} {id : Id8} {t : Time} {v : Nat} (h : Evolves K e b c) (hi : K .inbound) :
    Evolves K e b (c.lendOne k id t v) := by
  unfold Blocks.lendOne
  dsimp only
  split
  · exact h
  · split
    next a ha =>
      split
      next hn =>
        refine h.setLists hi fun hfit => ?_
        simp only [Blocks.PlacesFit, Blocks.places, Blocks.modDU, length_insertBy, ha] at hfit ⊢
        omega
      next =>
        split
        · exact h
        next hr => exact h.addInbound hi (by omega)
    · split
      · exact h
      next hr => exact h.addInbound hi (by omega)

theorem lendLate {k : Nat} {id : Id8} {t : Time} {v : Nat} (h : Evolves K e b c) (hi : K .inbound) :
    Evolves K e b (c.lendLate k id t v) := by
  unfold Blocks.lendLate
  split
  · exact h
  next hn => exact h.addInbound hi (by have := (not_or.1 hn).2; omega)

theorem closeAsk (h : Evolves K e b c) : Evolves K e b (c.closeAsk e) := by
  have closed : Evolves K e b (c.modDU fun d => { d with ask := none }) := h.setDU fun hfit => by
    simp only [Blocks.PlacesFit, Blocks.places] at hfit ⊢
    omega
  exact closed.restartStarve.wantCall

theorem takeLoan {k : Nat} {id : Id8} {eta : Nat} {vs : List Nat} (h : Evolves K e b c)
    (hi : K .inbound) : Evolves K e b (c.takeLoan e k id eta vs) := by
  unfold Blocks.takeLoan
  dsimp only
  split
  · exact (foldl h fun _ h => h.lendOne hi).closeAsk.bumpBy
  · exact (foldl h fun _ h => h.lendLate hi).bumpBy

theorem markConsigned {k : Nat} {id : Id8} {v : Vehicle} {tag : Tag} {dest : Nat} {cls : MoveClass}
    {carrier : Option CarrierId} (h : Evolves K e b c) (hs : K .stations) :
    Evolves K e b (c.markConsigned e k id v tag dest cls carrier) := by
  unfold Blocks.markConsigned
  dsimp only
  split
  · exact h
  · split
    · exact h.modVehicle
    · exact h.modVehicle.updStations hs

/-- An entry that moves in the order of the list takes no place of its own (R111). -/
theorem moveInbound {i : Inbound} {v : Nat} (h : Evolves K e b c) (hi : K .inbound)
    (hv : c.inbound? v = some i) {i' : Inbound} (hi' : i'.vehicle = i.vehicle) :
    Evolves K e b (c.moveInbound i') := by
  refine h.setLists (d := c.du) hi fun hfit => ?_
  have fewer : (c.zc.inbound.filter fun y => y.vehicle != i'.vehicle).length < c.zc.inbound.length :=
    List.length_filter_lt_length_iff_exists.2 ⟨i, List.mem_of_find?_eq_some hv, by simp [hi']⟩
  simp only [Blocks.PlacesFit, Blocks.places, Blocks.modInbound, length_insertBy] at hfit ⊢
  omega

theorem consignRoom {k : Nat} {id : Id8} {v : Nat} {tag : Tag} {dest : Nat} {cls : MoveClass}
    {carrier : Option CarrierId} {eta : Nat} (h : Evolves K e b c) (hs : K .stations) (hi : K .inbound) :
    Evolves K e b (c.consignRoom e k id v tag dest cls carrier eta).2 := by
  unfold Blocks.consignRoom
  dsimp only
  split
  · exact h.removeInbound hs hi
  next hr => exact reserve hs ((h.removeInbound hs hi).addInbound hi (by omega))

theorem judgeConsign {k : Nat} {id : Id8} {v : Nat} {tag : Tag} {dest : Nat} {cls : MoveClass}
    {carrier : Option CarrierId} {eta : Nat} {r : AcceptResult} {d : Blocks} (h : Evolves K e b c)
    (hs : K .stations) (hi : K .inbound)
    (hj : c.judgeConsign e k id v tag dest cls carrier eta = some (r, d)) : Evolves K e b d := by
  unfold Blocks.judgeConsign at hj
  split at hj
  · cases hj
  · split at hj
    · cases hj; exact h
    · split at hj
      · cases hj; exact h
      · split at hj
        next i hfound =>
          cases hj
          refine h.setLists (d := c.du) hi fun hfit => ?_
          have fewer : (c.zc.inbound.filter fun y => y.vehicle != i.vehicle).length <
              c.zc.inbound.length :=
            List.length_filter_lt_length_iff_exists.2 ⟨i, List.mem_of_find?_eq_some hfound, by simp⟩
          simp only [Blocks.PlacesFit, Blocks.places, Blocks.modInbound, length_insertBy] at hfit ⊢
          omega
        · split at hj
          · cases hj; exact h.markConsigned hs
          · have hd := congrArg Prod.snd (Option.some.inj hj)
            rw [← show _ = d from hd]
            exact h.consignRoom hs hi

theorem takeAccept {k : Nat} {id : Id8} {v : Nat} {r : AcceptResult} (h : Evolves K e b c)
    (hs : K .stations) : Evolves K e b (c.takeAccept e k id v r) := by
  unfold Blocks.takeAccept
  split
  · exact h
  · split
    · exact h.modVehicle.modMove.bump
    · split
      · exact h
      · exact h.modMove.bump
    · split
      · exact (reserve hs h.modMove).bump
      · exact (returnMove hs h).bump

theorem takeDone {k : Nat} {tag : Tag} {v : Nat} {o : DoneOutcome} (h : Evolves K e b c)
    (hs : K .stations) (hi : K .inbound) : Evolves K e b (c.takeDone e k tag v o) := by
  unfold Blocks.takeDone
  split
  · exact h.bump
  · split
    · exact freeMove hs hi h
    · exact freeMove hs hi h
    · exact dropDelivery hs h.modMove
    · exact strand hs h
    · exact strand hs h

/-! ### The station link -/

theorem refuseMove {x : RefusalCode} {tag : Option Tag} (h : Evolves K e b c) :
    Evolves K e b (c.refuseMove x tag) := h.emitStation.bump

theorem markPortOff {n : Nat} (h : Evolves K e b c) : Evolves K e b (c.markPortOff n) := h.updRoster

theorem closePort {s : Station} {st : StationState} {carrier : Option CarrierId} (h : Evolves K e b c)
    (hs : K .stations) : Evolves K e b (c.closePort e s st carrier) := by
  unfold Blocks.closePort
  dsimp only
  split
  · exact redecide hs (clearDue hs (h.modStation hs)).reevaluateOwn
  · exact (clearDue hs (h.modStation hs)).reevaluateOwn

theorem emptyPort {s : Station} (h : Evolves K e b c) (hs : K .stations) (hi : K .inbound) :
    Evolves K e b (c.emptyPort e s) := by
  unfold Blocks.emptyPort
  dsimp only
  split
  · exact offerPort hs (sourceGone hs hi (h.modStation hs).reevaluateOwn)
  · exact offerPort hs (h.modStation hs).reevaluateOwn

theorem reportDisabled {s : Station} (h : Evolves K e b c) (hs : K .stations) (hi : K .inbound) :
    Evolves K e b (c.reportDisabled e s) := by
  unfold Blocks.reportDisabled
  split
  · split
    · exact h.modStation hs
    · dsimp only
      split
      · exact redecide hs (h.modStation hs).reevaluateOwn
      · exact (h.modStation hs).reevaluateOwn
  · split
    · exact (h.modStation hs).reevaluateOwn
    · exact (leftForFloor hs hi h).reevaluateOwn
  · exact h

theorem freeShelf {n : Nat} (h : Evolves K e b c) (hs : K .stations) :
    Evolves K e b (c.freeShelf e n) := offerShelf hs (h.modStation hs).reevaluateOwn

theorem reportFree {s : Station} (h : Evolves K e b c) (hs : K .stations) :
    Evolves K e b (c.reportFree e s) := by
  unfold Blocks.reportFree
  split
  · exact h.freeShelf hs
  · exact h.modStation hs

/-! ### Arrivals -/

theorem bindOrphan {id : Nat} {tag : Option Tag} (h : Evolves K e b c) :
    Evolves K e b (c.bindOrphan e id tag) := by
  unfold Blocks.bindOrphan
  split
  · exact h
  · dsimp only
    split
    · split
      · exact h.modVehicle.modMove
      · exact h
    · exact h.modVehicle

theorem minorFault {r : Report} (h : Evolves K e b c) : Evolves K e b (c.minorFault r) := by
  unfold Blocks.minorFault
  split
  · exact h.setFlag
  · exact h

theorem takeIn {r : Report} {i : Option Inbound} {tag : Option Tag} {dest : Option Nat}
    (h : Evolves K e b c) (hi : K .inbound) : Evolves K e b (c.takeIn e r i tag dest) := by
  unfold Blocks.takeIn
  dsimp only
  split
  · exact h.enterRoster.sendGoto.bump.minorFault.dropInbound hi
  · exact h.enterRoster.sendGoto.bump.minorFault

theorem admitEntry {r : Report} {i : Inbound} (h : Evolves K e b c) (hi : K .inbound) :
    Evolves K e b (c.admitEntry e r i) := by
  unfold Blocks.admitEntry
  split
  · exact (h.takeIn hi).bindOrphan
  · exact (h.takeIn hi).modVehicle
  · exact h.takeIn hi

theorem admitOrphan {r : Report} (h : Evolves K e b c) (hi : K .inbound) :
    Evolves K e b (c.admitOrphan e r) := (h.takeIn hi).bump.bindOrphan

theorem refuseNone {r : Report} (h : Evolves K e b c) : Evolves K e b (c.refuse e r none) :=
  h.emitZone.bump

theorem refuse {r : Report} {i : Inbound} (h : Evolves K e b c) (hi : K .inbound)
    (hv : c.inbound? r.vehicle = some i) : Evolves K e b (c.refuse e r (some i)) :=
  h.emitZone.bump.moveInbound hi hv rfl

theorem misroute {r : Report} (h : Evolves K e b c) : Evolves K e b (c.misroute e r) := h.emitZone.bump

theorem decideDivert {r : Report} (h : Evolves K e b c) (hi : K .inbound) :
    Evolves K e b (c.decideDivert e r) := by
  unfold Blocks.decideDivert
  dsimp only
  split
  next i hv =>
    split
    · split
      · exact h.admitEntry hi
      · exact h.refuse hi hv
    · split
      · exact h.admitEntry hi
      · exact h.refuse hi hv
  · split
    · split
      · split
        · exact h.admitOrphan hi
        · exact h.refuseNone
      · exact h.misroute
    · split
      · exact h.takeIn hi
      · exact h.refuseNone

theorem divert {r : Report} (h : Evolves K e b c) (hs : K .stations) (hi : K .inbound) :
    Evolves K e b (c.divert e r) := by
  unfold Blocks.divert
  split
  · split
    · exact (h.removeInbound hs hi).decideDivert hi
    · exact h.decideDivert hi
  · exact h

theorem enterLoaded {r : Report} {seg dest : Nat} (h : Evolves K e b c) (hs : K .stations) :
    Evolves K e b (c.enterLoaded e r seg dest) := by
  unfold Blocks.enterLoaded
  split
  · exact sendUnload hs h.enterRoster.bindOrphan
  · exact h.enterRoster.sendGoto

theorem enterAnswer {r : Report} {seg : Nat} (h : Evolves K e b c) (hs : K .stations) (hi : K .inbound) :
    Evolves K e b (c.enterAnswer e r seg) := by
  unfold Blocks.enterAnswer
  split
  · exact h
  · dsimp only
    split
    · exact (h.removeInbound hs hi).minorFault.enterRoster.setFlag
    · split
      · exact (h.removeInbound hs hi).minorFault.enterRoster.makeIdle
      · split
        · exact (h.removeInbound hs hi).minorFault.enterLoaded hs
        · exact (h.removeInbound hs hi).minorFault.enterRoster

theorem answer {r : Report} (h : Evolves K e b c) (hs : K .stations) (hi : K .inbound) :
    Evolves K e b (c.answer e r) := by
  unfold Blocks.answer
  split
  · split
    · exact h.enterAnswer hs hi
    · exact h
  · exact h

section
variable (hs : K .stations) (hi : K .inbound) (hf : K .fault)
include hs hi hf

theorem enterRefused {v : Vehicle} (h : Evolves K e b c) : Evolves K e b (c.enterRefused e v) := by
  unfold Blocks.enterRefused
  extract_lets left consigned
  have removed : Evolves K e b left := (removeVehicle hs hf h).bump
  have settled : Evolves K e b consigned := by
    unfold consigned
    split
    · split
      · exact removed.modMove
      · exact removed
    · exact removed
  split
  · split
    · exact settled.reclaimBound
    · exact settled
  · dsimp only
    split
    next hr => exact settled.addInbound hi hr
    next => exact missingEffects hs settled

/-! ### Hoists -/

omit hi hf in
theorem loadDone {n : Nat} {off : Bool} (h : Evolves K e b c) : Evolves K e b (c.loadDone e n off) := by
  unfold Blocks.loadDone
  split
  · exact h
  · split
    · split
      · exact h
      · refine offerPort hs ?_
        unfold Blocks.portBack
        split
        · exact (h.modStation hs).reevaluateOwn
        · exact h.modStation hs
    · split
      · exact (h.modStation hs).reevaluateOwn
      · exact offerShelf hs (h.modStation hs)

omit hi hf in
theorem raiseFollowOn {n : Nat} (h : Evolves K e b c) : Evolves K e b (c.raiseFollowOn e n) := by
  unfold Blocks.raiseFollowOn
  split
  · exact h
  · exact offerPort hs h

omit hf in
theorem unloadDone {n : Nat} {off : Bool} {carrier : Option CarrierId} {dest : Option Nat}
    {cls : MoveClass} (h : Evolves K e b c) :
    Evolves K e b (c.unloadDone e n off carrier dest cls) := by
  unfold Blocks.unloadDone
  split
  · exact h
  · split
    · split
      · exact h.modStation hs
      · unfold Blocks.portBack
        split
        · exact (clearDue hs (h.modStation hs)).reevaluateOwn
        · exact clearDue hs (h.modStation hs)
    · dsimp only
      split
      · exact (leftForFloor hs hi (h.modStation hs)).reevaluateOwn
      · split <;> split
        · exact raiseFollowOn hs (h.modStation hs).reevaluateOwn
        · exact raiseFollowOn hs (h.modStation hs)
        · exact (h.modStation hs).reevaluateOwn
        · exact h.modStation hs

omit hf in
theorem disableShelf {n : Nat} (h : Evolves K e b c) : Evolves K e b (c.disableShelf e n) := by
  unfold Blocks.disableShelf
  split
  · exact (leftForFloor hs hi h).reevaluateOwn
  · exact (h.modStation hs).reevaluateOwn

omit hf in
theorem shelfFailure {s : Station} (h : Evolves K e b c) : Evolves K e b (c.shelfFailure e s) := by
  unfold Blocks.shelfFailure
  dsimp only
  split
  · exact disableShelf hs hi (h.setFlag.modStation hs)
  · exact h.setFlag.modStation hs

omit hf in
theorem loadFailedAt {n : Nat} {x : Hoist} {carrier : Bool} (h : Evolves K e b c) :
    Evolves K e b (c.loadFailedAt e n x carrier) := by
  unfold Blocks.loadFailedAt
  split
  · exact h
  · split
    · exact shelfFailure hs hi h
    · exact h

omit hf in
theorem unloadFailedAt {n : Nat} {tag : Option Tag} {carrier : Bool} (h : Evolves K e b c) :
    Evolves K e b (c.unloadFailedAt e n tag carrier) := by
  unfold Blocks.unloadFailedAt
  extract_lets counted disabled
  have failed : Evolves K e b counted := by
    unfold counted
    split
    · exact h
    · split
      · exact shelfFailure hs hi h
      · exact h
  have closed : Evolves K e b disabled := by
    unfold disabled
    split
    · exact disableShelf hs hi failed
    · exact failed
  split
  · exact dropDelivery hs closed
  · exact closed

omit hi hf in
theorem loadComplete {v : Vehicle} {m : Move} (h : Evolves K e b c) :
    Evolves K e b (c.loadComplete e v m) := by
  unfold Blocks.loadComplete
  extract_lets id read acted differs counted carrying emptied
  have checked : Evolves K e b counted := by
    unfold counted
    split
    · exact h.modVehicle.bump
    · exact h.modVehicle
  split
  · exact (dropDelivery hs (loadDone hs (modMove checked))).setFlag
  · have loaded : Evolves K e b emptied := loadDone hs (modMove checked)
    split
    · exact returnMove hs loaded
    · split
      · exact sendUnload hs (reserve hs loaded)
      · exact sendExit hs loaded

theorem loadFailed {v : Vehicle} {m : Move} (h : Evolves K e b c) :
    Evolves K e b (c.loadFailed e v m) :=
  vehicleFault hs hf (becomeFaulted hs (loadFailedAt hs hi h))

theorem loadHoist {v : Vehicle} {m : Move} (h : Evolves K e b c) : Evolves K e b (c.loadHoist e v m) := by
  unfold Blocks.loadHoist
  dsimp only
  split
  · exact loadComplete hs h.modMove
  · split
    · exact loadFailed hs hi hf h.modMove
    · exact h.modMove

omit hs hi hf in
theorem beginHoist {id : Nat} {st : RosterState} (h : Evolves K e b c) :
    Evolves K e b (c.beginHoist id st) := h.modVehicle

theorem loadStep {r : Report} (h : Evolves K e b c) : Evolves K e b (c.loadStep e r) := by
  unfold Blocks.loadStep
  split
  · exact h
  · split
    · exact h
    · dsimp only
      split
      · split
        · exact loadHoist hs hi hf h.beginHoist.modMove
        · exact h.beginHoist.modMove
      · split
        · exact loadHoist hs hi hf h
        · exact h

omit hf in
theorem shelved {m : Move} {id n : Nat} (h : Evolves K e b c) : Evolves K e b (c.shelved e m id n) := by
  have waits : Evolves K e b (((((c.clearActive m.tag).setActive n m.tag).modMove m.tag fun x =>
      { x with source := n, shelfSourced := true }).enterWaiting e m.tag true).unbind id
        |>.makeIdle e id) :=
    (setActive hs (clearActive hs h)).modMove.enterWaiting.unbind.makeIdle
  unfold Blocks.shelved
  dsimp only
  split
  · exact sourceGone hs hi waits
  · exact waits

omit hf in
theorem unloadComplete {v : Vehicle} {n : Nat} {read : Option CarrierId} (h : Evolves K e b c) :
    Evolves K e b (c.unloadComplete e v n read) := by
  unfold Blocks.unloadComplete
  extract_lets dest shelf aside move acted setDown counted reported
  have down : Evolves K e b setDown := unloadDone hs hi h.modVehicle
  have tallied : Evolves K e b counted := by
    unfold counted
    split
    · exact down.bump
    · exact down
  clear_value move
  split
  · split
    · exact down.unbind.makeIdle
    · split
      · exact shelved hs hi down
      · exact freeMove hs hi tallied
  · have told : Evolves K e b reported := by
      unfold reported
      split
      · exact tallied.sendDone
      · exact tallied
    exact told.unbind.makeIdle

theorem unloadFailed {v : Vehicle} {n : Nat} (h : Evolves K e b c) :
    Evolves K e b (c.unloadFailed e v n) :=
  vehicleFault hs hf (becomeFaulted hs (unloadFailedAt hs hi h))

theorem unloadHoist {v : Vehicle} {n : Nat} {read : Option CarrierId} (h : Evolves K e b c) :
    Evolves K e b (c.unloadHoist e v n read) := by
  unfold Blocks.unloadHoist
  extract_lets d
  have noted : Evolves K e b d := by
    unfold d
    split
    · exact h.modMove
    · exact h
  split
  · exact unloadComplete hs hi noted
  · split
    · exact unloadFailed hs hi hf noted
    · exact noted

theorem unloadStep {r : Report} {read : Option CarrierId} (h : Evolves K e b c) :
    Evolves K e b (c.unloadStep e r read) := by
  unfold Blocks.unloadStep
  split
  · exact h
  · split
    · exact h
    · dsimp only
      split
      · split
        · exact h.beginHoist
        · exact unloadHoist hs hi hf h.beginHoist
      · split
        · exact unloadHoist hs hi hf h
        · exact h

end

end Evolves
end Sys2Proof.Machine
end

section
/-! PROOFS. REPORTs, poll rounds, the effects of the service port and of the timers evolve the blocks. -/
namespace Sys2Proof.Machine
namespace Evolves
variable {K : Part → Prop} {e : Env} {b c : Blocks}

/-! ### The fields of a REPORT -/

theorem missPoll {id : Nat} (hs : K .stations) (hf : K .fault) (h : Evolves K e b c) :
    Evolves K e b (c.missPoll e id) := by
  unfold Blocks.missPoll
  split
  · exact h
  · dsimp only
    split
    · exact becomeSilent hs hf h.modVehicle
    · exact h.modVehicle

theorem takeFields {r : Report} (h : Evolves K e b c) : Evolves K e b (c.takeFields e r) := h.modVehicle

theorem takePlace {v : Vehicle} {r : Report} (h : Evolves K e b c) :
    Evolves K e b (c.takePlace e v r) := by
  unfold Blocks.takePlace
  split
  · split
    · exact h.modVehicle
    · split
      · exact h
      · dsimp only
        split
        · exact h.modVehicle
        · exact h.modVehicle.setFlag
  · split
    · exact h.modVehicle
    · exact h

/-- Only a BLOCKED vehicle changes the Segment Table by its motion (R7, R165). -/
theorem takeBlocked {r : Report} (h : Evolves K e b c) (hg : r.motion = .blocked → K .segments) :
    Evolves K e b (c.takeBlocked r) := by
  unfold Blocks.takeBlocked
  split
  · exact h.modVehicle
  next hm _ =>
    have hg := hg hm
    dsimp only
    split
    · exact (h.modSeg hg).setFlag
    · exact ((h.modSeg hg).setFlag.segmentFault hg).modVehicle
  · exact h

theorem takeCapture {v : Vehicle} {r : Report} (h : Evolves K e b c)
    (hg : r.atMarker = true → K .segments) : Evolves K e b (c.takeCapture e v r) := by
  unfold Blocks.takeCapture
  dsimp only
  split
  next hm => exact h.capture (hg hm)
  · exact h.modVehicle

theorem resend {id : Nat} {j : Job} {n : EchoCount} (h : Evolves K e b c) :
    Evolves K e b (c.resend id j n) := h.modVehicle.emitZone

theorem takeEcho {r : Report} (h : Evolves K e b c) : Evolves K e b (c.takeEcho r) := by
  unfold Blocks.takeEcho
  split
  · exact h
  · split
    · exact h
    · split
      · exact h.modVehicle
      · exact h.resend
    · split
      · exact h.modVehicle
      · split
        · exact h.modVehicle
        · split
          · exact h.resend
          · exact h.setFlag.resend

/-! ### Rebuilding -/

theorem faultHoist {v : Vehicle} (h : Evolves K e b c) : Evolves K e b (c.faultHoist e v) := by
  unfold Blocks.faultHoist
  split
  · split
    · exact h.modMove
    · exact h
  · exact h

theorem findBinding {r : Report} (h : Evolves K e b c) : Evolves K e b (c.findBinding e r) := by
  unfold Blocks.findBinding
  split
  · exact h.modVehicle
  · split
    · exact h.bindOrphan
    · exact h

theorem goOn {r : Report} (hs : K .stations) (h : Evolves K e b c) : Evolves K e b (c.goOn e r) := by
  unfold Blocks.goOn
  split
  · exact h
  · split
    · exact h
    · split
      · split
        · exact takeUp hs h
        · split
          · exact h.sendGoto
          · exact h
      · split
        · exact h
        · split
          · exact sendUnload hs h
          · exact decideIfThere hs h

section
variable (hs : K .stations) (hf : K .fault)
include hs hf

theorem rebuiltFaulted {r : Report} (h : Evolves K e b c) : Evolves K e b (c.rebuiltFaulted e r) := by
  have faulted := becomeFaulted hs (h.modVehicle (id := r.vehicle)
    (f := fun v => { v with state := rebuiltPhase e r })) (id := r.vehicle)
  unfold Blocks.rebuiltFaulted
  dsimp only
  split
  · exact faulted
  · split
    · exact faulted
    · split
      · exact vehicleFault hs hf faulted
      · split
        · exact (dropCarried hs faulted).setFlag
        · exact dropCarried hs faulted

theorem majorFault {v : Vehicle} (h : Evolves K e b c) : Evolves K e b (c.majorFault e v) :=
  vehicleFault hs hf (becomeFaulted hs h)

theorem rebuiltMajor {r : Report} (h : Evolves K e b c) : Evolves K e b (c.rebuiltMajor e r) := by
  unfold Blocks.rebuiltMajor
  split
  · exact h
  · exact majorFault hs hf h.faultHoist

theorem rebuild {r : Report} (h : Evolves K e b c) : Evolves K e b (c.rebuild e r) := by
  unfold Blocks.rebuild
  extract_lets id entered found bound st placed
  have entered_evolves : Evolves K e b entered := (h.leaveQueue hs).modVehicle
  have placed_evolves : Evolves K e b placed := entered_evolves.findBinding.modVehicle
  clear_value placed st
  split
  · exact rebuiltMajor hs hf placed_evolves
  · split
    · exact placed_evolves.makeIdle
    · exact placed_evolves.wantBind
    · exact rebuiltFaulted hs hf placed_evolves
    · exact goOn hs placed_evolves.releaseBids

/-! ### Travel, faults, parking -/

omit hs hf in
theorem consigned {m : Move} {id : Nat} {round : Bool} (h : Evolves K e b c) (hi : K .inbound) :
    Evolves K e b (c.consigned e m id round) := by
  unfold Blocks.consigned
  extract_lets sent ref counters drawn named
  split
  · exact h.modMove
  · have drawn_evolves : Evolves K e b drawn := by
      unfold drawn
      split
      · exact h.modMove
      · exact h.modMove.setConsignCounter
    split
    next hr => exact drawn_evolves.modMove.addInbound hi hr
    · exact drawn_evolves.modMove

theorem leave {v : Vehicle} (hi : K .inbound) (h : Evolves K e b c) : Evolves K e b (c.leave e v) := by
  unfold Blocks.leave
  split
  · dsimp only
    split
    · exact removeVehicle hs hf h
    · split
      · exact (removeVehicle hs hf h).consigned hi
      · exact removeVehicle hs hf h
  · split
    · exact removeVehicle hs hf h
    · exact removeVehicle hs hf (becomeSilent hs hf h)

omit hf in
theorem enterLoop {v : Vehicle} (h : Evolves K e b c) : Evolves K e b (c.enterLoop e v) := by
  unfold Blocks.enterLoop
  split
  · split
    · exact h.setVehicleState.sendGoto
    · split
      · split
        · exact sendUnload hs h
        · split
          · exact ownerAbsent hs h
          · exact sendExit hs h
      · exact h
  · split
    · exact sendUnload hs h
    · exact h.makeIdle

theorem travelStep {r : Report} (hi : K .inbound) (h : Evolves K e b c) :
    Evolves K e b (c.travelStep e r) := by
  unfold Blocks.travelStep
  split
  · exact h
  · split
    · exact enterRefused hs hi hf h
    · split
      · exact leave hs hf hi h
      · split
        · exact enterLoop hs h
        · exact h
      · exact h

theorem strayStep {r : Report} (h : Evolves K e b c) : Evolves K e b (c.strayStep e r) := by
  unfold Blocks.strayStep
  split
  · exact h
  next v _ =>
    have faulted : Evolves K e b (c.becomeFaulted v.id) := becomeFaulted hs h
    split
    · dsimp only
      split
      · exact vehicleFault hs hf faulted
      · split <;> split
        · exact (dropCarried hs faulted.setFlag).unbind
        · exact faulted.setFlag.unbind
        · exact dropCarried hs faulted.setFlag
        · exact faulted.setFlag
    · exact h

theorem majorStep {r : Report} (h : Evolves K e b c) : Evolves K e b (c.majorStep e r) := by
  unfold Blocks.majorStep
  split
  · exact h
  · split
    · exact majorFault hs hf h
    · exact h

omit hf in
theorem restorePhase {v : Vehicle} {m : Move} (h : Evolves K e b c) :
    Evolves K e b (c.restorePhase e v m) := by
  unfold Blocks.restorePhase
  split
  · split
    · exact h.setVehicleState
    · exact enterLoop hs h
  · exact takeUp hs (waitAgain hs h)
  · exact takeUp hs h.setVehicleState
  · exact h

omit hf in
theorem clearStep {r : Report} (h : Evolves K e b c) : Evolves K e b (c.clearStep e r) := by
  unfold Blocks.clearStep
  split
  · exact h
  · split
    · exact h
    · split
      · split
        · split
          · exact h
          · split
            · split
              · exact h.setVehicleState
              · exact resumeMove hs h
            · exact restorePhase hs h
        · exact resumeForeign hs h
      · split
        · exact h
        · exact h.idleAfterFault

theorem silentStep {r : Report} (h : Evolves K e b c) : Evolves K e b (c.silentStep e r) := by
  unfold Blocks.silentStep
  split
  · exact h
  · dsimp only
    split
    · exact vehicleFault hs hf h.modVehicle
    · split
      · exact h.modVehicle.setFlag
      · split
        · exact h.modVehicle
        · exact h.idleAfterFault

omit hs hf in
theorem parkStep {r : Report} (h : Evolves K e b c) : Evolves K e b (c.parkStep e r) := by
  unfold Blocks.parkStep
  split
  · exact h
  · split
    · exact h.setVehicleState
    · split
      · exact h.modVehicle.makeIdle.wantPark
      · exact h

/-! ### The whole REPORT -/

theorem takeReport {v : Vehicle} {r : Report} (hb : r.motion = .blocked → K .segments)
    (hm : r.atMarker = true → K .segments) (h : Evolves K e b c) :
    Evolves K e b (c.takeReport e v r) := by
  unfold Blocks.takeReport
  extract_lets taken known watched
  have taken_evolves : Evolves K e b taken := (h.takeFields.takePlace.takeBlocked hb).takeCapture hm
  have known_evolves : Evolves K e b known := by
    unfold known
    split
    · exact rebuild hs hf taken_evolves
    · exact taken_evolves.takeEcho
  have watched_evolves : Evolves K e b watched := by
    unfold watched
    split
    · exact known_evolves.watchVehicle hf
    · exact known_evolves
  split
  · exact watched_evolves.setFlag
  · exact watched_evolves

theorem transitions {r : Report} {read : Option CarrierId} (hi : K .inbound) (h : Evolves K e b c) :
    Evolves K e b (c.transitions e r read) := by
  have moved := unloadStep hs hi hf (loadStep hs hi hf (travelStep hs hf hi h (r := r)) (r := r))
    (r := r) (read := read)
  unfold Blocks.transitions
  dsimp only
  split
  · exact clearStep hs (majorStep hs hf (strayStep hs hf moved))
  · exact (majorStep hs hf (strayStep hs hf moved)).parkStep

theorem report {r : Report} (hi : K .inbound) (hb : r.motion = .blocked → K .segments)
    (hm : r.atMarker = true → K .segments) (h : Evolves K e b c) : Evolves K e b (c.report e r) := by
  unfold Blocks.report
  split
  · exact h
  · split
    · exact missPoll hs hf h
    · dsimp only
      split
      · split
        · exact silentStep hs hf (travelStep hs hf hi (takeReport hs hf hb hm h))
        · exact travelStep hs hf hi (takeReport hs hf hb hm h)
      · exact transitions hs hf hi (takeReport hs hf hb hm h)

end

theorem poll {id : Nat} (hs : K .stations) (h : Evolves K e b c) : Evolves K e b (c.poll e id) := by
  unfold Blocks.poll
  split
  · exact h
  · split
    · exact h.emitZone
    · dsimp only
      split
      · exact decideDelivery hs h.modVehicle.emitZone
      · exact h.modVehicle.emitZone

/-! ### The service port -/

theorem serve {x : Result} {act : Blocks → Blocks} (h : Evolves K e b c)
    (ha : x = .ok → Evolves K e b (act c)) : Evolves K e b (c.serve x act) := by
  unfold Blocks.serve
  refine reply ?_
  split
  next hx => exact ha hx
  next => exact h

theorem snap (h : Evolves K e b c) : Evolves K e b c.snap := h.modSPPlain rfl

theorem clearSnapshot (h : Evolves K e b c) (hp : K .peers) : Evolves K e b c.clearSnapshot := by
  unfold Blocks.clearSnapshot
  exact (foldl h fun _ h => h.writeAnyFlag hp).modSPPlain rfl

theorem resolveStranded {m : Move} {how : Answer} (hs : K .stations) (hi : K .inbound)
    (h : Evolves K e b c) : Evolves K e b (c.resolveStranded e m how) := by
  unfold Blocks.resolveStranded
  split
  · exact freeMove hs hi h
  · exact h.enterWaiting
  · exact (setActive hs (clearActive hs h)).modMove.enterWaiting

theorem resolveSuspended {m : Move} {how : Answer} (hs : K .stations) (hi : K .inbound)
    (h : Evolves K e b c) : Evolves K e b (c.resolveSuspended e m how) := by
  unfold Blocks.resolveSuspended
  split
  · exact freeMove hs hi h
  · dsimp only
    split
    · exact h.modMove
    · exact returnMove hs h.modMove
  · dsimp only
    split <;> split
    · exact h.modMove
    · exact resumeMove hs h.modMove
    · exact h.modMove
    · exact resumeMove hs h.modMove

/-! ### Start-up and timers -/

theorem sendStatus (h : Evolves K e b c) : Evolves K e b (c.sendStatus e) := by
  unfold Blocks.sendStatus
  exact h.toAll.modTIPlain rfl rfl rfl

theorem starveCheck (h : Evolves K e b c) : Evolves K e b (c.starveCheck e) := by
  unfold Blocks.starveCheck
  split
  · exact h.modDU le_rfl rfl
  · exact h

theorem staleAll (hp : K .peers) (h : Evolves K e b c) : Evolves K e b (c.staleAll e) := by
  refine h.foldl fun k h => ?_
  split
  · exact h.setPresence hp
  · exact h

theorem noBid {x : CallEntry} (h : Evolves K e b c) : Evolves K e b (c.noBid e x) := by
  unfold Blocks.noBid
  exact h.removeCall.modMove.enterWaiting

theorem awardCall {x : CallEntry} {best : BestBid} (h : Evolves K e b c) :
    Evolves K e b (c.awardCall e x best) := by
  unfold Blocks.awardCall
  exact h.toAll.modMove.mapCalls.bump

theorem startWait {tag : Tag} {again : Bool} (h : Evolves K e b c) :
    Evolves K e b (c.startWait e tag again) := h.modMove

end Evolves
end Sys2Proof.Machine
end

section
/-! PROOFS. What a command can do: by what change of CL it runs, and that it evolves the blocks, with the
upkeep of the Transmit Queue and an empty agenda at its end. Everything said of every command is read off
here. -/
namespace Sys2Proof.Machine

/-! ### The end of a command -/

/-- No HOLD of a content is placed while one of that content waits or is on the line (R141). -/
theorem Evolves.placeHoldOf {K : Part → Prop} {e : Env} {b c : Blocks} {d : Nat} (h : Evolves K e b c)
    (hz : (e.node.active = true → 1 ≤ e.cfg.quanta) → d = 0 → c.ti.holds isHoldZero = false)
    (hn : d ≠ 0 → c.ti.holds isHoldQuanta = false) : Evolves K e b (c.toAll e (.hold d)) := by
  unfold Blocks.toAll
  rcases c.place_cases e { dest := none, body := .hold d } with
    ⟨-, hp⟩ | ⟨-, -, hp⟩ | ⟨-, -, -, hp⟩ | ⟨ha, hq, hc, hp⟩ <;> rw [hp]
  · exact h
  · exact h.modTI (TI.Kept.replace e _ _)
  · exact h.bump.setFlag
  · exact h.modTI (.join (fun hquanta hr => hz hquanta (by simpa [isHoldZero_iff] using hr))
      (fun hr => hn (by simpa [isHoldQuanta_iff] using hr)) ha hq hc)

theorem Evolves.holdUpkeep {K : Part → Prop} {e : Env} {b c : Blocks} {half : Bool}
    (h : Evolves K e b c) : Evolves K e b (c.holdUpkeep e half) := by
  have withdrawn {p : Record → Bool} :
      Evolves K e b (c.modTI fun t => { t with queue := t.queue.filter p }) :=
    h.modTI (TI.Kept.withdraw e p c.ti)
  unfold Blocks.holdUpkeep
  split
  · exact h
  next ha =>
    have active : e.node.active = true := by simpa using ha
    split
    · dsimp only
      split
      · unfold Blocks.placeHold
        split
        · exact withdrawn
        next hn =>
          exact withdrawn.placeHoldOf (fun hq hz => by have := hq active; omega)
            fun _ => by simpa using hn
      · exact withdrawn
    · dsimp only
      split
      next hz =>
        exact withdrawn.placeHoldOf (fun _ _ => by simpa using (Bool.and_eq_true_iff.1 hz).2)
          fun hne => absurd rfl hne
      · exact withdrawn

theorem Evolves.trunkUpkeep {K : Part → Prop} {e : Env} {b c : Blocks} (h : Evolves K e b c) :
    Evolves K e b (c.trunkUpkeep e) := by
  unfold Blocks.trunkUpkeep
  exact h.holdUpkeep.periodUpkeep

theorem Evolves.settle {K : Part → Prop} {e : Env} {b c before : Blocks} (h : Evolves K e b c)
    (hs : K .stations ∨ c.agenda.follow = false) : Evolves K e b (c.settle e before) := by
  unfold Blocks.settle
  exact (h.passes hs).trunkUpkeep.supplyWatch

theorem Blocks.supplyWatch_ti (e : Env) (b before : Blocks) : (b.supplyWatch e before).ti = b.ti := by
  rw [b.supplyWatch_eq e before]

theorem Blocks.trunkUpkeep_agenda (e : Env) (b : Blocks) : (b.trunkUpkeep e).agenda = b.agenda := by
  have held : (b.holdUpkeep e false).agenda = b.agenda := (b.holdUpkeep_frame e false).2.2.2.2.2.2.2
  unfold Blocks.trunkUpkeep Blocks.periodUpkeep
  split
  · exact held
  · exact held

theorem Blocks.settle_agenda (e : Env) (b before : Blocks) :
    (b.settle e before).agenda = Agenda.none := by
  unfold Blocks.settle
  rw [Blocks.supplyWatch_eq]
  exact ((b.passes e).trunkUpkeep_agenda e).trans (b.passes_agenda e)

/-! ### CL under a command (R155 to R158, R134, R154) -/

/-- What a command other than power-on and RESTART makes of CL. -/
inductive Turn (c : Instr) (s : State) : CL → Prop
  | stay : Turn c s s.cl
  | listen (image : Option (List Byte)) (cfg : Cfg) (hc : c = .configImageRead image)
      (hn : s.cl.node = .config) (hi : readImage image = .ok cfg) :
      Turn c s { node := .listen, cfg := cfg, listenEnd := some (after s.now listenTime) }
  | refuse (image : Option (List Byte)) (x : ImageCheck) (hc : c = .configImageRead image)
      (hn : s.cl.node = .config) : Turn c s { s.cl with node := .haltedConfig x }
  | endListen (node : NodeState) (hc : c = .listenEnd) (hn : s.cl.node = .listen)
      (hnode : node = .conflict ∨ node = .ready) :
      Turn c s { s.cl with node := node, listenEnd := none }
  | clash (k : Bay) (st : StatusBody) (hc : c = .status k st) (hn : s.cl.node = .ready)
      (ho : s.overlapped k st = true) : Turn c s { s.cl with node := .conflict }
  | duplicate (hn : s.cl.node.active = true) :
      Turn c s { s.cl with node := .haltedDuplicate, listenEnd := none }

/-- The parts of the state that a command can change: the Fault Unit and the Peer Table are open to
some commands alone, but that a failed bit which waits to be read can be a fault. -/
def scopeOf (c : Instr) (s : State) : Part → Prop
  | .fault => mayFault c = true ∨ s.b.spoiled ≠ []
  | .peers => mayChangePeers c = true
  | _ => True

/-- The Transmit Queue after a command: as it was, or as the upkeep leaves it. -/
def TrunkSettled (K : Part → Prop) (e : Env) (b c : Blocks) : Prop :=
  c.ti = b.ti ∨ ∃ d, Evolves K e b d ∧ c.ti = (d.trunkUpkeep e).ti

/-- What a command other than power-on and RESTART makes of the state. -/
structure Course (c : Instr) (s t : State) : Prop where
  pending : t.pending = s.pending
  now : t.now = s.now
  turn : Turn c s t.cl
  evolves : Evolves (scopeOf c s) t.env s.b t.b
  agenda : t.b.agenda = Agenda.none ∨ t.b.agenda = s.b.agenda
  trunk : TrunkSettled (scopeOf c s) t.env s.b t.b
  stopped : s.cl.node.active = true → t.cl.node.active = false → t.b.ti.queue = [] ∧ t.b.ti.line = none

/-! ### The ways a command runs -/

section
variable {c : Instr} {s : State}

theorem scopeOf_stations : scopeOf c s .stations := trivial
theorem scopeOf_inbound : scopeOf c s .inbound := trivial
theorem scopeOf_segments : scopeOf c s .segments := trivial
theorem scopeOf_census : scopeOf c s .census := trivial

theorem Course.runPlain {f : Env → Blocks → Blocks}
    (hf : ∀ {d}, Evolves (scopeOf c s) s.env s.b d → Evolves (scopeOf c s) s.env s.b (f s.env d))
    (ha : (f s.env s.b.quiet).agenda = s.b.agenda) (ht : (f s.env s.b.quiet).ti = s.b.ti) :
    Course c s (s.runPlain f) where
  pending := rfl
  now := rfl
  turn := .stay
  evolves := hf (Evolves.refl.modOut (f := fun _ => Out.none))
  agenda := .inr ha
  trunk := .inl ht
  stopped h h' := by simp [h] at h'

theorem Course.runNothing : Course c s (s.runPlain fun _ b => b) := Course.runPlain id rfl rfl

/-- What the reads of a command find first, and then its effect, evolve the blocks. -/
theorem Evolves.afterReads {e : Env} {f : Env → Blocks → Blocks}
    (hf : ∀ {d}, Evolves (scopeOf c s) e s.b d → Evolves (scopeOf c s) e s.b (f e d)) :
    Evolves (scopeOf c s) e s.b (f e (s.b.quiet.readSpoiled e)) := by
  have quiet : Evolves (scopeOf c s) e s.b s.b.quiet := Evolves.refl.modOut (f := fun _ => Out.none)
  by_cases hsp : s.b.spoiled = []
  · rw [s.b.quiet.readSpoiled_of_nil e hsp]
    exact hf quiet
  · exact hf (Evolves.readSpoiled scopeOf_stations (.inr hsp) scopeOf_inbound quiet)

theorem Course.runAs {cl : CL} {f : Env → Blocks → Blocks} (turn : Turn c s cl)
    (hstop : s.cl.node.active = true → cl.node.active = true)
    (hf : ∀ {d}, Evolves (scopeOf c s) { now := s.now, node := cl.node, cfg := cl.cfg } s.b d →
      Evolves (scopeOf c s) { now := s.now, node := cl.node, cfg := cl.cfg } s.b
        (f { now := s.now, node := cl.node, cfg := cl.cfg } d)) :
    Course c s (s.runAs cl f) where
  pending := rfl
  now := rfl
  turn := turn
  evolves := (Evolves.afterReads hf).settle (.inl trivial)
  agenda := .inl (Blocks.settle_agenda _ _ _)
  trunk := .inr ⟨_, (Evolves.afterReads hf).passes (.inl trivial), Blocks.supplyWatch_ti _ _ _⟩
  stopped h h' := by
    have : cl.node.active = false := h'
    simp [hstop h] at this

theorem Course.run {f : Env → Blocks → Blocks}
    (hf : ∀ {d}, Evolves (scopeOf c s) s.env s.b d → Evolves (scopeOf c s) s.env s.b (f s.env d)) :
    Course c s (s.run f) := Course.runAs .stay id hf

theorem Course.runFailing {read : List ParityTable} {failing : List ParityError}
    {f : Env → Blocks → Blocks} (hc : mayFault c = true)
    (hf : ∀ {d}, Evolves (scopeOf c s) s.env s.b d → Evolves (scopeOf c s) s.env s.b (f s.env d)) :
    Course c s (s.runFailing read failing f) :=
  have ran : Course c s (s.run fun e b =>
      f e (b.parityErrors e (failing.filter fun p => read.contains p.table))) :=
    Course.run fun h => hf (h.parityErrors scopeOf_stations (.inl hc) scopeOf_inbound)
  { ran with evolves := ran.evolves.setSpoiled }

/-- The own bay's number is heard: the node halts and its queue is emptied, or it takes note (R134). -/
theorem Course.heardOwn : Course c s s.heardOwn := by
  unfold State.heardOwn
  split
  next ha =>
    have ran : Evolves (scopeOf c s)
        { now := s.now, node := .haltedDuplicate, cfg := s.cl.cfg } s.b _ :=
      Evolves.afterReads (f := fun e b =>
        let b := (b.bump .received).outcome e true
        { b with
          ti := { b.ti with queue := [], line := none }
          zc := { b.zc with census := none } }) fun h => by
        have emptied := h.bump (k := .received) |>.outcome (good := true) |>.modTI
          (f := fun t => { t with queue := [], line := none })
          ⟨fun _ => ⟨Nat.zero_le _, .nil, Nat.zero_le _, Nat.zero_le _⟩,
            fun _ _ => ⟨Nat.zero_le _, Nat.zero_le _, by simp, by simp⟩,
            fun _ _ _ => ⟨rfl, rfl⟩, fun hw => hw⟩
        exact emptied.setCensus scopeOf_census
    refine ⟨rfl, rfl, .duplicate ha, ran.settle (.inl trivial),
      .inl (Blocks.settle_agenda _ _ _),
      .inr ⟨_, ran.passes (.inl trivial), Blocks.supplyWatch_ti _ _ _⟩, fun _ _ => ?_⟩
    exact (Evolves.refl.settle (K := fun _ => True) (.inl trivial)).ti_kept.silent rfl rfl rfl
  next =>
    refine Course.run fun h => ?_
    split
    · exact h.bump.outcome
    · exact h

/-- A record heard refreshes its sender, and its owner acts (R135, R148). -/
theorem Course.heardAs {cl : CL} {k : Bay} {inRange : Bool} {act : Env → Blocks → Blocks}
    (hc : mayChangePeers c = true) (turn : Turn c s cl)
    (hstop : s.cl.node.active = true → cl.node.active = true)
    (hf : ∀ {e d}, Evolves (scopeOf c s) e s.b d → Evolves (scopeOf c s) e s.b (act e d)) :
    Course c s (s.heardAs cl k inRange act) := by
  unfold State.heardAs
  split
  · exact Course.runNothing
  · split
    · exact Course.run fun h => h.discard
    · split
      · exact Course.heardOwn
      · exact Course.runAs turn hstop fun h => hf (h.heard.refresh hc scopeOf_stations)

theorem Course.heardFrom {k : Bay} {body : Body} {act : Env → Blocks → Blocks}
    (hc : mayChangePeers c = true)
    (hf : ∀ {e d}, Evolves (scopeOf c s) e s.b d → Evolves (scopeOf c s) e s.b (act e d)) :
    Course c s (s.heardFrom k body act) := Course.heardAs hc .stay id hf

theorem Course.serveActive {reads : Env → Blocks → List ParityTable} {check : Env → Blocks → Result}
    {act : Env → Blocks → Blocks}
    (hf : ∀ {d}, Evolves (scopeOf c s) s.env s.b d → check s.env d = .ok →
      Evolves (scopeOf c s) s.env s.b (act s.env d)) :
    Course c s (s.serveActive reads check act) := by
  unfold State.serveActive
  split
  · exact Course.runPlain (fun h => h.reply) rfl rfl
  · split
    · exact Course.runPlain (fun h => h.reply) rfl rfl
    · exact Course.run fun h => h.serve (hf h)

end

/-! ### Every command -/

/-- The bytes of an accepted image keep the HOLD duration from 0 (R156). -/
theorem quanta_of_readImage {image : Option (List Byte)} {cfg : Cfg} (h : readImage image = .ok cfg) :
    1 ≤ cfg.quanta := by
  unfold readImage at h
  split at h
  · cases h
  next l =>
    dsimp only at h
    split at h
    · cases h
    · split at h
      · cases h
      · split at h
        · cases h
        next hr =>
          split at h
          · cases h
          · cases h
            have ranges : imageRanges l (imageCfg l) = true := by simpa using hr
            simp only [imageRanges, within, Bool.and_eq_true, decide_eq_true_eq] at ranges
            omega

/-- The tables that the image shapes evolve, whatever they held. -/
theorem Evolves.configure {K : Part → Prop} {e : Env} {b c : Blocks} {cfg : Cfg} (h : Evolves K e b c)
    (hs : K .stations) (hg : K .segments) : Evolves K e b (c.configure cfg) :=
  (h.modSegments hg).setSI hs (.inr (by simp))

theorem Evolves.enterListen {K : Part → Prop} {e : Env} {b c : Blocks} (h : Evolves K e b c)
    (hs : K .stations) (hg : K .segments) (hc : K .census) : Evolves K e b (c.enterListen e) := by
  have listening : Evolves K e b ((((c.configure e.cfg).periodUpkeep e).sendStatus e).modTI
      fun t => { t with heardAt := e.now }) :=
    (h.configure hs hg).periodUpkeep.sendStatus.modTIPlain rfl rfl rfl
  unfold Blocks.enterListen
  exact listening.emitZone.setCensus hc

theorem Evolves.endListen {K : Part → Prop} {e : Env} {b c : Blocks} (h : Evolves K e b c)
    (hs : K .stations) (hc : K .census) : Evolves K e b (c.endListen e) := by
  have linked : Evolves K e b ({ c with
      zc := { c.zc with census := none }
      si := { c.si with linkReset := true } } : Blocks) :=
    (h.setCensus (n := none) hc).setSI (x := { c.si with linkReset := true }) hs (.inl rfl)
  unfold Blocks.endListen
  dsimp only
  split
  · exact (linked.emitStation.starveCheck.wantFollow hs).wantCall
  · exact linked.emitStation

theorem course_configImageRead (image : Option (List Byte)) (s : State) {t : State}
    (h : execConfigImageRead image s = .next t) : Course (.configImageRead image) s t := by
  unfold execConfigImageRead at h
  split at h
  · cases h
    exact Course.runNothing
  next hn =>
    have config : s.cl.node = .config := by simpa using hn
    split at h
    next x _ =>
      cases h
      exact ⟨rfl, rfl, .refuse image x rfl config, Evolves.refl.modOut (f := fun _ => Out.none),
        .inr rfl, .inl rfl, fun ha => by simp [config, NodeState.active] at ha⟩
    next cfg hi =>
      cases h
      exact Course.runAs (.listen image cfg rfl config hi) (fun _ => rfl) fun h =>
        h.enterListen trivial trivial trivial

theorem course_listenEnd (s : State) {t : State} (h : execListenEnd s = .next t) :
    Course .listenEnd s t := by
  unfold execListenEnd at h
  split at h
  next hn _ =>
    split at h
    · cases h
      refine Course.runAs (.endListen _ rfl hn ?_) (fun _ => ?_) fun h => h.endListen trivial trivial
      · split
        · exact .inl rfl
        · exact .inr rfl
      · dsimp only
        split <;> rfl
    · cases h
      exact Course.runNothing
  · cases h
    exact Course.runNothing

theorem course_status (k : Bay) (st : StatusBody) (s : State) {t : State}
    (h : execStatus k st s = .next t) : Course (.status k st) s t := by
  unfold execStatus at h
  cases h
  refine Course.heardAs rfl ?_ (fun ha => ?_) fun h => ?_
  · split
    next hc =>
      obtain ⟨hn, ho⟩ := Bool.and_eq_true_iff.1 hc
      exact .clash k st rfl (by simpa using hn) ho
    · exact .stay
  · split
    · rfl
    · exact ha
  · dsimp only
    split
    · exact (h.takeStatus rfl trivial).endCalling
    · exact h.takeStatus rfl trivial

end Sys2Proof.Machine
end

section
/-! PROOFS. Every command but power-on and RESTART takes its course. -/
namespace Sys2Proof.Machine

/-! ### The record on the line (R136, R137) -/

theorem countP_eq_zero_of_any {p : Record → Bool} {q : List Record} (h : q.any p = false) :
    q.countP p = 0 := List.countP_eq_zero.2 (by simpa using h)

theorem any_eq_false_of_countP {p : Record → Bool} {q : List Record} (h : q.countP p = 0) :
    q.any p = false := List.any_eq_false.2 fun x hx hp => List.countP_eq_zero.1 h x hx hp

/-- The record that goes on the line is the only one of its kind of HOLD. -/
theorem TI.Kept.startHead (e : Env) (t : TI) : TI.Kept e t t.startHead := by
  unfold TI.startHead
  split
  next r q hq =>
    split
    · exact .of_eq rfl rfl id
    next hn =>
      have line_none : t.line = none := by simpa using (not_or.1 hn).2
      refine ⟨fun ⟨bound, sorted, status, link⟩ => ?_, fun _ h => ?_, fun _ h => ?_, id⟩
      · rw [hq] at sorted status link
        refine ⟨?_, (List.pairwise_cons.1 sorted).2, (List.sublist_cons_self r q).countP_le.trans status,
          (List.sublist_cons_self r q).countP_le.trans link⟩
        simpa [TI.count, hq, line_none] using bound
      · have left {p : Record → Bool} (h1 : t.queue.countP p ≤ 1) :
            q.countP p ≤ 1 ∧ ¬ (q.any p = true ∧ (some r).any p = true) := by
          rw [hq, List.countP_cons] at h1
          refine ⟨by omega, fun ⟨hany, hr⟩ => ?_⟩
          have hr : p r = true := hr
          rw [if_pos hr] at h1
          rw [any_eq_false_of_countP (p := p) (q := q) (by omega)] at hany
          exact Bool.noConfusion hany
        exact ⟨(left h.zero).1, (left h.quanta).1, (left h.zero).2, (left h.quanta).2⟩
      · exact absurd (hq.symm.trans h) (List.cons_ne_nil r q)
  · exact .of_eq rfl rfl id

/-- The record on the line leaves it. -/
theorem TI.Kept.clearLine (e : Env) (t : TI) : TI.Kept e t { t with line := none } where
  ordered := by
    rintro ⟨bound, sorted, status, link⟩
    refine ⟨?_, sorted, status, link⟩
    simp only [TI.count] at bound ⊢
    exact (Nat.le_add_right _ _).trans bound
  apart _ h := ⟨h.zero, h.quanta, by simp, by simp⟩
  silent _ hq _ := ⟨hq, rfl⟩
  window := id

theorem TI.Kept.returnLine (e : Env) (t : TI) : TI.Kept e t t.returnLine := by
  rcases t.returnLine_cases with ⟨-, ht⟩ | ⟨r, -, -, ht⟩ | ⟨r, hl, hr, ht⟩ <;> rw [ht]
  · exact .of_eq rfl rfl id
  · exact .clearLine e t
  · have hp := requeue_perm r t.queue
    refine ⟨fun h => ?_, fun _ h => ?_, fun _ _ h => ?_, id⟩
    · refine h.join hp (requeue_ordered r _ h.2.1) ?_ hr
      have bound := h.1
      simpa [TI.count, hl, hp.length_eq] using bound
    · have back {p : Record → Bool} (h1 : t.queue.countP p ≤ 1)
          (h2 : ¬ (t.queue.any p = true ∧ t.line.any p = true)) :
          (requeue r t.queue).countP p ≤ 1 := by
        rw [countP_of_perm_cons hp]
        split
        next hr =>
          have : t.queue.any p = false := by simpa [hl, hr] using h2
          rw [countP_eq_zero_of_any this]
        next => exact h1
      exact ⟨back h.zero h.zeroLine, back h.quanta h.quantaLine, by simp, by simp⟩
    · exact absurd (hl.symm.trans h) nofun

theorem TI.Kept.trans {e : Env} {t u w : TI} (h : TI.Kept e t u) (h' : TI.Kept e u w) :
    TI.Kept e t w where
  ordered := h'.ordered ∘ h.ordered
  apart hq := h'.apart hq ∘ h.apart hq
  silent hn hq hl := (h.silent hn hq hl).elim (h'.silent hn)
  window := h'.window ∘ h.window

theorem TI.countFailure_queue (t : TI) : t.countFailure.queue = t.queue := by
  unfold TI.countFailure
  dsimp only
  split <;> rfl

theorem TI.countFailure_line (t : TI) : t.countFailure.line = t.line := by
  unfold TI.countFailure
  dsimp only
  split <;> rfl

theorem TI.countFailure_outcomes (t : TI) : t.countFailure.outcomes = t.outcomes := by
  unfold TI.countFailure
  dsimp only
  split <;> rfl

theorem TI.sentHold_queue (now : Time) (r : Record) (t : TI) : (t.sentHold now r).queue = t.queue := by
  unfold TI.sentHold
  split <;> rfl

theorem TI.sentHold_line (now : Time) (r : Record) (t : TI) : (t.sentHold now r).line = t.line := by
  unfold TI.sentHold
  split <;> rfl

theorem TI.sentHold_outcomes (now : Time) (r : Record) (t : TI) :
    (t.sentHold now r).outcomes = t.outcomes := by
  unfold TI.sentHold
  split <;> rfl

/-! ### The transmit commands (R127, R129, R130) -/

theorem course_transmitStart (s : State) {t : State} (h : execTransmitStart s = .next t) :
    Course .transmitStart s t := by
  cases h
  refine Course.run fun h => ?_
  split
  · exact h.modTI (.startHead _ _)
  · exact h

theorem course_arbitrationLost (s : State) {t : State} (h : execArbitrationLost s = .next t) :
    Course .arbitrationLost s t := by
  cases h
  exact Course.run fun h => h.modTI (.returnLine _ _)

theorem course_transmitFailure (s : State) {t : State} (h : execTransmitFailure s = .next t) :
    Course .transmitFailure s t := by
  cases h
  refine Course.run fun {d} h => ?_
  split
  · refine (h.modTI (f := fun t => t.returnLine.countFailure)
      ((TI.Kept.returnLine s.env d.ti).trans ?_)).bump
    exact .of_eq d.ti.returnLine.countFailure_queue d.ti.returnLine.countFailure_line
      fun hw => d.ti.returnLine.countFailure_outcomes ▸ hw
  · exact h

theorem course_recordSent (s : State) {t : State} (h : execRecordSent s = .next t) :
    Course .recordSent s t := by
  cases h
  refine Course.run fun {d} h => ?_
  split
  · exact h
  next r _ =>
    refine (h.modTI (f := fun t => ({ t with line := none, failures := 0 } : TI).sentHold s.env.now r)
      ((TI.Kept.clearLine s.env d.ti).trans ?_)).bump
    exact .of_eq (TI.sentHold_queue _ _ _) (TI.sentHold_line _ _ _)
      fun hw => (TI.sentHold_outcomes s.env.now r _).symm ▸ hw

/-! ### Timers (R139 to R143, R151, R152) -/

section
variable (s : State) {t : State}

theorem course_statusTimer (h : execStatusTimer s = .next t) : Course .statusTimer s t := by
  cases h
  refine Course.run fun h => ?_
  split
  · exact h.sendStatus
  · exact h

theorem course_linkLost (h : execLinkLost s = .next t) : Course .linkLost s t := by
  cases h
  refine Course.run fun h => ?_
  split
  · exact (h.modTIPlain (f := fun t => { t with lost := true }) rfl rfl rfl).staleAll rfl
  · exact h

theorem course_holdHalfElapsed (h : execHoldHalfElapsed s = .next t) : Course .holdHalfElapsed s t := by
  cases h
  refine Course.run fun h => ?_
  split
  · exact h.holdUpkeep
  · exact h

theorem course_holdDurationEnd (h : execHoldDurationEnd s = .next t) : Course .holdDurationEnd s t := by
  cases h
  refine Course.run fun h => ?_
  split
  · exact h.modTIPlain rfl rfl rfl
  · exact h

theorem course_peerHoldExpiry (k : Bay) (h : execPeerHoldExpiry k s = .next t) :
    Course (.peerHoldExpiry k) s t := by
  cases h
  refine Course.run fun h => ?_
  split
  · exact (h.modPeer rfl).reevaluateBay
  · exact h

theorem course_peerStale (k : Bay) (h : execPeerStale k s = .next t) : Course (.peerStale k) s t := by
  cases h
  refine Course.run fun h => ?_
  dsimp only
  split
  · exact h.setPresence rfl
  · exact h

theorem course_peerAbsent (k : Bay) (h : execPeerAbsent k s = .next t) : Course (.peerAbsent k) s t := by
  cases h
  refine Course.run fun h => ?_
  dsimp only
  split
  · exact (h.setPresence rfl).turnFromAbsent trivial
  · exact h

/-! ### Calls, asks and consignment waits (R95, R97, R104, R106, R109, R121) -/

theorem course_callWindowEnd (id : Id8) (h : execCallWindowEnd id s = .next t) :
    Course (.callWindowEnd id) s t := by
  cases h
  refine Course.run fun h => ?_
  split
  · exact h
  · split
    · split
      · split
        · exact h.noBid
        · exact h.awardCall
      · exact h.noBid
    · exact h

theorem course_awardDeadline (id : Id8) (h : execAwardDeadline id s = .next t) :
    Course (.awardDeadline id) s t := by
  cases h
  refine Course.run fun h => ?_
  split
  · exact h
  · split
    · exact h.awardFailed.bump
    · exact h

theorem course_askDeadline (h : execAskDeadline s = .next t) : Course .askDeadline s t := by
  cases h
  refine Course.run fun h => ?_
  split
  · exact h.closeAsk
  · exact h

theorem course_starveExpiry (h : execStarveExpiry s = .next t) : Course .starveExpiry s t := by
  cases h
  refine Course.run fun h => ?_
  split
  next hs =>
    split
    · exact h.askAttempt (by simpa using hs.1)
    · exact h.modDU (f := fun d => { d with starve := some s.env.now }) (Nat.le_refl _) rfl
  · exact h

theorem course_acceptDeadline (tag : Tag) (h : execAcceptDeadline tag s = .next t) :
    Course (.acceptDeadline tag) s t := by
  cases h
  refine Course.run fun h => ?_
  split
  · split
    · exact h.startWait
    · exact h.startWait
  · exact h

theorem course_retryDeadline (tag : Tag) (h : execRetryDeadline tag s = .next t) :
    Course (.retryDeadline tag) s t := by
  cases h
  refine Course.run fun h => ?_
  split
  · split
    · exact h.startWait
    · exact h.consignSend trivial
  · exact h

/-! ### The Inbound List, parking, recovery and age (R72, R86, R111, R112, R162) -/

theorem course_inboundLate (v : Nat) (l : List ParityError) (h : execInboundLate v l s = .next t) :
    Course (.inboundLate v l) s t := by
  cases h
  refine Course.runFailing rfl fun h => ?_
  split
  · exact h
  · split
    · exact (h.mapInbound trivial).bump
    · exact h

theorem course_inboundMissing (v : Nat) (h : execInboundMissing v s = .next t) :
    Course (.inboundMissing v) s t := by
  cases h
  refine Course.run fun h => ?_
  split
  · exact h
  · split
    · exact (h.removeInbound trivial trivial).bump
    · exact h

theorem course_idleParkDue (v : Nat) (h : execIdleParkDue v s = .next t) :
    Course (.idleParkDue v) s t := by
  cases h
  refine Course.run fun h => ?_
  split
  · exact h.parkOne
  · exact h

theorem course_recoveryDeadline (h : execRecoveryDeadline s = .next t) :
    Course .recoveryDeadline s t := by
  cases h
  refine Course.run fun h => ?_
  split
  · exact h.watchDone (.inl rfl)
  · exact h

theorem course_ageReview (l : List ParityError) (h : execAgeReview l s = .next t) :
    Course (.ageReview l) s t := by
  cases h
  exact Course.runFailing rfl fun h => h.setMM (List.length_map _)

/-! ### The zone line (R5 to R9, R20) -/

theorem course_rollCallAnswer (r : Report) (h : execRollCallAnswer r s = .next t) :
    Course (.rollCallAnswer r) s t := by
  cases h
  refine Course.run fun h => ?_
  split
  · split
    · exact h.report trivial (.inl rfl) trivial (fun _ => trivial) (fun _ => trivial)
    · exact h.answer trivial trivial
  · exact h

theorem course_censusSlotEnd (h : execCensusSlotEnd s = .next t) : Course .censusSlotEnd s t := by
  cases h
  refine Course.runPlain (fun h => ?_) ?_ ?_
  · split
    · exact h.setCensus trivial
    · exact h
  · split <;> rfl
  · split <;> rfl

theorem course_pollRound (l : List ParityError) (h : execPollRound l s = .next t) :
    Course (.pollRound l) s t := by
  cases h
  refine Course.runFailing rfl fun h => ?_
  split
  · exact h.foldl fun _ h => h.poll trivial
  · exact h

theorem course_report (r : Report) (l : List ParityError) (h : execReport r l s = .next t) :
    Course (.report r l) s t := by
  cases h
  refine Course.runFailing rfl fun h => ?_
  split
  · exact h.report trivial (.inl rfl) trivial (fun _ => trivial) (fun _ => trivial)
  · exact h

theorem course_missedPoll (v : Nat) (h : execMissedPoll v s = .next t) :
    Course (.missedPoll v) s t := by
  cases h
  refine Course.run fun h => ?_
  split
  · exact h.missPoll trivial (.inl rfl)
  · exact h

theorem course_entryWatchReport (r : Report) (h : execEntryWatchReport r s = .next t) :
    Course (.entryWatchReport r) s t := by
  cases h
  refine Course.run fun h => ?_
  split
  · exact h
  · split
    · exact h.report trivial (.inl rfl) trivial (fun _ => trivial) (fun _ => trivial)
    · split
      · exact h.divert trivial trivial
      · exact h.answer trivial trivial
      · exact h

/-! ### The station link (R26 to R29, R43, R58) -/

theorem course_moveReq (source dest : Nat) (cls : MoveClass) (carrier : Option CarrierId)
    (deadline : Option Nat) (h : execMoveReq source dest cls carrier deadline s = .next t) :
    Course (.moveReq source dest cls carrier deadline) s t := by
  cases h
  refine Course.run fun h => ?_
  split
  · exact h
  · split
    · exact h.refuseMove
    · exact h.emitStation.acceptMove trivial

theorem course_cancelReq (tag : Tag) (h : execCancelReq tag s = .next t) :
    Course (.cancelReq tag) s t := by
  cases h
  refine Course.run fun h => ?_
  split
  · exact h
  · split
    · exact h.refuseMove
    · split
      · exact h.freeMove trivial trivial
      · exact h.refuseMove

theorem course_portState (n : Nat) (st : PortReport) (carrier : Option CarrierId)
    (h : execPortState n st carrier s = .next t) : Course (.portState n st carrier) s t := by
  cases h
  refine Course.run fun {d} h => ?_
  split
  · exact h
  · split
    · exact h
    · extract_lets read marked
      have hm : Evolves (scopeOf (.portState n st carrier) s) s.env s.b marked := by
        unfold marked
        split
        · exact h.markPortOff
        · exact h
      clear_value marked read
      split
      · exact hm
      · split
        · exact hm.emptyPort trivial trivial
        · exact hm.closePort trivial

theorem course_shelfState (n : Nat) (disabled : Bool) (h : execShelfState n disabled s = .next t) :
    Course (.shelfState n disabled) s t := by
  cases h
  refine Course.run fun h => ?_
  split
  · exact h
  · split
    · exact h
    · split
      · exact h
      · split
        · exact h.reportDisabled trivial trivial
        · exact h.reportFree trivial

/-! ### The service port (R61, R163, R165, R171 to R174) -/

theorem course_read (table index : Nat) (h : execRead table index s = .next t) :
    Course (.read table index) s t := by
  unfold execRead at h
  cases h
  split
  · refine Course.run fun h => ?_
    split
    · exact h.reply
    · exact h.reply
  · refine Course.runPlain (fun h => ?_) ?_ ?_
    · split
      · exact h.reply
      · exact h.reply
    · split <;> rfl
    · split <;> rfl

theorem course_readStatus (h : execReadStatus s = .next t) : Course .readStatus s t := by
  cases h
  exact Course.runPlain (fun h => h.snap.reply) rfl rfl

theorem course_readCounters (h : execReadCounters s = .next t) : Course .readCounters s t := by
  cases h
  exact Course.runPlain (fun h => h.reply) rfl rfl

theorem Blocks.clearSnapshot_frame (b : Blocks) :
    b.clearSnapshot.agenda = b.agenda ∧ b.clearSnapshot.ti = b.ti := by
  have written (l : List Flag) (c : Blocks) :
      (l.foldl (fun b f => b.writeFlag f false) c).agenda = c.agenda ∧
        (l.foldl (fun b f => b.writeFlag f false) c).ti = c.ti := by
    induction l generalizing c with
    | nil => exact ⟨rfl, rfl⟩
    | cons f l ih => 
      obtain ⟨agenda, ti⟩ := ih (c.writeFlag f false)
      exact ⟨agenda.trans (by cases f <;> rfl), ti.trans (by cases f <;> rfl)⟩
  exact written b.sp.snapshot b

theorem Blocks.serve_frame {b : Blocks} {act : Blocks → Blocks} (x : Result)
    (h : (act b).agenda = b.agenda ∧ (act b).ti = b.ti) :
    (b.serve x act).agenda = b.agenda ∧ (b.serve x act).ti = b.ti := by
  unfold Blocks.serve
  split
  · exact h
  · exact ⟨rfl, rfl⟩

theorem course_clearSticky (token : Nat) (h : execClearSticky token s = .next t) :
    Course (.clearSticky token) s t := by
  cases h
  exact Course.runPlain (fun h => h.serve fun _ => h.clearSnapshot rfl)
    (Blocks.serve_frame _ (Blocks.clearSnapshot_frame _)).1
    (Blocks.serve_frame _ (Blocks.clearSnapshot_frame _)).2

theorem course_resolve (tag : Tag) (how : Answer) (h : execResolve tag how s = .next t) :
    Course (.resolve tag how) s t := by
  cases h
  refine Course.serveActive fun h _ => ?_
  split
  · exact h
  · split
    · exact h.resolveStranded trivial trivial
    · exact h.resolveSuspended trivial trivial

theorem course_vehicleOut (v : Nat) (h : execVehicleOut v s = .next t) : Course (.vehicleOut v) s t := by
  cases h
  exact Course.serveActive fun h _ => h.vehicleGone trivial (.inl rfl)

theorem course_restoreSegment (n : Nat) (h : execRestoreSegment n s = .next t) :
    Course (.restoreSegment n) s t := by
  cases h
  exact Course.serveActive fun h _ => (h.modSeg trivial).wantPark

theorem course_restoreShelf (n : Nat) (h : execRestoreShelf n s = .next t) :
    Course (.restoreShelf n) s t := by
  cases h
  refine Course.serveActive fun h _ => ?_
  split
  · exact h
  · exact h.freeShelf trivial

/-- RESUME is taken in RESTRICTED alone. -/
theorem Blocks.restricted_of_checkResume {b : Blocks} (h : b.checkResume = .ok) :
    b.fu.recovery = .restricted := by
  unfold Blocks.checkResume at h
  by_contra hn
  rw [if_pos hn] at h
  cases h

theorem course_resume (h : execResume s = .next t) : Course .resume s t := by
  cases h
  refine Course.serveActive fun h hc => ?_
  exact (h.modFU (f := FU.resume) (.inl rfl) fun hf =>
    hf.resume (Blocks.restricted_of_checkResume hc)).wantCall

/-! ### Records heard (R94 to R98, R102 to R105, R108, R109, R121, R125, R150) -/

theorem course_hold (k : Bay) (d : Nat) (h : execHold k d s = .next t) : Course (.hold k d) s t := by
  cases h
  exact Course.heardFrom rfl fun h => h.takeHold rfl

theorem course_link (k : Bay) (x : LinkState) (bad : Nat) (h : execLink k x bad s = .next t) :
    Course (.link k x bad) s t := by
  cases h
  exact Course.heardFrom rfl fun h => h.modPeer rfl

theorem course_cancel (k : Bay) (id : Id8) (h : execCancel k id s = .next t) :
    Course (.cancel k id) s t := by
  cases h
  exact Course.heardFrom rfl fun h => h.releaseBids

theorem course_retract (k : Bay) (id : Id8) (v : Nat) (r : RetractReason)
    (h : execRetract k id v r s = .next t) : Course (.retract k id v r) s t := by
  cases h
  refine Course.heardFrom rfl fun h => ?_
  split
  · exact h
  · exact h.awardFailed.bump

theorem course_consign (k : Bay) (id : Id8) (v : Nat) (tag : Tag) (dest : Nat) (cls : MoveClass)
    (carrier : Option CarrierId) (eta : Nat)
    (h : execConsign k id v tag dest cls carrier eta s = .next t) :
    Course (.consign k id v tag dest cls carrier eta) s t := by
  cases h
  refine Course.heardFrom rfl fun h => ?_
  split
  · exact h
  next hj => exact (h.judgeConsign trivial trivial hj).toBay

/-! ### Every command -/

/-- Every command but power-on and RESTART takes its course. -/
theorem exec_course (c : Instr) (h : exec c s = .next t) (hp : c ≠ .powerOn) (hr : c ≠ .restart) :
    Course c s t := by
  cases c with
  | powerOn => exact absurd rfl hp
  | restart => exact absurd rfl hr
  | configImageRead image => exact course_configImageRead image s h
  | rollCallAnswer r => exact course_rollCallAnswer s r h
  | censusSlotEnd => exact course_censusSlotEnd s h
  | listenEnd => exact course_listenEnd s h
  | pollRound l => exact course_pollRound s l h
  | report r l => exact course_report s r l h
  | missedPoll v => exact course_missedPoll s v h
  | entryWatchReport r => exact course_entryWatchReport s r h
  | moveReq source dest cls carrier deadline =>
    exact course_moveReq s source dest cls carrier deadline h
  | cancelReq tag => exact course_cancelReq s tag h
  | portState n st carrier => exact course_portState s n st carrier h
  | shelfState n disabled => exact course_shelfState s n disabled h
  | transmitStart => exact course_transmitStart s h
  | arbitrationLost => exact course_arbitrationLost s h
  | transmitFailure => exact course_transmitFailure s h
  | recordSent => exact course_recordSent s h
  | duplicateBay =>
    cases h
    exact Course.heardOwn
  | otherBayRecord k =>
    cases h
    exact Course.heardAs rfl .stay id fun h => h
  | status k st => exact course_status k st s h
  | hold k d => exact course_hold s k d h
  | link k x bad => exact course_link s k x bad h
  | call k id tag cls source urgency =>
    cases h
    exact Course.heardFrom rfl fun h => h.takeCall
  | bid k id v eta =>
    cases h
    exact Course.heardFrom rfl fun h => h.takeBid
  | award k id w v =>
    cases h
    exact Course.heardFrom rfl fun h => h.takeAward
  | cancel k id => exact course_cancel s k id h
  | sent k id v eta =>
    cases h
    exact Course.heardFrom rfl fun h => h.takeSent trivial
  | retract k id v r => exact course_retract s k id v r h
  | ask k id n =>
    cases h
    exact Course.heardFrom rfl fun h => h.takeAsk
  | loan k id eta vs =>
    cases h
    exact Course.heardFrom rfl fun h => h.takeLoan trivial
  | consign k id v tag dest cls carrier eta => exact course_consign s k id v tag dest cls carrier eta h
  | accept k id v r =>
    cases h
    exact Course.heardFrom rfl fun h => h.takeAccept trivial
  | done k tag v o =>
    cases h
    exact Course.heardFrom rfl fun h => h.takeDone trivial trivial
  | statusTimer => exact course_statusTimer s h
  | linkLost => exact course_linkLost s h
  | holdHalfElapsed => exact course_holdHalfElapsed s h
  | holdDurationEnd => exact course_holdDurationEnd s h
  | peerHoldExpiry k => exact course_peerHoldExpiry s k h
  | peerStale k => exact course_peerStale s k h
  | peerAbsent k => exact course_peerAbsent s k h
  | callWindowEnd id => exact course_callWindowEnd s id h
  | awardDeadline id => exact course_awardDeadline s id h
  | recallTimePassed =>
    cases h
    exact Course.run fun h => h.wantCall
  | bidHoldEnd k id =>
    cases h
    exact Course.run fun h => h.releaseBids
  | askDeadline => exact course_askDeadline s h
  | starveExpiry => exact course_starveExpiry s h
  | acceptDeadline tag => exact course_acceptDeadline s tag h
  | retryDeadline tag => exact course_retryDeadline s tag h
  | inboundLate v l => exact course_inboundLate s v l h
  | inboundMissing v => exact course_inboundMissing s v h
  | idleParkDue v => exact course_idleParkDue s v h
  | recoveryDeadline => exact course_recoveryDeadline s h
  | ageReview l => exact course_ageReview s l h
  | read table index => exact course_read s table index h
  | readStatus => exact course_readStatus s h
  | readCounters => exact course_readCounters s h
  | clearSticky token => exact course_clearSticky s token h
  | resolve tag how => exact course_resolve s tag how h
  | vehicleOut v => exact course_vehicleOut s v h
  | restoreSegment n => exact course_restoreSegment s n h
  | restoreShelf n => exact course_restoreShelf s n h
  | resume => exact course_resume s h
  | trunkFragment | maxRecordTimeExpiry | badRecord | malformedRecord =>
    cases h
    exact Course.run fun h => h.discard
  | stationFrameBad | serviceFrameBad =>
    cases h
    exact Course.runNothing

end

end Sys2Proof.Machine
end

section
/-! PROOFS. The invariants of every command, read off its course: O3, O55, O56, O57, O59. -/
namespace Sys2Proof.Machine

/-! ### One HOLD at the end of a command (R141) -/

theorem countP_isHold (q : List Record) :
    q.countP Record.isHold = q.countP isHoldZero + q.countP isHoldQuanta := by
  induction q with
  | nil => rfl
  | cons r q ih =>
    have one_kind : isHoldZero r = true → isHoldQuanta r = false := fun hz => by
      simp [isHoldQuanta, isHoldZero_iff.1 hz]
    have hold_eq : r.isHold = (isHoldZero r || isHoldQuanta r) := rfl
    rw [List.countP_cons, List.countP_cons, List.countP_cons, ih, hold_eq]
    cases hz : isHoldZero r with
    | true =>
      rw [one_kind hz]
      simp only [Bool.or_false, Bool.false_eq_true, if_true, if_false]
      omega
    | false =>
      simp only [Bool.false_or, Bool.false_eq_true, if_false]
      omega

/-- Placing a HOLD adds no record of another kind. -/
theorem Blocks.countP_toAll_hold (e : Env) (b : Blocks) (d : Nat) {p : Record → Bool}
    (hp : p { dest := none, body := .hold d } = false) :
    (b.toAll e (.hold d)).ti.queue.countP p = b.ti.queue.countP p := by
  unfold Blocks.toAll
  rcases b.place_cases e { dest := none, body := .hold d } with
    ⟨-, ht⟩ | ⟨-, hr, ht⟩ | ⟨-, -, -, ht⟩ | ⟨-, -, -, ht⟩ <;> rw [ht]
  · obtain ⟨x, -, hx⟩ := List.any_eq_true.1 hr
    simp [replaces, isStatus, isLink, kindCode] at hx
  · rfl
  · exact (countP_of_perm_cons (insertBy_perm _ _ _) p).trans (by simp [hp])

theorem countP_filter_not (p : Record → Bool) (q : List Record) :
    (q.filter fun r => !p r).countP p = 0 := by
  simp [List.countP_eq_zero]

/-- The upkeep leaves HOLDs of one kind at most. -/
theorem Blocks.holdUpkeep_one_kind {e : Env} (b : Blocks) (half : Bool) (ha : e.node.active = true)
    (hq : 1 ≤ e.cfg.quanta) :
    (b.holdUpkeep e half).ti.queue.countP isHoldZero = 0 ∨
      (b.holdUpkeep e half).ti.queue.countP isHoldQuanta = 0 := by
  unfold Blocks.holdUpkeep
  rw [if_neg (by simp [ha])]
  split
  · left
    dsimp only
    split
    · unfold Blocks.placeHold
      split
      · exact countP_filter_not _ _
      · rw [Blocks.countP_toAll_hold]
        · exact countP_filter_not _ _
        · simp [isHoldZero]
          omega
    · exact countP_filter_not _ _
  · right
    dsimp only
    split
    · rw [Blocks.countP_toAll_hold]
      · exact countP_filter_not _ _
      · simp [isHoldQuanta, kindCode]
    · exact countP_filter_not _ _

theorem Blocks.trunkUpkeep_queue (e : Env) (b : Blocks) :
    (b.trunkUpkeep e).ti.queue = (b.holdUpkeep e false).ti.queue := by
  unfold Blocks.trunkUpkeep Blocks.periodUpkeep
  split <;> rfl

theorem State.HoldsOnce.apart {s : State} (h : s.HoldsOnce) : s.b.ti.HoldsApart := by
  obtain ⟨one, zeroLine, quantaLine, -, -⟩ := h
  rw [countP_isHold] at one
  exact ⟨by omega, by omega, zeroLine, quantaLine⟩

/-- An active node says a HOLD duration of its own, however it came to its state. -/
theorem Course.quanta {c : Instr} {s t : State} (h : Course c s t)
    (hs : s.cl.node.active = true → 1 ≤ s.cl.cfg.quanta) (ha : t.cl.node.active = true) :
    1 ≤ t.cl.cfg.quanta := by
  obtain ⟨-, -, turn, -, -, -, -⟩ := h
  generalize t.cl = cl at turn ha
  cases turn with
  | stay => exact hs ha
  | listen image cfg _ _ hi => exact quanta_of_readImage hi
  | refuse image x _ _ => simp [NodeState.active] at ha
  | endListen node _ hn _ => exact hs (by rw [hn]; rfl)
  | clash k st _ hn _ => exact hs (by rw [hn]; rfl)
  | duplicate hn => exact hs hn

/-- A node that does not send and was silent stays so. -/
theorem Course.silent {c : Instr} {s t : State} (h : Course c s t)
    (hs : s.cl.node.active = false → s.b.ti.queue = [] ∧ s.b.ti.line = none)
    (ha : t.cl.node.active = false) : t.b.ti.queue = [] ∧ t.b.ti.line = none := by
  cases hn : s.cl.node.active with
  | true => exact h.stopped hn ha
  | false =>
    obtain ⟨queue, line⟩ := hs hn
    exact h.evolves.ti_kept.silent ha queue line

theorem Course.holdsOnce {c : Instr} {s t : State} (h : Course c s t) (hs : s.HoldsOnce) :
    t.HoldsOnce := by
  have quanta := h.quanta hs.2.2.2.1
  have silent := h.silent hs.2.2.2.2
  have apart := h.evolves.ti_kept.apart quanta hs.apart
  refine ⟨?_, apart.zeroLine, apart.quantaLine, quanta, silent⟩
  cases ha : t.cl.node.active with
  | false => rw [(silent ha).1]; exact Nat.zero_le _
  | true =>
    rcases h.trunk with ht | ⟨d, -, ht⟩
    · rw [ht]; exact hs.1
    · have kinds := d.holdUpkeep_one_kind (e := t.env) false ha (quanta ha)
      rw [← Blocks.trunkUpkeep_queue, ← ht] at kinds
      have zero := apart.zero
      have quanta := apart.quanta
      rw [countP_isHold]
      omega

/-! ### Every step -/

/-- What a step does: a tick of node time, a reset, or the course of a command. -/
theorem step_cases {s t : State} (h : step s = .next t) :
    (s.pending = [] ∧ t = s.tick) ∨
    ∃ c rest, s.pending = c :: rest ∧ exec c { s with pending := rest } = .next t ∧
      (c = .powerOn ∨ c = .restart ∨ Course c { s with pending := rest } t) := by
  unfold step at h
  split at h
  next hp =>
    cases h
    exact .inl ⟨hp, rfl⟩
  next c rest hp =>
    refine .inr ⟨c, rest, hp, h, ?_⟩
    by_cases h1 : c = .powerOn
    · exact .inl h1
    · by_cases h2 : c = .restart
      · exact .inr (.inl h2)
      · exact .inr (.inr (exec_course _ c h h1 h2))

/-- A step keeps what a tick, the two resets and every course keep. -/
theorem step_keeps {P : State → State → Prop} {s t : State} (h : step s = .next t)
    (tick : P s s.tick)
    (powerOn : ∀ rest, P s { State.reset with pending := rest })
    (restart : ∀ rest u, execRestart { s with pending := rest } = .next u → P s u)
    (course : ∀ c rest, Course c { s with pending := rest } t → P s t) : P s t := by
  rcases step_cases h with ⟨-, rfl⟩ | ⟨c, rest, -, hx, rfl | rfl | hc⟩
  · exact tick
  · cases hx
    exact powerOn rest
  · exact restart rest t hx
  · exact course c rest hc

theorem TI.ordered_reset : TI.reset.Ordered := by decide

/-- A node in CONFIG with an empty queue and line holds nothing back. -/
theorem State.holdsOnce_of_reset {s : State} (hn : s.cl.node = .config) (ht : s.b.ti = TI.reset) :
    s.HoldsOnce := by
  unfold State.HoldsOnce
  rw [hn, ht]
  exact ⟨by decide, by decide, by decide, nofun, fun _ => ⟨rfl, rfl⟩⟩

/-- Settles O55: the Transmit Queue keeps its order under every elementary change, and the upkeep that ends
a command leaves one HOLD. -/
theorem transmitQueueStaysOrdered : Obligations.TransmitQueueStaysOrdered := by
  intro s t h
  refine step_keeps (P := fun s t =>
    (s.b.ti.Ordered → t.b.ti.Ordered) ∧ (s.HoldsOnce → t.HoldsOnce)) h ⟨id, id⟩ (fun rest => ?_)
    (fun rest u hu => ?_) fun c rest hc => ⟨hc.evolves.ti_kept.ordered, hc.holdsOnce⟩
  · exact ⟨fun _ => TI.ordered_reset, fun _ => State.holdsOnce_of_reset rfl rfl⟩
  · cases hu
    exact ⟨fun _ => TI.ordered_reset, fun _ => State.holdsOnce_of_reset rfl rfl⟩

theorem FU.Consistent.restart {f : FU} (h : f.Consistent) : f.restart.Consistent := by
  obtain ⟨restricted, -, first⟩ := h
  have multi : f.restart.anyMulti = f.anyMulti := rfl
  refine ⟨?_, ?_, fun hn => ?_⟩
  · rw [multi]
    unfold FU.restart
    cases f.anyMulti <;> simp
  · unfold FU.restart
    cases f.anyMulti <;> simp
  · have hm : f.anyMulti = true := by
      by_contra hm
      exact hn (if_neg hm)
    exact first (by rw [restricted.2 hm]; exact nofun)

theorem FU.consistent_reset : FU.reset.Consistent := by decide

/-- Settles O56: every elementary change of the Fault Unit keeps its parts in agreement. -/
theorem faultUnitStaysConsistent : Obligations.FaultUnitStaysConsistent := by
  intro s t hs h
  refine step_keeps (P := fun s t => s.b.fu.Consistent → t.b.fu.Consistent) h id
    (fun rest _ => FU.consistent_reset) (fun rest u hu hs => ?_)
    (fun c rest hc => hc.evolves.fu_consistent) hs
  · cases hu
    exact FU.Consistent.restart hs

theorem Course.sized {c : Instr} {s t : State} (h : Course c s t) (hs : s.Sized) : t.Sized := by
  obtain ⟨roster, moves, stations, peers, outcomes, discarded, counters, width, counts, agenda⟩ := hs
  have ev := h.evolves
  refine ⟨ev.roster_length.trans roster, ev.moves_length.trans moves, ev.stations_length stations,
    ev.peers_length.trans peers, ev.ti_kept.window outcomes, ev.discarded_kept.1.trans discarded,
    ev.sp_kept.length.trans counters, ev.sp_kept.width width, ev.discarded_kept.2 counts, ?_⟩
  rcases h.agenda with ha | ha
  · exact ha
  · exact ha.trans agenda

/-- The reset state has its sizes, whatever counters it keeps. -/
theorem sized_reset {counters discarded : List Nat} {fu : FU}
    (hc : counters.length = SP.counterCount) (hw : ∀ n ∈ counters, n ≤ 4294967295)
    (hd : discarded.length = Config.segmentSize) (hn : ∀ n ∈ discarded, n ≤ 4294967295) {s : State}
    (hs : s.b = { Blocks.reset counters discarded fu with out := s.b.out, free := s.b.free }) :
    s.Sized := by
  unfold State.Sized
  rw [hs]
  exact ⟨List.length_replicate, List.length_replicate, List.length_replicate, List.length_replicate,
    List.length_replicate, hd, hc, hw, hn, rfl⟩

/-- Settles O59: no elementary change alters a table's length. -/
theorem tablesKeepTheirSizes : Obligations.TablesKeepTheirSizes := by
  intro s t h
  refine step_keeps (P := fun s t => (s.Sized → t.Sized) ∧ (s.b.PlacesFit → t.b.PlacesFit)) h
    ⟨id, id⟩ (fun rest => ⟨fun _ => ?_, fun _ => Nat.zero_le _⟩)
    (fun rest u hu => ?_) fun c rest hc => ⟨hc.sized, hc.evolves.fits⟩
  · exact sized_reset (counters := List.replicate SP.counterCount 0)
      (discarded := List.replicate Config.segmentSize 0) (fu := FU.reset) List.length_replicate
      (by simp) List.length_replicate (by simp) rfl
  · cases hu
    refine ⟨fun hs => ?_, fun _ => Nat.zero_le _⟩
    obtain ⟨-, -, -, -, -, discarded, counters, width, counts, -⟩ := hs
    exact sized_reset counters width discarded counts rfl

/-! ### What a command leaves alone (O3) -/

theorem exec_answers (c : Instr) (s : State) : ∃ t, exec c s = .next t := by
  cases c with
  | configImageRead image =>
    show ∃ t, execConfigImageRead image s = .next t
    unfold execConfigImageRead
    split
    · exact ⟨_, rfl⟩
    · split <;> exact ⟨_, rfl⟩
  | listenEnd =>
    show ∃ t, execListenEnd s = .next t
    unfold execListenEnd
    split
    · split <;> exact ⟨_, rfl⟩
    · exact ⟨_, rfl⟩
  | _ => exact ⟨_, rfl⟩

/-- Settles O3: a course changes the Fault Unit and the Peer Table within its scope alone. -/
theorem commandsKeepToTheirBlocks : Obligations.CommandsKeepToTheirBlocks := by
  intro c s
  obtain ⟨t, ht⟩ := exec_answers c s
  refine ⟨t, ht, ?_⟩
  by_cases hp : c = .powerOn
  · subst hp
    cases ht
    exact ⟨rfl, fun h => absurd rfl h, nofun, nofun⟩
  · by_cases hr : c = .restart
    · subst hr
      cases ht
      exact ⟨rfl, fun _ => rfl, nofun, nofun⟩
    · have hc := exec_course s c ht hp hr
      refine ⟨hc.pending, fun _ => hc.now, fun hf hsp => hc.evolves.fu_eq ?_, fun hpd =>
        hc.evolves.pd_eq ?_⟩
      · simp [scopeOf, hf, hsp]
      · simp [scopeOf, hpd]

/-- Settles O57: a command other than the resets takes one turn of CL at most. -/
theorem nodeStateFollowsTable : Obligations.NodeStateFollowsTable := by
  intro c s t h hp hr
  have turn := (exec_course s c h hp hr).turn
  generalize t.cl = cl at turn ⊢
  have not_halted (hn : s.cl.node.halted = false) {p : Prop} (hh : s.cl.node.halted = true) : p := by
    rw [hn] at hh
    exact Bool.noConfusion hh
  cases turn with
  | stay =>
    exact ⟨by simp [NodeState.mayBecome], .inl rfl, fun h h' => by simp [h] at h',
      fun h h' => by simp [h] at h', fun _ => rfl⟩
  | listen image cfg hc hn hi =>
    exact ⟨by rw [hn]; rfl, .inr ⟨image, hc, hn⟩, nofun, nofun, not_halted (by rw [hn]; rfl)⟩
  | refuse image x hc hn =>
    exact ⟨by rw [hn]; rfl, .inl rfl, nofun, nofun, not_halted (by rw [hn]; rfl)⟩
  | endListen node hc hn hnode =>
    refine ⟨?_, .inl rfl, fun _ _ => hc, fun h => by simp [hn] at h, not_halted (by rw [hn]; rfl)⟩
    rw [hn]
    rcases hnode with rfl | rfl <;> rfl
  | clash k st hc hn ho =>
    refine ⟨by rw [hn]; rfl, .inl rfl, nofun, fun _ _ => ⟨k, st, hc, ?_⟩,
      not_halted (by rw [hn]; rfl)⟩
    simp only [State.overlapped, overlap, Bool.and_eq_true, decide_eq_true_eq] at ho
    obtain ⟨⟨⟨-, lower⟩, -⟩, base, limit⟩ := ho
    exact ⟨lower, base, limit⟩
  | duplicate hn =>
    refine ⟨?_, .inl rfl, nofun, nofun, fun hh => ?_⟩
    · show s.cl.node.mayBecome .haltedDuplicate = true
      revert hn
      cases s.cl.node <;> simp [NodeState.active, NodeState.mayBecome]
    · revert hn hh
      cases s.cl.node <;> simp [NodeState.active, NodeState.halted]

end Sys2Proof.Machine
end

section
/-! PROOFS. Resets, the queue of commands, reads, and the service port's snapshot (O1, O2, O4, O5, O22,
O51, O60). -/
namespace Sys2Proof.Machine

/-! ### Steps and resets (R1, R155, R170) -/

/-- Settles O1. -/
theorem stepRunsFrontCommand : Obligations.StepRunsFrontCommand := by
  intro s c rest h
  unfold step
  rw [h]

/-- Settles O2. -/
theorem emptyQueueLetsTimePass : Obligations.EmptyQueueLetsTimePass := by
  intro s h
  obtain ⟨now, cl, b, pending⟩ := s
  cases h
  rfl

theorem Blocks.peer_reset (counters discarded : List Nat) (fu : FU) (k : Nat) :
    (Blocks.reset counters discarded fu).peer k = Peer.unknown := by
  show ((List.replicate 32 Peer.unknown)[k]?).getD Peer.unknown = Peer.unknown
  rw [List.getElem?_replicate]
  split <;> rfl

theorem Blocks.flag_reset (counters discarded : List Nat) (fu : FU) (f : Flag) :
    (Blocks.reset counters discarded fu).flag f = false := by
  cases f with
  | changed k => exact congrArg Peer.changed (Blocks.peer_reset counters discarded fu k.val)
  | _ => rfl

/-- What a reset leaves is cleared, whatever it keeps. -/
theorem Blocks.cleared_reset (counters discarded : List Nat) {fu : FU} (out : Out) (free : Nat)
    (hw : fu.watch = none) :
    ({ Blocks.reset counters discarded fu with out := out, free := free } : Blocks).Cleared :=
  ⟨fun _ => List.eq_of_mem_replicate, rfl, rfl, fun _ => List.eq_of_mem_replicate, rfl, rfl, rfl, rfl,
    rfl, rfl, rfl, rfl, Blocks.peer_reset counters discarded fu, rfl, rfl, rfl, rfl,
    fun _ => List.eq_of_mem_replicate, rfl, rfl, rfl, hw, Blocks.flag_reset counters discarded fu, rfl,
    rfl, rfl, rfl, fun _ => List.eq_of_mem_replicate, rfl, rfl, rfl⟩

/-- Settles O4. -/
theorem powerOnResets : Obligations.PowerOnResets := by
  intro s
  exact ⟨_, rfl, rfl, Blocks.cleared_reset _ _ Out.none 0 rfl, rfl, rfl, rfl,
    fun _ => List.eq_of_mem_replicate, fun _ => List.eq_of_mem_replicate, rfl⟩

/-- Settles O5. -/
theorem restartKeepsCountersAndFaults : Obligations.RestartKeepsCountersAndFaults := by
  intro s
  exact ⟨_, rfl, rfl, rfl, Blocks.cleared_reset _ _ _ _ rfl, rfl, rfl, rfl, rfl, rfl, rfl, rfl⟩

/-- Settles O60. -/
theorem resetMeetsInvariants : Obligations.ResetMeetsInvariants := by
  have bindings : State.reset.BindingsAgree := by decide
  have sized : State.reset.Sized := by decide
  exact ⟨by decide, by decide, by decide, by decide, by decide, by decide, by decide, by decide,
    by decide, by decide, by decide, bindings, sized, by decide⟩

/-! ### Reads and discarded frames (R26, R171) -/

/-- What a READ answers that no failed bit stands in the way of. -/
def readReply (e : Env) (b : Blocks) (table index : Nat) : Reply :=
  if index < tableSize e table then .entry (b.entryOf e table index) else .result .badIndex

theorem readReply_entry {e : Env} {b : Blocks} {table index : Nat} (h : index < tableSize e table) :
    readReply e b table index = .entry (b.entryOf e table index) := if_pos h

theorem readReply_badIndex {e : Env} {b : Blocks} {table index : Nat} (h : tableSize e table ≤ index) :
    readReply e b table index = .result .badIndex := if_neg (Nat.not_lt.2 h)

/-- A READ that no failed bit stands in the way of replies, and does nothing else. -/
theorem exec_read {s : State} (table index : Nat) (h : s.b.spoiled = []) :
    exec (.read table index) s = .next { s with b := { s.b with
      out := { Out.none with service := some (readReply s.env s.b table index) } } } := by
  have unspoiled : ¬ (index < tableSize s.env table ∧
      s.b.spoiled.any (metBy s.env table index) = true) := by simp [h]
  show execRead table index s = _
  unfold execRead readReply
  extract_lets answer
  rw [if_neg unspoiled]
  unfold answer
  unfold State.runPlain
  dsimp only
  split
  · rfl
  · rfl

/-- Settles O22. -/
theorem readsAndBadFramesChangeNothing : Obligations.ReadsAndBadFramesChangeNothing := by
  intro s
  refine ⟨fun hsp table index => ⟨_, exec_read table index hsp, _, rfl, ?_, ?_, ?_, ?_, ?_, ?_, ?_, ?_,
    ?_, ?_, ?_⟩, ⟨_, rfl, rfl⟩, ⟨_, rfl, rfl⟩, ⟨_, rfl, rfl⟩⟩
  · rintro rfl h
    exact readReply_entry h
  · rintro rfl h
    exact readReply_entry h
  · rintro rfl h
    exact readReply_entry h
  · rintro rfl hrun h
    have running : s.env.node.running = true := hrun
    exact readReply_entry (by simp only [tableSize, running, if_true]; exact Nat.lt_succ_of_le h)
  · rintro rfl h
    exact readReply_entry h
  · rintro rfl h hne
    have other : ¬ (index = s.env.cfg.bay.val ∧ s.env.node.running = true) := fun h => hne h.1
    rw [readReply_entry h, Blocks.entryOf, if_neg other]
  · rintro rfl h
    exact readReply_entry h
  · rintro rfl h
    exact readReply_entry h
  · intro size hsize h
    refine readReply_badIndex ?_
    simp only [List.mem_cons, Prod.mk.injEq, List.not_mem_nil, or_false] at hsize
    obtain ⟨rfl, rfl⟩ | ⟨rfl, rfl⟩ | ⟨rfl, rfl⟩ | ⟨rfl, rfl⟩ | ⟨rfl, rfl⟩ | ⟨rfl, rfl⟩ | ⟨rfl, rfl⟩ :=
      hsize
    all_goals exact h
  · rintro rfl hrun h
    have running : s.env.node.running = true := hrun
    exact readReply_badIndex (by simp only [tableSize, running, if_true]; exact h)
  · intro h
    obtain ⟨n, rfl⟩ := Nat.exists_eq_add_of_le' h
    exact readReply_badIndex (Nat.zero_le _)

/-! ### The snapshot (R172) -/

theorem mem_allFlags (f : Flag) : f ∈ allFlags := by
  cases f <;> simp [allFlags]

/-- Clearing a flag clears it alone. -/
theorem Blocks.flag_clearFlag (b : Blocks) (f g : Flag) :
    (b.writeFlag f false).flag g = (b.flag g && decide (g ≠ f)) := by
  cases f with
  | changed k =>
    cases g with
    | changed j =>
      by_cases hjk : j = k
      · subst hjk
        by_cases hj : j.val < b.pd.peers.length
        · simp [writeFlag, flag, b.peer_modPeer _ _ hj]
        · simp [writeFlag, flag, peer, modPeer, hj, Peer.unknown]
      · simp [writeFlag, flag, b.peer_modPeer_of_ne _ (fun e => hjk (Fin.ext e)), hjk]
    | _ => simp [writeFlag, flag, modPeer]
  | _ => cases g <;> simp [writeFlag, flag, modSP, peer]

theorem Blocks.flag_clearFlags (l : List Flag) (b : Blocks) (g : Flag) :
    (l.foldl (fun b f => b.writeFlag f false) b).flag g = (b.flag g && !l.contains g) := by
  induction l generalizing b with
  | nil => simp
  | cons f l ih =>
    rw [List.foldl_cons, ih, b.flag_clearFlag]
    simp [Bool.and_assoc]

/-- Clearing flags leaves the token, the bay and the Fault Unit alone. -/
theorem Blocks.clearSnapshot_keeps (b : Blocks) :
    b.clearSnapshot.sp.token = b.sp.token ∧ SameBay b b.clearSnapshot ∧
      b.clearSnapshot.fu = b.fu := by
  have written (l : List Flag) (c : Blocks) :
      (l.foldl (fun b f => b.writeFlag f false) c).sp.token = c.sp.token ∧
        SameBay c (l.foldl (fun b f => b.writeFlag f false) c) ∧
        (l.foldl (fun b f => b.writeFlag f false) c).fu = c.fu := by
    induction l generalizing c with
    | nil => exact ⟨rfl, ⟨rfl, rfl, rfl⟩, rfl⟩
    | cons f l ih =>
      obtain ⟨token, ⟨zc, si, mm⟩, fu⟩ := ih (c.writeFlag f false)
      rw [List.foldl_cons]
      cases f <;> exact ⟨token, ⟨zc, si, mm⟩, fu⟩
  exact written b.sp.snapshot b

/-- CLEAR-STICKY is served by what its check answers. -/
theorem exec_clearSticky {s : State} {token : Nat} {x : Result}
    (h : (if s.cl.node = .config then Result.wrongState
      else if token = s.b.sp.token.toNat then .ok else .staleToken) = x) :
    exec (.clearSticky token) s = .next { s with b := s.b.quiet.serve x Blocks.clearSnapshot } := by
  subst h
  rfl

/-- Settles O51. -/
theorem snapshotGuardsClear : Obligations.SnapshotGuardsClear := by
  intro s
  refine ⟨⟨_, rfl, rfl, fun f => ?_, fun f => ?_, ⟨_, rfl, rfl, rfl, rfl, rfl, rfl, rfl, rfl, rfl⟩,
    ⟨rfl, rfl, rfl⟩, rfl, rfl, rfl⟩, fun token hn => ⟨fun ht => ?_, fun ht => ?_⟩, fun token hn => ?_⟩
  · show f ∈ allFlags.filter s.b.flag ↔ _
    simp [mem_allFlags]
  · cases f <;> rfl
  · have checked : (if s.cl.node = .config then Result.wrongState
        else if token = s.b.sp.token.toNat then .ok else .staleToken) = .ok := by
      rw [if_neg hn, if_pos ht]
    obtain ⟨token_eq, bay, fu⟩ := s.b.quiet.clearSnapshot_keeps
    refine ⟨_, exec_clearSticky checked, rfl, fun f => ?_, rfl, token_eq, bay, fu⟩
    exact Blocks.flag_clearFlags s.b.sp.snapshot s.b.quiet f
  · have checked : (if s.cl.node = .config then Result.wrongState
        else if token = s.b.sp.token.toNat then .ok else .staleToken) = .staleToken := by
      rw [if_neg hn, if_neg ht]
    exact ⟨_, exec_clearSticky checked, rfl, rfl, rfl⟩
  · have checked : (if s.cl.node = .config then Result.wrongState
        else if token = s.b.sp.token.toNat then .ok else .staleToken) = .wrongState := if_pos hn
    exact ⟨_, exec_clearSticky checked, rfl, rfl, rfl⟩

end Sys2Proof.Machine
end

section
/-! PROOFS. Arbitration and the configuration image (O7, O23). -/
namespace Sys2Proof.Machine

/-! ### Arbitration (R129) -/

/-- Bit `k` of a field, as a digit. -/
theorem getLsbD_eq_decide (f : Byte) (k : Nat) : f.getLsbD k = decide (f.toNat / 2 ^ k % 2 = 1) := by
  rw [← BitVec.testBit_toNat, Nat.testBit_eq_decide_div_mod_eq]

/-- Two fields that agree above bit `k`, at bit `k` and above. -/
theorem div_pow_succ (n k : Nat) : n / 2 ^ k = 2 * (n / 2 ^ (k + 1)) + n / 2 ^ k % 2 := by
  rw [Nat.pow_succ, ← Nat.div_div_eq_div_mul]
  omega

/-- Of fields that agree above bit `k`, the one with the recessive bit is the greater. -/
theorem lt_of_bit {a b k : Nat} (h : a / 2 ^ (k + 1) = b / 2 ^ (k + 1)) (ha : a / 2 ^ k % 2 = 0)
    (hb : b / 2 ^ k % 2 = 1) : a < b := by
  have hdiv : a / 2 ^ k < b / 2 ^ k := by
    rw [div_pow_succ a, div_pow_succ b, h, ha, hb]
    omega
  by_contra hle
  exact absurd (Nat.div_le_div_right (c := 2 ^ k) (Nat.le_of_not_lt hle)) (Nat.not_le.2 hdiv)

/-- The fields left of those that agree above the bits still to be sent. -/
theorem arbitrate_eq_filter (k : Nat) (fs : List Byte)
    (h : ∀ f ∈ fs, ∀ g ∈ fs, f.toNat / 2 ^ k = g.toNat / 2 ^ k) :
    arbitrate k fs = fs.filter fun f => fs.all fun g => decide (f.toNat ≤ g.toNat) := by
  induction k generalizing fs with
  | zero =>
    refine (List.filter_eq_self.2 fun f hf => List.all_eq_true.2 fun g hg => ?_).symm
    have := h f hf g hg
    simp only [Nat.pow_zero, Nat.div_one] at this
    exact decide_eq_true this.le
  | succ k ih =>
    unfold arbitrate
    by_cases hdom : ∃ g ∈ fs, g.toNat / 2 ^ k % 2 = 0
    · obtain ⟨g₀, hg₀, hbit⟩ := hdom
      have level : lineLevel (fs.map fun g => g.getLsbD k) = false := by
        refine List.all_eq_false.2 ⟨false, List.mem_map.2 ⟨g₀, hg₀, ?_⟩, nofun⟩
        rw [getLsbD_eq_decide, hbit]
        rfl
      have kept (f : Byte) : (!(f.getLsbD k && !lineLevel (fs.map fun g => g.getLsbD k))) =
          decide (f.toNat / 2 ^ k % 2 = 0) := by
        rw [level, getLsbD_eq_decide]
        rcases Nat.mod_two_eq_zero_or_one (f.toNat / 2 ^ k) with h0 | h1
        · simp [h0]
        · simp [h1]
      simp only [kept]
      rw [ih]
      · rw [List.filter_filter]
        refine List.filter_congr fun f hf => ?_
        rw [Bool.eq_iff_iff]
        simp only [Bool.and_eq_true, decide_eq_true_eq, List.all_eq_true, List.mem_filter]
        refine ⟨fun ⟨least, bit⟩ g hg => ?_, fun least => ⟨fun g hg => least g hg.1, ?_⟩⟩
        · rcases Nat.mod_two_eq_zero_or_one (g.toNat / 2 ^ k) with h0 | h1
          · exact least g ⟨hg, h0⟩
          · exact (lt_of_bit (h f hf g hg) bit h1).le
        · rcases Nat.mod_two_eq_zero_or_one (f.toNat / 2 ^ k) with h0 | h1
          · exact h0
          · exact absurd (least g₀ hg₀) (Nat.not_le.2 (lt_of_bit (h g₀ hg₀ f hf) hbit h1))
      · intro f hf g hg
        simp only [List.mem_filter, decide_eq_true_eq] at hf hg
        rw [div_pow_succ f.toNat, div_pow_succ g.toNat, hf.2, hg.2, h f hf.1 g hg.1]
    · have recessive (f : Byte) (hf : f ∈ fs) : f.toNat / 2 ^ k % 2 = 1 := by
        have : ¬ f.toNat / 2 ^ k % 2 = 0 := fun h0 => hdom ⟨f, hf, h0⟩
        omega
      have level : lineLevel (fs.map fun g => g.getLsbD k) = true := by
        refine List.all_eq_true.2 fun x hx => ?_
        obtain ⟨f, hf, rfl⟩ := List.mem_map.1 hx
        rw [getLsbD_eq_decide, recessive f hf]
        rfl
      have all_kept : (fs.filter fun f =>
          !(f.getLsbD k && !lineLevel (fs.map fun g => g.getLsbD k))) = fs :=
        List.filter_eq_self.2 fun f _ => by simp [level]
      rw [all_kept]
      refine ih fs fun f hf g hg => ?_
      rw [div_pow_succ f.toNat, div_pow_succ g.toNat, recessive f hf, recessive g hg, h f hf g hg]

theorem toNat_arbitrationField {c b : Nat} (hc : c ≤ 5) (hb : b < 32) :
    (arbitrationField c b).toNat = c * 32 + b := by
  unfold arbitrationField
  rw [BitVec.toNat_ofNat]
  omega

/-- Settles O23, bit by bit: at each bit the fields with a recessive 1 beside a dominant 0 fall out. -/
theorem arbitrationLeavesSmallest : Obligations.ArbitrationLeavesSmallest := by
  refine ⟨fun fs => arbitrate_eq_filter 8 fs fun f _ g _ => ?_, fun c c' b b' hc hc' hb hb' => ?_⟩
  · rw [Nat.div_eq_of_lt f.isLt, Nat.div_eq_of_lt g.isLt]
  · rw [toNat_arbitrationField hc hb, toNat_arbitrationField hc' hb']
    omega

/-! ### The configuration image (R156) -/

/-- An accepted image has passed its checks 3 and 4. -/
theorem readImage_ok {image : Option (List Byte)} {cfg : Cfg} (h : readImage image = .ok cfg) :
    ∃ l, imageRanges l cfg = true ∧ imageConsistent cfg = true ∧ cfg = imageCfg l := by
  unfold readImage at h
  split at h
  · cases h
  next l =>
    dsimp only at h
    split at h
    · cases h
    · split at h
      · cases h
      · split at h
        · cases h
        next hr =>
          split at h
          · cases h
          next hc =>
            cases h
            exact ⟨l, by simpa using hr, by simpa using hc, rfl⟩

theorem imageCfg_segments_length (l : List Byte) :
    (imageCfg l).segments.length = (imageCfg l).loopLen + 2 := by
  simp [imageCfg]

theorem imageCfg_stations_length (l : List Byte) : (imageCfg l).stations.length = byteAt l 51 := by
  simp [imageCfg]

theorem within_iff {lo hi n : Nat} : within lo hi n = true ↔ lo ≤ n ∧ n ≤ hi := decide_eq_true_iff

/-- Settles O7. -/
theorem acceptedImageIsSound : Obligations.AcceptedImageIsSound := by
  intro image c h
  obtain ⟨l, ranges, consistent, rfl⟩ := readImage_ok h
  have segments_length := imageCfg_segments_length l
  have stations_length := imageCfg_stations_length l
  generalize imageCfg l = c at *
  simp only [imageRanges, Bool.and_eq_true, and_assoc] at ranges
  simp only [imageConsistent, Bool.and_eq_true, decide_eq_true_eq, and_assoc] at consistent
  obtain ⟨-, nBays, baseLimit, limit, window, -, loopLen, sectionTime, xDefault, hot, express, normal,
    ret, -, wCall, wSend, wRecall, wAccept, wRetry, wAsk, tStarve, fMin, kKeep, slackIn, tRec, tIdlePark,
    hThr, quanta, q, parkPenalty, rLoaded, pPoll, pStatus, tSilent, tAbsent, count, segments, stations,
    -⟩ := ranges
  obtain ⟨bay, nodup, capacity, parking, firstSpur, lastSpur⟩ := consistent
  have nBays := within_iff.1 nBays
  have loopLen := within_iff.1 loopLen
  have limit := within_iff.1 limit
  have window := within_iff.1 window
  have count := within_iff.1 count
  have segment (g : SegCfg) (hg : g ∈ c.segments) := List.all_eq_true.1 segments g hg
  simp only [Bool.and_eq_true, within_iff] at segment
  have station (x : StationCfg) (hx : x ∈ c.stations) := List.all_eq_true.1 stations x hx
  simp only [Bool.and_eq_true, within_iff] at station
  have parked (g : SegCfg) (hg : g ∈ c.segments) : g.parking ≤ g.capacity :=
    of_decide_eq_true (List.all_eq_true.1 parking g hg)
  refine ⟨bay, nBays.1, nBays.2, loopLen.1, loopLen.2, of_decide_eq_true baseLimit, limit.2, window.2,
    segments_length, capacity, fun g hg => ?_, nodup, fun x hx => ?_, by omega, fun g hg => ?_, ?_, ?_, ?_⟩
  · obtain ⟨⟨time, cap⟩, -⟩ := segment g hg
    exact ⟨time.1, time.2, cap.1, cap.2, parked g hg⟩
  · obtain ⟨number, place⟩ := station x hx
    exact ⟨number.1, number.2, place⟩
  · exact (segment g hg).2.2
  · have first : c.segments[0]? = some c.segments[0] := List.getElem?_eq_getElem (by omega)
    rw [List.head?_eq_getElem?, first] at firstSpur
    rw [first]
    exact congrArg some (eq_of_beq firstSpur)
  · have last : c.segments[c.loopLen + 1]? = some c.segments[c.loopLen + 1] :=
      List.getElem?_eq_getElem (by omega)
    have at_end : c.segments.length - 1 = c.loopLen + 1 := by omega
    rw [List.getLast?_eq_getElem?, at_end, last] at lastSpur
    rw [last]
    exact congrArg some (eq_of_beq lastSpur)
  · simp only [List.forall_mem_cons, List.not_mem_nil, false_imp_iff, implies_true, and_true, ← within_iff]
    exact ⟨sectionTime, xDefault, hot, express, normal, ret, wCall, wSend, wRecall, wAccept, wRetry, wAsk,
      tStarve, fMin, kKeep, slackIn, tRec, tIdlePark, hThr, quanta, q, parkPenalty, rLoaded, pPoll,
      pStatus, tSilent, tAbsent⟩

end Sys2Proof.Machine
end

section
/-! PROOFS. What the passes at the end of a command leave alone (R77 to R93). While no follow-on is
asked, they bind free vehicles to moves that wait, send idle vehicles to park, and open calls; `Calm`
says what stays through all of it. -/
namespace Sys2Proof.Machine

/-! ### What a pass may do to a move and to a vehicle -/

/-- A pass binds a move that is a candidate, or opens its call (R78, R93). -/
def Move.passed (b : Blocks) (m m' : Move) : Prop :=
  m' = m ∨ ((∃ n ∈ b.moveList, n.tag = m.tag ∧ n.candidate = true) ∧
    (m'.state = .bound ∨ m'.state = .calling) ∧
    m' = { m with state := m'.state, vehicle := m'.vehicle, callId := m'.callId })

/-- A pass gives a vehicle that is IDLE a job (R81, R87), or binds one that is free (R80). -/
def Vehicle.passed (b : Blocks) (v v' : Vehicle) : Prop :=
  v' = v ∨
  ((∃ w ∈ b.vehicles, w.id = v.id ∧ w.state = .idle) ∧
    v' = { v with job := v'.job, echo := v'.echo, jobDone := v'.jobDone, given := v'.given }) ∨
  ((∃ w ∈ b.vehicles, w.id = v.id ∧ w.free = true) ∧ b.candidateMoves ≠ [] ∧
    v' = { v with state := .toSource, bound := v'.bound, job := v'.job, echo := v'.echo
                  jobDone := v'.jobDone, given := v'.given })

/-- The counters a pass, or the upkeep, may raise. -/
def passCounters : List Nat :=
  [Counter.callsMade.index, Counter.callsCancelled.index, Counter.overflows.index]

/-- What the passes and the upkeep at a command's end leave alone, while no follow-on is asked. -/
structure Calm (e : Env) (b c : Blocks) : Prop where
  si : c.si = b.si
  inbound : c.zc.inbound = b.zc.inbound
  segments : c.zc.segments = b.zc.segments
  census : c.zc.census = b.zc.census
  discarded : c.zc.discarded = b.zc.discarded
  pd : c.pd = b.pd
  fu : c.fu = b.fu
  bids : c.du.bids = b.du.bids
  ask : c.du.ask = b.du.ask
  askCounter : c.du.askCounter = b.du.askCounter
  seqCounter : c.mm.seqCounter = b.mm.seqCounter
  consignCounter : c.mm.consignCounter = b.mm.consignCounter
  station : c.out.station = b.out.station
  service : c.out.service = b.out.service
  ti : c.ti = { b.ti with queue := c.ti.queue, buffered := c.ti.buffered }
  queue : ∀ r ∈ b.ti.queue, r.isHold = false → r ∈ c.ti.queue
  flag : ∀ f, f ≠ .overflow → c.flag f = b.flag f
  counter : ∀ k : Counter, k.index ∉ passCounters → c.counter k = b.counter k
  moves : List.Forall₂ (Move.passed b) b.moveList c.moveList
  vehicles : List.Forall₂ (Vehicle.passed b) b.vehicles c.vehicles
  calls : ∀ x ∈ c.du.calls, x ∈ b.du.calls ∨
    ∃ m ∈ b.moveList, m.tag = x.tag ∧ m.eligible e.now = true
  calling : ∀ m ∈ c.moveList, m.state = .calling →
    ∃ n ∈ b.moveList, n.tag = m.tag ∧ (n.state = .calling ∨ n.eligible e.now = true)
  slots : c.mm.moves.map Option.isNone = b.mm.moves.map Option.isNone
  bound : ∀ v ∈ c.vehicles, ∀ t, v.bound = some t → (∃ w ∈ b.vehicles, w.bound = some t) ∨
    ∃ n ∈ b.moveList, n.tag = t ∧ n.candidate = true

namespace Calm
variable {e : Env} {b c : Blocks}

theorem refl : Calm e b b where
  si := rfl
  inbound := rfl
  segments := rfl
  census := rfl
  discarded := rfl
  pd := rfl
  fu := rfl
  bids := rfl
  ask := rfl
  askCounter := rfl
  seqCounter := rfl
  consignCounter := rfl
  station := rfl
  service := rfl
  ti := rfl
  queue _ hr _ := hr
  flag _ _ := rfl
  counter _ _ := rfl
  moves := List.forall₂_same.2 fun _ _ => .inl rfl
  vehicles := List.forall₂_same.2 fun _ _ => .inl rfl
  calls _ hx := .inl hx
  calling m hm hs := ⟨m, hm, rfl, .inl hs⟩
  slots := rfl
  bound v hv _ hb := .inl ⟨v, hv, hb⟩

/-! ### The moves and vehicles behind those that stand after a pass -/

theorem exists_of_mem_right {R : α → β → Prop} {l : List α} {l' : List β}
    (h : List.Forall₂ R l l') {y : β} (hy : y ∈ l') : ∃ x ∈ l, R x y := by
  induction h with
  | nil => cases hy
  | cons hxy _ ih =>
    rcases List.mem_cons.1 hy with rfl | hy
    · exact ⟨_, List.mem_cons_self, hxy⟩
    · obtain ⟨x, hx, hR⟩ := ih hy
      exact ⟨x, List.mem_cons_of_mem _ hx, hR⟩

/-- A candidate move of a pass was a candidate before it, by its tag. -/
theorem candidate_before (h : Calm e b c) {m : Move} (hm : m ∈ c.candidateMoves) :
    ∃ n ∈ b.moveList, n.tag = m.tag ∧ n.candidate = true := by
  obtain ⟨mem, cand⟩ := List.mem_filter.1 hm
  obtain ⟨m₀, mem₀, rfl | ⟨before, -, hm'⟩⟩ := exists_of_mem_right h.moves mem
  · exact ⟨m, mem₀, rfl, cand⟩
  · rw [hm']
    exact before

/-- A move that waits during the passes stood so before them. -/
theorem waiting_before (h : Calm e b c) {m : Move} (hm : m ∈ c.moveList) (hw : m.state = .waiting) :
    m ∈ b.moveList := by
  obtain ⟨m₀, mem₀, rfl | ⟨-, state, -⟩⟩ := exists_of_mem_right h.moves hm
  · exact mem₀
  · rw [hw] at state
    simp at state

theorem idle_before (h : Calm e b c) {v : Vehicle} (hv : v ∈ c.vehicles) (hs : v.state = .idle) :
    ∃ w ∈ b.vehicles, w.id = v.id ∧ w.state = .idle := by
  obtain ⟨v₀, mem₀, rfl | ⟨before, hv'⟩ | ⟨-, -, hv'⟩⟩ := exists_of_mem_right h.vehicles hv
  · exact ⟨v, mem₀, rfl, hs⟩
  · rw [hv']
    exact before
  · rw [hv'] at hs
    cases hs

theorem free_before (h : Calm e b c) {v : Vehicle} (hv : v ∈ c.vehicles) (hs : v.free = true) :
    ∃ w ∈ b.vehicles, w.id = v.id ∧ w.free = true := by
  obtain ⟨v₀, mem₀, rfl | ⟨-, hv'⟩ | ⟨-, -, hv'⟩⟩ := exists_of_mem_right h.vehicles hv
  · exact ⟨v, mem₀, rfl, hs⟩
  · rw [hv'] at hs ⊢
    exact ⟨v₀, mem₀, rfl, hs⟩
  · rw [hv'] at hs
    cases hs

/-! ### The elementary changes of the passes -/

theorem modAgenda {f : Agenda → Agenda} (h : Calm e b c) : Calm e b (c.modAgenda f) := { h with }
theorem setAgenda {a : Agenda} (h : Calm e b c) : Calm e b { c with agenda := a } := { h with }
theorem emitZone {m : ZoneMsg} (h : Calm e b c) : Calm e b (c.emitZone m) := { h with }

theorem bump {k : Counter} (h : Calm e b c) (hk : k.index ∈ passCounters) : Calm e b (c.bump k) :=
  { h with
    counter := fun j hj =>
      (Blocks.counter_bump_of_ne fun he : j.index = k.index => hj (he ▸ hk)).trans (h.counter j hj) }

theorem starve {x : Option Time} (h : Calm e b c) : Calm e b (c.modDU fun d => { d with starve := x }) :=
  { h with }

/-- The queue of the Trunk Interface changes in HOLDs and by records that join it. -/
theorem modTI {f : TI → TI} (h : Calm e b c)
    (hf : f c.ti = { c.ti with queue := (f c.ti).queue, buffered := (f c.ti).buffered })
    (hq : ∀ r ∈ c.ti.queue, r.isHold = false → r ∈ (f c.ti).queue) : Calm e b (c.modTI f) :=
  { h with
    ti := by
      show f c.ti = { b.ti with queue := (f c.ti).queue, buffered := (f c.ti).buffered }
      rw [hf, h.ti]
    queue := fun r hr hh => hq r (h.queue r hr hh) hh }

/-- A record that replaces none joins the queue, or overflows. -/
theorem place {r : Record} (h : Calm e b c) (hr : ∀ x, replaces r x = false) :
    Calm e b (c.place e r) := by
  rcases c.place_cases e r with ⟨-, hp⟩ | ⟨-, hx, hp⟩ | ⟨-, -, -, hp⟩ | ⟨-, -, -, hp⟩ <;> rw [hp]
  · exact h
  · obtain ⟨x, -, hx⟩ := List.any_eq_true.1 hx
    simp [hr x] at hx
  · have raised : Calm e b (c.bump .overflows) := h.bump (by decide)
    exact { raised with
      flag := fun f hf => by
        rw [← raised.flag f hf]
        cases f <;> first | rfl | exact absurd rfl hf }
  · exact h.modTI rfl fun x hx _ => (mem_insertBy _ _ _).2 (.inr hx)

theorem toAll {body : Body} (h : Calm e b c)
    (hr : ∀ x, replaces ⟨none, body⟩ x = false) : Calm e b (c.toAll e body) := h.place hr

/-- A change in place leaves the free entries free. -/
theorem isNone_updWhere {α : Type} (p : α → Bool) (f : α → α) (l : List (Option α)) :
    (updWhere p f l).map Option.isNone = l.map Option.isNone := by
  unfold updWhere
  rw [List.map_map]
  refine List.map_congr_left fun x _ => ?_
  cases x <;> rfl

/-- Entries changed in place are bound as before, where the change binds to no other tag than `n`. -/
theorem bound_modVehicle {id : Nat} {f : Vehicle → Vehicle} (h : Calm e b c)
    (hf : ∀ x, (f x).bound = x.bound ∨ ∃ n ∈ b.moveList, (f x).bound = some n.tag ∧ n.candidate = true) :
    ∀ v ∈ (c.modVehicle id f).vehicles, ∀ t, v.bound = some t → (∃ w ∈ b.vehicles, w.bound = some t) ∨
      ∃ n ∈ b.moveList, n.tag = t ∧ n.candidate = true := by
  rw [Blocks.vehicles_modVehicle]
  intro v hv t ht
  obtain ⟨x, hx, rfl⟩ := List.mem_map.1 hv
  by_cases hid : (x.id == id) = true
  · rw [if_pos hid] at ht
    rcases hf x with same | ⟨n, hn, bound, cand⟩
    · exact h.bound x hx t (same.symm.trans ht)
    · rw [bound] at ht
      exact .inr ⟨n, hn, Option.some.inj ht, cand⟩
  · rw [if_neg hid] at ht
    exact h.bound x hx t ht

/-- The records of one tag, of which one is a candidate, change as a pass changes them. -/
theorem modMove {tag : Tag} {f : Move → Move} (h : Calm e b c)
    (hm : ∃ n ∈ b.moveList, n.tag = tag ∧ n.candidate = true)
    (hf : ∀ x, ((f x).state = .bound ∨ (f x).state = .calling) ∧
      f x = { x with state := (f x).state, vehicle := (f x).vehicle, callId := (f x).callId })
    (hc : (∀ x, (f x).state = .bound) ∨
      ∃ n ∈ b.moveList, n.tag = tag ∧ n.eligible e.now = true) : Calm e b (c.modMove tag f) :=
  { h with
    calling := by
      rw [Blocks.moveList_modMove]
      intro m hm hs
      obtain ⟨y, hy, rfl⟩ := List.mem_map.1 hm
      by_cases ht : (y.tag == tag) = true
      · rw [if_pos ht] at hs ⊢
        have tag_y : (f y).tag = tag := by
          rw [(hf y).2]
          simpa using ht
        rcases hc with bound | ⟨n, hn, tag_n, elig⟩
        · rw [bound y] at hs
          cases hs
        · exact ⟨n, hn, tag_n.trans tag_y.symm, .inr elig⟩
      · rw [if_neg ht] at hs ⊢
        exact h.calling y hy hs
    slots := (isNone_updWhere _ _ _).trans h.slots
    moves := by
      rw [Blocks.moveList_modMove, List.forall₂_map_right_iff]
      refine h.moves.imp fun x y hxy => ?_
      split
      next hy =>
        have tag_y : y.tag = tag := by simpa using hy
        have tag_x : x.tag = y.tag := by
          rcases hxy with rfl | ⟨-, -, hy⟩
          · rfl
          · rw [hy]
        obtain ⟨n, hn, tag_n, cand⟩ := hm
        obtain ⟨state, fields⟩ := hf y
        refine .inr ⟨⟨n, hn, (tag_n.trans tag_y.symm).trans tag_x.symm, cand⟩, state, ?_⟩
        rcases hxy with rfl | ⟨-, -, hy⟩
        · exact fields
        · rw [fields, hy]
      next => exact hxy }

/-- The entries of one id, of which one is free, are bound. -/
theorem bindVehicle {v : Vehicle} {f : Vehicle → Vehicle} (h : Calm e b c) (hv : v ∈ c.vehicles)
    (hfree : v.free = true) (hm : b.candidateMoves ≠ [])
    (hb : ∀ x, ∃ n ∈ b.moveList, (f x).bound = some n.tag ∧ n.candidate = true)
    (hf : ∀ x, f x = { x with state := .toSource, bound := (f x).bound, job := (f x).job
                              echo := (f x).echo, jobDone := (f x).jobDone, given := (f x).given }) :
    Calm e b (c.modVehicle v.id f) :=
  { h with
    bound := h.bound_modVehicle fun x => .inr (hb x)
    vehicles := by
      rw [Blocks.vehicles_modVehicle, List.forall₂_map_right_iff]
      refine h.vehicles.imp fun x y hxy => ?_
      split
      next hy =>
        have id_y : y.id = v.id := by simpa using hy
        have id_x : x.id = y.id := by
          rcases hxy with rfl | ⟨-, hy⟩ | ⟨-, -, hy⟩
          · rfl
          · rw [hy]
          · rw [hy]
        obtain ⟨w, hw, id_w, free⟩ := h.free_before hv hfree
        refine .inr (.inr ⟨⟨w, hw, (id_w.trans id_y.symm).trans id_x.symm, free⟩, hm, ?_⟩)
        rcases hxy with rfl | ⟨-, hy⟩ | ⟨-, -, hy⟩
        · exact hf y
        · rw [hf y, hy]
        · rw [hf y, hy]
      next => exact hxy }

/-- The entries of one id, of which one is IDLE, take a job. -/
theorem command {id : Nat} {job : Job} (h : Calm e b c)
    (hv : ∃ w ∈ b.vehicles, w.id = id ∧ w.state = .idle) :
    Calm e b (c.modVehicle id (Vehicle.commanded job)) :=
  { h with
    bound := h.bound_modVehicle fun _ => .inl rfl
    vehicles := by
      rw [Blocks.vehicles_modVehicle, List.forall₂_map_right_iff]
      refine h.vehicles.imp fun x y hxy => ?_
      split
      next hy =>
        have id_y : y.id = id := by simpa using hy
        obtain ⟨w, hw, id_w, idle⟩ := hv
        rcases hxy with rfl | ⟨before, hy⟩ | ⟨before, moves, hy⟩
        · exact .inr (.inl ⟨⟨w, hw, id_w.trans id_y.symm, idle⟩, rfl⟩)
        · refine .inr (.inl ⟨before, ?_⟩)
          rw [hy]
          rfl
        · refine .inr (.inr ⟨before, moves, ?_⟩)
          rw [hy]
          rfl
      next => exact hxy }

theorem sendGoto {id : Nat} {job : Job} (h : Calm e b c)
    (hv : ∃ w ∈ b.vehicles, w.id = id ∧ w.state = .idle) : Calm e b (c.sendGoto e id job) := by
  rcases c.sendGoto_cases e id job with ⟨-, hg⟩ | ⟨-, d, rfl, hg | hg⟩ <;> rw [hg]
  · exact h
  · exact (h.command hv).emitZone
  · exact (h.command hv).emitZone.modAgenda

theorem endCall {tag : Tag} (h : Calm e b c) : Calm e b (c.endCall e tag) := by
  unfold Blocks.endCall
  split
  · exact h
  next x _ =>
    have removed : Calm e b (c.removeCall tag) :=
      { h with calls := fun x hx => h.calls x (List.mem_filter.1 hx).1 }
    exact (removed.toAll fun y => by simp [replaces, isStatus, isLink, kindCode]).bump (by decide)

theorem updWhere_updWhere {α : Type} {p : α → Bool} {f g : α → α} (hf : ∀ x, p (f x) = p x)
    (l : List (Option α)) : updWhere p g (updWhere p f l) = updWhere p (fun x => g (f x)) l := by
  unfold updWhere
  rw [List.map_map]
  congr 1
  funext o
  cases o with
  | none => rfl
  | some x =>
    simp only [Function.comp_apply, Option.map_some]
    by_cases hx : p x = true
    · simp [hx, hf]
    · simp [hx]

theorem modVehicle_modVehicle (b : Blocks) (id : Nat) {f g : Vehicle → Vehicle}
    (hf : ∀ x, (f x).id = x.id) :
    (b.modVehicle id f).modVehicle id g = b.modVehicle id fun x => g (f x) :=
  congrArg (fun l => b.modRoster fun _ => l) (updWhere_updWhere (fun x => by rw [hf]) b.zc.roster)

/-! ### The passes (R78, R81, R87, R92) -/

/-- Binding and the job that goes with it change a vehicle's entry at once. -/
theorem bindAndCommand {v : Vehicle} {f : Vehicle → Vehicle} {job : Job} (h : Calm e b c)
    (hv : v ∈ c.vehicles) (hfree : v.free = true) (hm : b.candidateMoves ≠ [])
    (hb : ∀ x, ∃ n ∈ b.moveList, (f x).bound = some n.tag ∧ n.candidate = true)
    (hf : ∀ x, f x = { x with state := .toSource, bound := (f x).bound, job := (f x).job
                              echo := (f x).echo, jobDone := (f x).jobDone, given := (f x).given }) :
    Calm e b ((c.modVehicle v.id f).sendGoto e v.id job) := by
  have sent := h.bindVehicle (f := fun x => Vehicle.commanded job (f x)) hv hfree hm hb
    fun x => by rw [hf x]; rfl
  rw [← modVehicle_modVehicle c v.id (g := Vehicle.commanded job) fun x => by rw [hf x]] at sent
  rcases (c.modVehicle v.id f).sendGoto_cases e v.id job with ⟨-, hg⟩ | ⟨-, d, rfl, hg | hg⟩ <;>
    rw [hg]
  · exact h.bindVehicle hv hfree hm hb hf
  · exact sent.emitZone
  · exact sent.emitZone.modAgenda

theorem bind {m : Move} {v : Vehicle} (h : Calm e b c) (hm : m ∈ c.candidateMoves)
    (hv : v ∈ c.vehicles) (hfree : v.free = true) : Calm e b (c.bind e m v.id) := by
  have before := h.candidate_before hm
  have bound : ∃ n ∈ b.moveList, some m.tag = some n.tag ∧ n.candidate = true := by
    obtain ⟨n, hn, tag, cand⟩ := before
    exact ⟨n, hn, congrArg some tag.symm, cand⟩
  have moves : b.candidateMoves ≠ [] := by
    obtain ⟨n, hn, -, cand⟩ := before
    exact List.ne_nil_of_mem (List.mem_filter.2 ⟨hn, cand⟩)
  have moved := h.modMove (f := fun x => { x with state := .bound, vehicle := some v.id, callId := none })
    before (fun x => ⟨.inl rfl, rfl⟩) (.inl fun _ => rfl)
  unfold Blocks.bind
  exact (moved.bindAndCommand (f := fun x => { x with bound := some m.tag, state := .toSource }) hv hfree
    moves (fun _ => bound) fun _ => rfl).endCall

end Calm

/-- A move that may call is a candidate (R77, R92). -/
theorem Move.candidate_of_eligible {m : Move} {now : Time} (h : m.eligible now = true) :
    m.state = .waiting ∧ m.candidate = true := by
  simp only [Move.eligible, Bool.and_eq_true, beq_iff_eq] at h
  obtain ⟨⟨⟨state, held⟩, poisoned⟩, -⟩ := h
  exact ⟨state, by simp only [Move.candidate, poisoned, state, held]; rfl⟩

/-- The pair that a binding pass takes next is a candidate move and a free vehicle (R78). -/
theorem Blocks.nextPair_mem {e : Env} {b : Blocks} {m : Move} {v : Vehicle}
    (h : b.nextPair e = some (m, v)) : m ∈ b.candidateMoves ∧ v ∈ b.candidates := by
  unfold Blocks.nextPair at h
  split at h
  · cases h
  next n hn =>
    obtain ⟨w, hw, hmv⟩ := Option.map_eq_some_iff.1 h
    cases hmv
    refine ⟨firstBy_mem _ _ hn, ?_⟩
    unfold Blocks.nearest at hw
    obtain ⟨⟨eta, x⟩, hx, rfl⟩ := Option.map_eq_some_iff.1 hw
    obtain ⟨w, hw, hr⟩ := List.mem_filterMap.1 ((mem_sortBy _ _).1 (List.mem_of_head? hx))
    obtain ⟨n, -, hnw⟩ := Option.map_eq_some_iff.1 hr
    cases hnw
    exact hw

namespace Calm
variable {e : Env} {b c : Blocks}

theorem bindPairs {n : Nat} (h : Calm e b c) : Calm e b (Blocks.bindPairs e n c) := by
  induction n generalizing c with
  | zero => exact h
  | succ n ih =>
    unfold Blocks.bindPairs
    split
    · exact h
    next m v hp =>
      obtain ⟨hm, hv⟩ := Blocks.nextPair_mem hp
      obtain ⟨mem, cand⟩ := List.mem_filter.1 hv
      exact ih (h.bind hm mem (Bool.and_eq_true_iff.1 cand).1)

theorem foldl {α : Type} {l : List α} {f : Blocks → α → Blocks} (h : Calm e b c)
    (hf : ∀ {c : Blocks} (x : α), x ∈ l → Calm e b c → Calm e b (f c x)) :
    Calm e b (l.foldl f c) := by
  induction l generalizing c with
  | nil => exact h
  | cons x l ih =>
    exact ih (hf x List.mem_cons_self h) fun y hy => hf y (List.mem_cons_of_mem _ hy)

theorem passReleased (h : Calm e b c) : Calm e b (c.passReleased e) := by
  refine h.foldl fun id _ h => ?_
  split
  · exact h
  next v hv =>
    split
    next hs =>
      obtain ⟨mem, rfl⟩ := Blocks.vehicle?_mem _ hv
      exact h.sendGoto (h.idle_before mem hs)
    next => exact h

theorem parkOne {id : Nat} (h : Calm e b c) : Calm e b (c.parkOne e id) := by
  unfold Blocks.parkOne
  split
  · exact h
  next v hv =>
    split
    next hd =>
      split
      · obtain ⟨mem, rfl⟩ := Blocks.vehicle?_mem _ hv
        simp only [Blocks.parkDue, Bool.and_eq_true, beq_iff_eq] at hd
        exact h.sendGoto (h.idle_before mem hd.1.1.1)
      · exact h
    next => exact h

theorem parkAll (h : Calm e b c) : Calm e b (c.parkAll e) := by
  unfold Blocks.parkAll
  split
  · exact h
  · exact h.foldl fun v _ h => h.parkOne

/-- Opening a call of a move that waited before the passes (R93). -/
theorem openCall {m : Move} (h : Calm e b c) (hm : m ∈ b.moveList) (he : m.eligible e.now = true) :
    Calm e b (c.openCall e m) := by
  have cand := (Move.candidate_of_eligible he).2
  have moved := h.modMove (f := fun x => { x with state := .calling, callId := some c.nextCall })
    ⟨m, hm, rfl, cand⟩ (fun x => ⟨.inr rfl, rfl⟩) (.inr ⟨m, hm, rfl, he⟩)
  have opened : Calm e b ((c.modMove m.tag fun x =>
      { x with state := .calling, callId := some c.nextCall }).modDU fun d =>
    { d with
      calls := d.calls ++ [{
        id := c.nextCall
        tag := m.tag
        windowEnd := after e.now e.cfg.wCall
        best := none
        bids := 0
        awardDeadline := none }]
      callCounter := c.nextCall + 1 }) :=
    { moved with
      calls := fun x hx => by
        rcases List.mem_append.1 hx with hx | hx
        · exact moved.calls x hx
        · rw [List.mem_singleton.1 hx]
          exact .inr ⟨m, hm, rfl, he⟩ }
  unfold Blocks.openCall
  exact (opened.toAll fun y => by simp [replaces, isStatus, isLink, kindCode]).bump (by decide)

theorem callPass (h : Calm e b c) : Calm e b (c.callPass e) := by
  refine h.foldl fun m hm h' => ?_
  obtain ⟨mem, elig⟩ := List.mem_filter.1 ((mem_sortBy _ _).1 hm)
  split
  · exact h'.openCall (h.waiting_before mem (Move.candidate_of_eligible elig).1) elig
  · exact h'

theorem bindPhase (h : Calm e b c) : Calm e b (c.bindPhase e) := by
  unfold Blocks.bindPhase
  split
  · exact h.bindPairs.passReleased.modAgenda
  · exact h

theorem parkPhase (h : Calm e b c) : Calm e b (c.parkPhase e) := by
  unfold Blocks.parkPhase
  split
  · exact h.parkAll
  · exact h

theorem callPhase (h : Calm e b c) : Calm e b (c.callPhase e) := by
  unfold Blocks.callPhase
  split
  · exact h.callPass
  · exact h

/-! ### The end of a command -/

theorem withdraw {p : Record → Bool} (h : Calm e b c) (hp : ∀ r, r.isHold = false → p r = true) :
    Calm e b (c.modTI fun t => { t with queue := t.queue.filter p }) :=
  h.modTI rfl fun r hr hh => List.mem_filter.2 ⟨hr, hp r hh⟩

theorem holdUpkeep {half : Bool} (h : Calm e b c) : Calm e b (c.holdUpkeep e half) := by
  have replaces_none (d : Nat) (x : Record) : replaces ⟨none, .hold d⟩ x = false := by
    simp [replaces, isStatus, isLink, kindCode]
  unfold Blocks.holdUpkeep
  split
  · exact h
  · split
    · have withdrawn := h.withdraw (p := fun r => !isHoldZero r)
        fun r hr => by simp [isHoldZero_eq_false hr]
      dsimp only
      split
      · unfold Blocks.placeHold
        split
        · exact withdrawn
        · exact withdrawn.toAll (replaces_none _)
      · exact withdrawn
    · have withdrawn := h.withdraw (p := fun r => !isHoldQuanta r)
        fun r hr => by simp [isHoldQuanta_eq_false hr]
      dsimp only
      split
      · exact withdrawn.toAll (replaces_none _)
      · exact withdrawn

theorem trunkUpkeep (h : Calm e b c) : Calm e b (c.trunkUpkeep e) := by
  unfold Blocks.trunkUpkeep Blocks.periodUpkeep
  split
  · exact h.holdUpkeep.modTI rfl fun r hr _ => hr
  · exact h.holdUpkeep

theorem supplyWatch {before : Blocks} (h : Calm e b c) : Calm e b (c.supplyWatch e before) := by
  rw [Blocks.supplyWatch_eq]
  exact { h with }

theorem passes (h : Calm e b c) (hf : c.followPhase e = c) : Calm e b (c.passes e) := by
  unfold Blocks.passes
  rw [hf]
  exact h.bindPhase.parkPhase.callPhase.setAgenda

/-- What a command's end leaves alone, while no follow-on is asked. -/
theorem settle {before : Blocks} (h : Calm e b c) (hf : c.followPhase e = c) :
    Calm e b (c.settle e before) := by
  unfold Blocks.settle
  exact (h.passes hf).trunkUpkeep.supplyWatch

end Calm

theorem Blocks.followPhase_of_not_follow {e : Env} {b : Blocks} (h : b.agenda.follow = false) :
    b.followPhase e = b := by
  unfold Blocks.followPhase
  simp [h]

/-- No follow-on is asked while none is due. -/
theorem Blocks.followPhase_of_not_due {e : Env} {b : Blocks}
    (h : ∀ x ∈ b.stationList, x.followOnDue = false) : b.followPhase e = b := by
  have none_due : b.dueShelves = [] := by
    unfold Blocks.dueShelves
    rw [List.filter_eq_nil_iff.2 fun x hx => by simp [h x hx]]
    rfl
  unfold Blocks.followPhase Blocks.askFollowOns
  rw [none_due]
  split <;> rfl

end Sys2Proof.Machine
end

section
/-! PROOFS. What is read off a calm end of a command, and how a command runs between commands. -/
namespace Sys2Proof.Machine

/-! ### Entries behind entries -/

/-- Related lists answer a search by related entries. -/
theorem find?_of_forall₂ {R : α → α → Prop} {p : α → Bool} {l l' : List α} (h : List.Forall₂ R l l')
    (hp : ∀ x y, R x y → p y = p x) :
    (l.find? p = none ∧ l'.find? p = none) ∨
      ∃ x y, l.find? p = some x ∧ l'.find? p = some y ∧ R x y := by
  induction h with
  | nil => exact .inl ⟨rfl, rfl⟩
  | @cons x y l l' hxy _ ih =>
    rw [List.find?_cons, List.find?_cons, hp x y hxy]
    cases p x with
    | true => exact .inr ⟨x, y, rfl, rfl, hxy⟩
    | false => exact ih

theorem Move.passed.tag {b : Blocks} {m m' : Move} (h : m.passed b m') : m'.tag = m.tag := by
  rcases h with rfl | ⟨-, -, h⟩
  · rfl
  · rw [h]

/-- A pass leaves the terms of a move, its retry count and its end-method as they were. -/
theorem Move.passed.keeps {b : Blocks} {m m' : Move} (h : m.passed b m') :
    m'.terms = m.terms ∧ m'.retry = m.retry ∧ m'.endMethod = m.endMethod ∧
      m'.recallAt = m.recallAt ∧ m'.shelfSourced = m.shelfSourced ∧ m'.wait = m.wait ∧
      m'.checkHold = m.checkHold ∧ m'.consignId = m.consignId ∧ m'.consignee = m.consignee ∧
      m'.poisoned = m.poisoned := by
  rcases h with rfl | ⟨-, -, h⟩
  · exact ⟨rfl, rfl, rfl, rfl, rfl, rfl, rfl, rfl, rfl, rfl⟩
  · rw [h]
    exact ⟨rfl, rfl, rfl, rfl, rfl, rfl, rfl, rfl, rfl, rfl⟩

/-- The state of a move after a pass. -/
theorem Move.passed.state_cases {b : Blocks} {m m' : Move} (h : m.passed b m') :
    m'.state = m.state ∨ m'.state = .bound ∨ m'.state = .calling := by
  rcases h with rfl | ⟨-, state, -⟩
  · exact .inl rfl
  · exact .inr state

theorem Vehicle.passed.id {b : Blocks} {v v' : Vehicle} (h : v.passed b v') : v'.id = v.id := by
  rcases h with rfl | ⟨-, h⟩ | ⟨-, -, h⟩
  · rfl
  · rw [h]
  · rw [h]

/-- A pass leaves what a vehicle has reported, its place and its marks as they were. -/
theorem Vehicle.passed.keeps {b : Blocks} {v v' : Vehicle} (h : v.passed b v') :
    v'.reserved = v.reserved ∧ v'.clearance = v.clearance ∧ v'.relearn = v.relearn ∧
      v'.segment = v.segment ∧ v'.carrier = v.carrier := by
  rcases h with rfl | ⟨-, h⟩ | ⟨-, -, h⟩
  · exact ⟨rfl, rfl, rfl, rfl, rfl⟩
  · rw [h]
    exact ⟨rfl, rfl, rfl, rfl, rfl⟩
  · rw [h]
    exact ⟨rfl, rfl, rfl, rfl, rfl⟩

namespace Calm
variable {e : Env} {b c : Blocks}

theorem move?_cases (h : Calm e b c) (tag : Tag) :
    (b.move? tag = none ∧ c.move? tag = none) ∨
      ∃ m m', b.move? tag = some m ∧ c.move? tag = some m' ∧ m.passed b m' :=
  find?_of_forall₂ h.moves fun _ _ hp => by rw [hp.tag]

theorem vehicle?_cases (h : Calm e b c) (id : Nat) :
    (b.vehicle? id = none ∧ c.vehicle? id = none) ∨
      ∃ v v', b.vehicle? id = some v ∧ c.vehicle? id = some v' ∧ v.passed b v' :=
  find?_of_forall₂ h.vehicles fun _ _ hp => by rw [hp.id]

theorem move?_none (h : Calm e b c) {tag : Tag} (hn : b.move? tag = none) : c.move? tag = none := by
  rcases h.move?_cases tag with ⟨-, hc⟩ | ⟨m, -, hm, -⟩
  · exact hc
  · rw [hn] at hm
    cases hm

theorem move?_some (h : Calm e b c) {tag : Tag} {m : Move} (hm : b.move? tag = some m) :
    ∃ m', c.move? tag = some m' ∧ m.passed b m' := by
  rcases h.move?_cases tag with ⟨hn, -⟩ | ⟨n, m', hn, hc, hp⟩
  · rw [hn] at hm
    cases hm
  · rw [hn] at hm
    cases hm
    exact ⟨m', hc, hp⟩

theorem vehicle?_none (h : Calm e b c) {id : Nat} (hn : b.vehicle? id = none) :
    c.vehicle? id = none := by
  rcases h.vehicle?_cases id with ⟨-, hc⟩ | ⟨v, -, hv, -⟩
  · exact hc
  · rw [hn] at hv
    cases hv

theorem vehicle?_some (h : Calm e b c) {id : Nat} {v : Vehicle} (hv : b.vehicle? id = some v) :
    ∃ v', c.vehicle? id = some v' ∧ v.passed b v' := by
  rcases h.vehicle?_cases id with ⟨hn, -⟩ | ⟨w, v', hw, hc, hp⟩
  · rw [hn] at hv
    cases hv
  · rw [hw] at hv
    cases hv
    exact ⟨v', hc, hp⟩

theorem move_terms (h : Calm e b c) (tag : Tag) :
    (c.move? tag).map Move.terms = (b.move? tag).map Move.terms := by
  rcases h.move?_cases tag with ⟨hb, hc⟩ | ⟨m, m', hb, hc, hp⟩
  · rw [hb, hc]
  · rw [hb, hc]
    exact congrArg some hp.keeps.1

/-- No pass changes a move of whose tag no record waits or calls. -/
theorem move?_eq (h : Calm e b c) {tag : Tag}
    (hn : ∀ n ∈ b.moveList, n.tag = tag → n.candidate = false) : c.move? tag = b.move? tag := by
  rcases h.move?_cases tag with ⟨hb, hc⟩ | ⟨m, m', hb, hc, rfl | ⟨⟨n, mem, tag_n, cand⟩, -⟩⟩
  · rw [hb, hc]
  · rw [hb, hc]
  · have := hn n mem (tag_n.trans (Blocks.move?_mem _ hb).2)
    rw [this] at cand
    cases cand

/-- No pass changes the entries of an id of which none is IDLE or free. -/
theorem vehicle?_eq (h : Calm e b c) {id : Nat}
    (hn : ∀ w ∈ b.vehicles, w.id = id → w.state ≠ .idle ∧ w.free = false) :
    c.vehicle? id = b.vehicle? id := by
  rcases h.vehicle?_cases id with ⟨hb, hc⟩ |
    ⟨v, v', hb, hc, rfl | ⟨⟨w, hw, id_w, idle⟩, -⟩ | ⟨⟨w, hw, id_w, free⟩, -⟩⟩
  · rw [hb, hc]
  · rw [hb, hc]
  · exact absurd idle (hn w hw (id_w.trans (Blocks.vehicle?_mem _ hb).2)).1
  · rw [(hn w hw (id_w.trans (Blocks.vehicle?_mem _ hb).2)).2] at free
    cases free

theorem onRoster (h : Calm e b c) (id : Nat) : c.onRoster id = b.onRoster id := by
  unfold Blocks.onRoster
  rcases h.vehicle?_cases id with ⟨hb, hc⟩ | ⟨v, v', hb, hc, -⟩ <;> rw [hb, hc] <;> rfl

theorem inbound? (h : Calm e b c) (id : Nat) : c.inbound? id = b.inbound? id := by
  unfold Blocks.inbound?
  rw [h.inbound]

theorem station? (h : Calm e b c) (n : Nat) : c.station? n = b.station? n := by
  unfold Blocks.station? Blocks.stationList
  rw [h.si]

theorem stationList (h : Calm e b c) : c.stationList = b.stationList := by
  unfold Blocks.stationList
  rw [h.si]

theorem peer (h : Calm e b c) (k : Nat) : c.peer k = b.peer k := by
  unfold Blocks.peer
  rw [h.pd]

end Calm

/-! ### Running between commands -/

/-- With no failed bit waiting, a command's effect is taken from the quiet blocks, and the end follows. -/
theorem State.run_rested {s : State} (h : s.rested) (f : Env → Blocks → Blocks) :
    (s.run f).b = (f s.env s.b.quiet).settle s.env s.b := by
  rw [State.run_b, s.b.quiet.readSpoiled_of_nil s.env h.2]

/-- A command that changes no station asks no follow-on, so its end is calm. -/
theorem State.run_calm {s : State} {f : Env → Blocks → Blocks} (h : s.rested)
    (hf : ((f s.env s.b.quiet).agenda).follow = false) :
    Calm s.env (f s.env s.b.quiet) (s.run f).b := by
  rw [State.run_rested h]
  exact Calm.refl.settle (Blocks.followPhase_of_not_follow hf)

/-- The same for a command that changes stations, while no shelf has a follow-on due. -/
theorem State.run_calm_of_not_due {s : State} {f : Env → Blocks → Blocks} (h : s.rested)
    (hf : ∀ x ∈ (f s.env s.b.quiet).stationList, x.followOnDue = false) :
    Calm s.env (f s.env s.b.quiet) (s.run f).b := by
  rw [State.run_rested h]
  exact Calm.refl.settle (Blocks.followPhase_of_not_due hf)

/-- Where nothing is left to do, the end of a command leaves the tables as its effect made them. -/
theorem State.run_frame {s : State} {f : Env → Blocks → Blocks} (h : s.rested)
    (hf : (f s.env s.b.quiet).agenda = Agenda.none) :
    (s.run f).b.zc = (f s.env s.b.quiet).zc ∧ (s.run f).b.si = (f s.env s.b.quiet).si ∧
      (s.run f).b.mm = (f s.env s.b.quiet).mm ∧
      (s.run f).b.du =
        { (f s.env s.b.quiet).du with starve := (s.run f).b.du.starve } ∧
      (s.run f).b.out = (f s.env s.b.quiet).out := by
  rw [State.run_rested h]
  obtain ⟨zc, si, mm, -, -, out, -, du⟩ := Blocks.settle_frame s.env (f s.env s.b.quiet) s.b hf
  exact ⟨zc, si, mm, du, out⟩

end Sys2Proof.Machine
end

section
/-! PROOFS. Start-up and the trunk's line: O6, O8, O24, O25, O26, O41. -/
namespace Sys2Proof.Machine

/-! ### Asking follow-ons (R37) -/

/-- What the follow-on asks leave alone: all but stations, moves, counters and agenda. -/
structure Asked (b c : Blocks) : Prop where
  zc : c.zc = b.zc
  linkReset : c.si.linkReset = b.si.linkReset
  waitQueue : c.si.waitQueue = b.si.waitQueue
  du : c.du = b.du
  pd : c.pd = b.pd
  ti : c.ti = b.ti
  fu : c.fu = b.fu
  out : c.out = b.out

namespace Asked
variable {b c : Blocks}

theorem refl : Asked b b := ⟨rfl, rfl, rfl, rfl, rfl, rfl, rfl, rfl⟩

theorem setReservation {n : Nat} {tag : Option Tag} (h : Asked b c) :
    Asked b (c.setReservation n tag) := by
  unfold Blocks.setReservation
  split
  · exact h
  · exact { h with }

theorem reserve {n : Nat} {tag : Tag} (h : Asked b c) : Asked b (c.reserve n tag) := by
  unfold Blocks.reserve
  split
  · exact h.setReservation
  · exact h

theorem acceptMove {e : Env} {m : Move} (h : Asked b c) : Asked b (c.acceptMove e m) := by
  unfold Blocks.acceptMove
  dsimp only
  split
  · exact { h with }
  · exact { h with }

theorem askFollowOn {e : Env} {n : Nat} (h : Asked b c) : Asked b (c.askFollowOn e n) := by
  unfold Blocks.askFollowOn
  split
  · exact h
  · split
    · exact h
    · split
      · exact h
      · refine Asked.reserve ?_
        exact { h.acceptMove with }

theorem followPhase {e : Env} (h : Asked b c) : Asked b (c.followPhase e) := by
  have asked (l : List Nat) {c : Blocks} (h : Asked b c) :
      Asked b (l.foldl (fun b n => b.askFollowOn e n) c) := by
    induction l generalizing c with
    | nil => exact h
    | cons n l ih => exact ih h.askFollowOn
  unfold Blocks.followPhase
  split
  · exact asked _ h
  · exact h

end Asked

/-- The end of any command is calm after its follow-on asks. -/
theorem Calm.after_follow (e : Env) (b before : Blocks) :
    Calm e (b.followPhase e) (b.settle e before) := by
  unfold Blocks.settle Blocks.passes
  exact Calm.refl.bindPhase.parkPhase.callPhase.setAgenda.trunkUpkeep.supplyWatch

theorem State.runAs_rested {s : State} (h : s.rested) (cl : CL) (f : Env → Blocks → Blocks) :
    (s.runAs cl f).b = (f { now := s.now, node := cl.node, cfg := cl.cfg } s.b.quiet).settle
      { now := s.now, node := cl.node, cfg := cl.cfg } s.b := by
  show (f _ (s.b.quiet.readSpoiled _)).settle _ s.b = _
  rw [s.b.quiet.readSpoiled_of_nil _ h.2]

/-! ### The end of LISTEN (R27, R158) -/

theorem Blocks.lowerOverlap_iff {e : Env} {b : Blocks} :
    b.lowerOverlap e = true ↔ ∃ k lo hi, k < e.cfg.bay.val ∧ (b.peer k).window = some (lo, hi) ∧
      lo ≤ e.cfg.limit ∧ e.cfg.base ≤ hi := by
  simp only [lowerOverlap, List.any_eq_true, List.mem_range, overlap, Option.any_eq_true,
    decide_eq_true_eq, Prod.exists, exists_and_left]

theorem Blocks.endListen_keeps (e : Env) (b : Blocks) :
    (b.endListen e).zc = { b.zc with census := none } ∧ (b.endListen e).si.linkReset = true ∧
      (b.endListen e).out.station = b.out.station ++ [.linkReset] := by
  unfold endListen starveCheck
  dsimp only
  split
  · split <;> exact ⟨rfl, rfl, rfl⟩
  · exact ⟨rfl, rfl, rfl⟩

/-- Settles O8. -/
theorem listenEndsInReadyOrConflict : Obligations.ListenEndsInReadyOrConflict := by
  intro s te hn hte
  refine ⟨fun hp hr => ?_, fun hp => ?_⟩
  · let node : NodeState := if s.b.lowerOverlap s.env then .conflict else .ready
    have ran : exec .listenEnd s =
        .next (s.runAs { s.cl with node := node, listenEnd := none } Blocks.endListen) := by
      show execListenEnd s = _
      unfold execListenEnd
      rw [hn, hte]
      exact if_pos hp
    obtain ⟨zc, linkReset, station⟩ :=
      Blocks.endListen_keeps { now := s.now, node := node, cfg := s.cl.cfg } s.b.quiet
    have settled := State.runAs_rested hr { s.cl with node := node, listenEnd := none } Blocks.endListen
    have asked := Asked.refl.followPhase (e := { now := s.now, node := node, cfg := s.cl.cfg })
      (b := s.b.quiet.endListen { now := s.now, node := node, cfg := s.cl.cfg })
    have calm := Calm.after_follow { now := s.now, node := node, cfg := s.cl.cfg }
      (s.b.quiet.endListen { now := s.now, node := node, cfg := s.cl.cfg }) s.b
    rw [← settled] at calm
    refine ⟨_, ran, fun ho => ?_, fun ho => ?_, ?_, ?_, ?_, rfl, ?_⟩
    · exact if_pos (Blocks.lowerOverlap_iff.2 ho)
    · exact if_neg fun h => ho (Blocks.lowerOverlap_iff.1 h)
    · rw [calm.si, asked.linkReset, linkReset]
    · rw [calm.station, asked.out, station]
      rfl
    · rw [calm.census, asked.zc, zc]
    · rw [calm.inbound, asked.zc, zc]
      rfl
  · refine ⟨_, ?_, rfl⟩
    show execListenEnd s = _
    unfold execListenEnd
    rw [hn, hte]
    exact if_neg (by simp [hp])

/-! ### The configuration image (R156, R157) -/

/-- CL on entering LISTEN with an accepted image (R157). -/
def CL.listening (now : Time) (cfg : Cfg) : CL where
  node := .listen
  cfg := cfg
  listenEnd := some (after now listenTime)

/-- What entering LISTEN makes of the blocks: the tables of the image, the census, the roll call and a
STATUS in the Transmit Queue. -/
theorem Blocks.enterListen_eq (e : Env) (b : Blocks) :
    ∃ queue, (b.enterListen e).zc =
        { b.zc with segments := e.cfg.segments.map segOf, census := some 1 } ∧
      (b.enterListen e).si = { b.si with stations := (List.range Config.stationSize).map fun i =>
        (e.cfg.stations.find? fun x => x.number == e.cfg.base + i).map stationOf } ∧
      (b.enterListen e).mm = b.mm ∧ (b.enterListen e).fu = b.fu ∧
      (b.enterListen e).agenda = b.agenda ∧
      (b.enterListen e).out = { b.out with zone := b.out.zone ++ [ZoneMsg.rollCall] } ∧
      (b.enterListen e).ti.queue = queue ∧
      queue = ((((b.configure e.cfg).periodUpkeep e).toAll e
        (.status (((b.configure e.cfg).periodUpkeep e).statusBody e))).ti.queue) := by
  have kept : ((b.configure e.cfg).periodUpkeep e).zc = (b.configure e.cfg).zc ∧
      ((b.configure e.cfg).periodUpkeep e).si = (b.configure e.cfg).si ∧
      ((b.configure e.cfg).periodUpkeep e).mm = b.mm ∧
      ((b.configure e.cfg).periodUpkeep e).fu = b.fu ∧
      ((b.configure e.cfg).periodUpkeep e).agenda = b.agenda ∧
      ((b.configure e.cfg).periodUpkeep e).out = b.out := by
    unfold periodUpkeep
    split <;> exact ⟨rfl, rfl, rfl, rfl, rfl, rfl⟩
  obtain ⟨zc, si, mm, fu, agenda, out⟩ := kept
  obtain ⟨zc', si', mm', -, -, fu', out', agenda', -, -⟩ := ((b.configure e.cfg).periodUpkeep e).place_frame
    e ⟨none, .status (((b.configure e.cfg).periodUpkeep e).statusBody e)⟩
  refine ⟨_, ?_, si'.trans si, mm'.trans mm, fu'.trans fu, agenda'.trans agenda, ?_, rfl, rfl⟩
  · exact congrArg (fun z : ZC => { z with census := some 1 }) (zc'.trans zc)
  · exact congrArg (fun o : Out => { o with zone := o.zone ++ [ZoneMsg.rollCall] }) (out'.trans out)

/-- Settles O6. -/
theorem imageDecidesStart : Obligations.ImageDecidesStart := by
  intro s image hn
  have config : ¬ s.cl.node ≠ .config := by simp [hn]
  refine ⟨fun c hc => ⟨{ s.runPlain (fun _ b => b) with cl := { s.cl with node := .haltedConfig c } },
    ?_, rfl, rfl⟩, fun cfg hcfg hr hq hl => ?_⟩
  · show execConfigImageRead image s = _
    unfold execConfigImageRead
    rw [if_neg config, hc]
  have ran : exec (.configImageRead image) s =
      .next (s.runAs (CL.listening s.now cfg) Blocks.enterListen) := by
    show execConfigImageRead image s = _
    unfold execConfigImageRead
    rw [if_neg config, hcfg]
    rfl
  let e : Env := { now := s.now, node := .listen, cfg := cfg }
  obtain ⟨queue, zc, si, mm, fu, agenda, out, hqueue, placed⟩ := Blocks.enterListen_eq e s.b.quiet
  have settled : (s.runAs (CL.listening s.now cfg) Blocks.enterListen).b =
      (s.b.quiet.enterListen e).settle e s.b := State.runAs_rested hr _ _
  have none_due : (s.b.quiet.enterListen e).agenda = Agenda.none := agenda.trans hr.1
  obtain ⟨zc', si', mm', -, fu', out', -, -⟩ :=
    Blocks.settle_frame e (s.b.quiet.enterListen e) s.b none_due
  have calm : Calm e (s.b.quiet.enterListen e) ((s.b.quiet.enterListen e).settle e s.b) :=
    Calm.refl.settle (Blocks.followPhase_of_not_follow (by rw [none_due]; rfl))
  refine ⟨_, ran, rfl, rfl, rfl, ?_, ?_, ?_, fun i hi => ?_, ?_, ?_, ?_, ?_⟩
  all_goals try rw [settled]
  · rw [out', out]; rfl
  · rw [zc', zc]
  · rw [zc', zc]
  · rw [si', si]
    simp [hi]
    rfl
  · let c := (s.b.quiet.configure cfg).periodUpkeep e
    have room : c.ti.count < Config.queueSize := by
      have queue : c.ti.queue = [] := by
        unfold c Blocks.periodUpkeep
        split <;> exact hq
      have line : c.ti.line = none := by
        unfold c Blocks.periodUpkeep
        split <;> exact hl
      simp [TI.count, queue, line, Config.queueSize]
    refine ⟨c.statusBody e, ?_, rfl, rfl, rfl, rfl⟩
    unfold State.queued
    rw [settled]
    refine calm.queue ⟨none, .status (c.statusBody e)⟩ ?_ rfl
    rw [hqueue, placed]
    exact Blocks.mem_place e c rfl room
  · rw [zc', zc]; rfl
  · rw [mm', mm]; rfl
  · rw [fu', fu]; rfl

end Sys2Proof.Machine
end

section
/-! PROOFS. Discarded records, the own bay's record, sending, and the trunk's timers: O24, O25, O26, O41. -/
namespace Sys2Proof.Machine

/-! ### Outcomes (R142) -/

/-- The bad outcomes of the window after one more outcome. -/
def badAfter (good : Bool) (b : Blocks) : Nat :=
  (good :: b.ti.outcomes.take 63).countP fun x => !x

/-- What entering an outcome can do: the window alone, or the window and a change of the receive state,
announced by LINK. -/
theorem Blocks.outcome_cases (e : Env) (good : Bool) (b : Blocks) :
    let c := b.modTI fun t => { t with outcomes := good :: t.outcomes.take 63 }
    (b.ti.receive = .good ∧ 8 ≤ badAfter good b ∧
      b.outcome e good = (c.setFlag .link).announceLink e .degraded) ∨
    (b.ti.receive = .degraded ∧ badAfter good b ≤ 4 ∧
      b.outcome e good = c.announceLink e .good) ∨
    (((b.ti.receive = .good ∧ ¬ 8 ≤ badAfter good b) ∨
      (b.ti.receive = .degraded ∧ ¬ badAfter good b ≤ 4)) ∧ b.outcome e good = c) := by
  unfold outcome
  dsimp only
  split
  next hr =>
    split
    next hb => exact .inl ⟨hr, hb, rfl⟩
    next hb => exact .inr (.inr ⟨.inl ⟨hr, hb⟩, rfl⟩)
  next hr =>
    split
    next hb => exact .inr (.inl ⟨hr, hb, rfl⟩)
    next hb => exact .inr (.inr ⟨.inr ⟨hr, hb⟩, rfl⟩)

theorem Blocks.announceLink_ti (e : Env) (x : LinkState) (b : Blocks) :
    (b.announceLink e x).ti =
      { b.ti with receive := x, queue := (b.announceLink e x).ti.queue } := by
  unfold announceLink
  exact (place_frame e _ _).2.2.2.2.2.2.2.2.2

/-- The Trunk Interface after an outcome: the window, the receive state, and perhaps a LINK. -/
theorem Blocks.outcome_ti (e : Env) (good : Bool) (b : Blocks) :
    (b.outcome e good).ti = { b.ti with
      outcomes := good :: b.ti.outcomes.take 63
      receive := if b.ti.receive = .good then
          (if 8 ≤ badAfter good b then .degraded else .good)
        else if badAfter good b ≤ 4 then .good else .degraded
      queue := (b.outcome e good).ti.queue } := by
  rcases b.outcome_cases e good with ⟨hr, hb, h⟩ | ⟨hr, hb, h⟩ | ⟨⟨hr, hb⟩ | ⟨hr, hb⟩, h⟩ <;>
    rw [h]
  · rw [announceLink_ti, if_pos hr, if_pos hb]
    rfl
  · rw [announceLink_ti, hr, if_neg nofun, if_pos hb]
    rfl
  · simp [hr, hb]
  · simp [hr, hb]

theorem Blocks.outcome_agenda (e : Env) (good : Bool) (b : Blocks) :
    (b.outcome e good).agenda = b.agenda := by
  rcases b.outcome_cases e good with ⟨-, -, h⟩ | ⟨-, -, h⟩ | ⟨-, h⟩ <;> rw [h]
  · exact place_agenda e _ _
  · exact place_agenda e _ _
  · rfl

theorem Blocks.counter_outcome {e : Env} {good : Bool} {b : Blocks} {j : Counter}
    (hj : j.index ≠ Counter.overflows.index) : (b.outcome e good).counter j = b.counter j := by
  rcases b.outcome_cases e good with ⟨-, -, h⟩ | ⟨-, -, h⟩ | ⟨-, h⟩ <;> rw [h]
  · exact counter_place _ hj
  · exact counter_place _ hj
  · rfl

/-! ### Discarded records (R131 to R133, R142) -/

/-- Settles O25. -/
theorem discardedRecordsEnterWindow : Obligations.DiscardedRecordsEnterWindow := by
  intro s c k hrun hs hck
  have ran : exec c s = .next (s.run fun e b => b.discard e k) ∧ k.index ∉ passCounters := by
    simp only [List.mem_cons, Prod.mk.injEq, List.not_mem_nil, or_false] at hck
    rcases hck with ⟨rfl, rfl⟩ | ⟨rfl, rfl⟩ | ⟨rfl, rfl⟩ | ⟨rfl, rfl⟩
    all_goals exact ⟨rfl, by decide⟩
  obtain ⟨ran, not_pass⟩ := ran
  have effect : s.b.quiet.discard s.env k = (s.b.quiet.bump k).outcome s.env false := by
    unfold Blocks.discard
    exact if_pos hrun
  have none_due : (s.b.quiet.discard s.env k).agenda = Agenda.none := by
    rw [effect, Blocks.outcome_agenda]
    exact hs.2.1
  have calm := State.run_calm (f := fun e b => b.discard e k) hs.2 (by rw [none_due]; rfl)
  obtain ⟨zc, si, mm, du, -⟩ := State.run_frame (f := fun e b => b.discard e k) hs.2 none_due
  obtain ⟨zc', si', mm', du', pd', fu', -⟩ := (s.b.quiet.bump k).outcome_frame s.env false
  have ti := calm.ti
  have raised : (s.b.quiet.discard s.env k).counter k = sat32 (s.b.counter k + 1) := by
    rw [effect, Blocks.counter_outcome fun h => not_pass (by rw [h]; decide)]
    exact Blocks.counter_bump_self (hs.1.2.2.2.2.2.2.1 ▸ Counter.index_lt k)
  rw [effect] at zc si mm du ti
  rw [Blocks.outcome_ti] at ti
  refine ⟨_, ran, (calm.counter k not_pass).trans raised, ?_, ?_, ?_, ?_, rfl,
    ⟨zc.trans zc', si.trans si', mm.trans mm'⟩, ?_, ?_, ?_⟩
  · rw [ti]; rfl
  · rw [ti]; rfl
  · rw [ti]; rfl
  · rw [ti]; rfl
  · rw [SameBooks, du, du']
    exact ⟨rfl, rfl, rfl, rfl, rfl⟩
  · rw [calm.pd, effect, pd']; rfl
  · rw [calm.fu, effect, fu']; rfl

/-! ### The own bay's record (R134) -/

/-- Whatever record bears the own bay's number, a node that receives takes it as its own bay's. -/
theorem exec_ownBay {s : State} {c : Instr} (hrun : s.cl.node.running = true)
    (hc : c = .duplicateBay ∨ c = .otherBayRecord s.cl.cfg.bay ∨
      ∃ body, bodyInRange body = true ∧ c = Heard.ofBody s.cl.cfg.bay body) :
    exec c s = .next s.heardOwn := by
  have heard (cl : CL) (inRange : Bool) (act : Env → Blocks → Blocks) (h : inRange = true) :
      s.heardAs cl s.cl.cfg.bay inRange act = s.heardOwn := by
    unfold State.heardAs
    rw [if_neg (by simp [hrun]), if_neg (by simp [h]), if_pos rfl]
  rcases hc with rfl | rfl | ⟨body, hb, rfl⟩
  · rfl
  · exact congrArg _ (heard _ _ _ rfl)
  · cases body <;> exact congrArg _ (heard _ _ _ hb)

/-- In a node that does not send no record joins the queue. -/
theorem Blocks.place_of_not_active {e : Env} (b : Blocks) (r : Record) (h : e.node.active = false) :
    b.place e r = b := by
  unfold place
  rw [if_pos (by simp [h])]

theorem Blocks.outcome_queue_of_not_active {e : Env} (good : Bool) (b : Blocks)
    (h : e.node.active = false) : (b.outcome e good).ti.queue = b.ti.queue := by
  rcases b.outcome_cases e good with ⟨-, -, ho⟩ | ⟨-, -, ho⟩ | ⟨-, ho⟩ <;> rw [ho]
  · unfold announceLink toAll
    rw [place_of_not_active _ _ h]
    rfl
  · unfold announceLink toAll
    rw [place_of_not_active _ _ h]
    rfl
  · rfl

/-- In a node that does not send, and where nothing is left to do, the end of a command leaves the Transmit
Queue alone. -/
theorem Blocks.settle_queue_of_not_active {e : Env} (b before : Blocks) (h : e.node.active = false)
    (ha : b.agenda = Agenda.none) : (b.settle e before).ti.queue = b.ti.queue := by
  unfold settle
  rw [b.passes_of_none e ha, supplyWatch_ti, trunkUpkeep_queue]
  unfold holdUpkeep
  rw [if_pos (by simp [h])]

/-- What the own bay's number makes of an active node's blocks. -/
def haltOwn (e : Env) (b : Blocks) : Blocks :=
  let b := (b.bump .received).outcome e true
  { b with
    ti := { b.ti with queue := [], line := none }
    zc := { b.zc with census := none } }

theorem State.heardOwn_of_active {s : State} (h : s.cl.node.active = true) :
    s.heardOwn = s.runAs { s.cl with node := .haltedDuplicate, listenEnd := none } haltOwn :=
  if_pos h

/-- What the own bay's number makes of the blocks of a node that has halted. -/
def noteOwn (e : Env) (b : Blocks) : Blocks :=
  if e.node.running then (b.bump .received).outcome e true else b

theorem State.heardOwn_of_not_active {s : State} (h : s.cl.node.active = false) :
    s.heardOwn = s.run noteOwn :=
  if_neg (by simp [h])

theorem noteOwn_eq {e : Env} (b : Blocks) (h : e.node = .haltedDuplicate) :
    noteOwn e b = (b.bump .received).outcome e true := by
  unfold noteOwn
  rw [h]
  rfl

theorem NodeState.running_of_active {n : NodeState} (h : n.active = true) : n.running = true := by
  cases n <;> simp_all [NodeState.active, NodeState.running]

/-- Settles O26. -/
theorem ownBayRecordHalts : Obligations.OwnBayRecordHalts := by
  intro s c hr hc
  refine ⟨fun ha => ?_, fun hn => ?_⟩
  · have ran := exec_ownBay (NodeState.running_of_active ha) hc
    rw [State.heardOwn_of_active ha] at ran
    let e : Env := { now := s.now, node := .haltedDuplicate, cfg := s.cl.cfg }
    have settled : (s.runAs { s.cl with node := .haltedDuplicate, listenEnd := none } haltOwn).b =
        (haltOwn e s.b.quiet).settle e s.b := State.runAs_rested hr _ _
    obtain ⟨zc', si', mm', du', pd', fu', -⟩ := (s.b.quiet.bump .received).outcome_frame e true
    have none_due : (haltOwn e s.b.quiet).agenda = Agenda.none :=
      (Blocks.outcome_agenda e true (s.b.quiet.bump .received)).trans hr.1
    obtain ⟨zc, si, mm, pd, fu, -, -, du⟩ := Blocks.settle_frame e (haltOwn e s.b.quiet) s.b none_due
    have calm : Calm e (haltOwn e s.b.quiet) ((haltOwn e s.b.quiet).settle e s.b) :=
      Calm.refl.settle (Blocks.followPhase_of_not_follow (by rw [none_due]; rfl))
    refine ⟨_, ran, rfl, rfl, ?_, ?_, fun r => Blocks.place_of_not_active _ r rfl, ?_, ?_, ?_, ?_, ?_,
      ?_, ?_⟩
    all_goals rw [settled]
    · exact Blocks.settle_queue_of_not_active _ _ rfl none_due
    · rw [calm.ti]; rfl
    · exact mm.trans mm'
    · exact si.trans si'
    · rw [zc]
      show ((s.b.quiet.bump .received).outcome e true).zc.roster = _
      rw [zc']
      rfl
    · rw [zc]
      show ((s.b.quiet.bump .received).outcome e true).zc.inbound = _
      rw [zc']
      rfl
    · have books : (haltOwn e s.b.quiet).du = s.b.du := du'
      rw [SameBooks, du, books]
      exact ⟨rfl, rfl, rfl, rfl, rfl⟩
    · exact pd.trans pd'
    · exact fu.trans fu'
  · have running : s.cl.node.running = true := by rw [hn]; rfl
    have inactive : s.cl.node.active = false := by rw [hn]; rfl
    have ran := exec_ownBay running hc
    rw [State.heardOwn_of_not_active inactive] at ran
    have settled := State.run_rested hr noteOwn
    rw [noteOwn_eq _ hn] at settled
    obtain ⟨zc', si', mm', du', pd', fu', -⟩ := (s.b.quiet.bump .received).outcome_frame s.env true
    have none_due : ((s.b.quiet.bump .received).outcome s.env true).agenda = Agenda.none :=
      (Blocks.outcome_agenda s.env true (s.b.quiet.bump .received)).trans hr.1
    obtain ⟨zc, si, mm, pd, fu, -, -, du⟩ := Blocks.settle_frame s.env _ s.b none_due
    have calm : Calm s.env _ (((s.b.quiet.bump .received).outcome s.env true).settle s.env s.b) :=
      Calm.refl.settle (Blocks.followPhase_of_not_follow (by rw [none_due]; rfl))
    refine ⟨_, ran, rfl, ?_, ?_, ⟨?_, ?_, ?_⟩, ?_, ?_, ?_⟩
    all_goals rw [settled]
    · rw [Blocks.settle_queue_of_not_active _ _ inactive none_due,
        Blocks.outcome_queue_of_not_active _ _ inactive]
      rfl
    · rw [calm.ti, Blocks.outcome_ti]; rfl
    · exact zc.trans zc'
    · exact si.trans si'
    · exact mm.trans mm'
    · rw [SameBooks, du, du']
      exact ⟨rfl, rfl, rfl, rfl, rfl⟩
    · exact pd.trans pd'
    · exact fu.trans fu'

end Sys2Proof.Machine
end

section
/-! PROOFS. Sending (O24). -/
namespace Sys2Proof.Machine

/-! ### The records other than HOLDs (R136, R141) -/

/-- The waiting records that are no HOLDs. -/
def TI.others (t : TI) : List Record := t.queue.filter fun x => !x.isHold

theorem filter_insertBy {lt : α → α → Bool} {p : α → Bool} {x : α} (hp : p x = false) (l : List α) :
    (insertBy lt x l).filter p = l.filter p := by
  induction l with
  | nil => simp [insertBy, hp]
  | cons y l ih =>
    unfold insertBy
    split
    · simp [hp]
    · rw [List.filter_cons, List.filter_cons, ih]

theorem filter_requeue {p : Record → Bool} {r : Record} (hp : p r = false) (q : List Record) :
    (requeue r q).filter p = q.filter p := by
  induction q with
  | nil => simp [requeue, hp]
  | cons x q ih =>
    unfold requeue
    split
    · simp [hp]
    · rw [List.filter_cons, List.filter_cons, ih]

theorem isHold_hold (d : Nat) : Record.isHold ⟨none, .hold d⟩ = true := by
  unfold Record.isHold
  rcases Nat.eq_zero_or_pos d with rfl | hd
  · rfl
  · have : isHoldQuanta ⟨none, .hold d⟩ = true := isHoldQuanta_iff.2 ⟨d, by omega, rfl⟩
    simp [this]

/-- Placing a HOLD leaves the other records alone. -/
theorem Blocks.others_toAll_hold (e : Env) (b : Blocks) (d : Nat) :
    (b.toAll e (.hold d)).ti.others = b.ti.others := by
  unfold toAll
  rcases b.place_cases e ⟨none, .hold d⟩ with ⟨-, h⟩ | ⟨-, hr, h⟩ | ⟨-, -, -, h⟩ | ⟨-, -, -, h⟩ <;> rw [h]
  · obtain ⟨x, -, hx⟩ := List.any_eq_true.1 hr
    simp [replaces, isStatus, isLink, kindCode] at hx
  · rfl
  · exact filter_insertBy (by simp [isHold_hold]) _

theorem others_withdraw {p : Record → Bool} (hp : ∀ x, p x = true → x.isHold = true) (q : List Record) :
    (q.filter fun x => !p x).filter (fun x => !x.isHold) = q.filter fun x => !x.isHold := by
  rw [List.filter_filter]
  refine List.filter_congr fun x _ => ?_
  cases hx : p x with
  | true => simp [hp x hx]
  | false => simp

theorem Blocks.others_holdUpkeep (e : Env) (half : Bool) (b : Blocks) :
    (b.holdUpkeep e half).ti.others = b.ti.others := by
  have zero (x : Record) (h : isHoldZero x = true) : x.isHold = true := by simp [Record.isHold, h]
  have quanta (x : Record) (h : isHoldQuanta x = true) : x.isHold = true := by simp [Record.isHold, h]
  unfold holdUpkeep
  split
  · rfl
  · split
    · dsimp only
      split
      · unfold placeHold
        split
        · exact others_withdraw zero _
        · exact (others_toAll_hold e _ _).trans (others_withdraw zero _)
      · exact others_withdraw zero _
    · dsimp only
      split
      · exact (others_toAll_hold e _ _).trans (others_withdraw quanta _)
      · exact others_withdraw quanta _

theorem Blocks.settle_queue {e : Env} {b : Blocks} (before : Blocks) (ha : b.agenda = Agenda.none) :
    (b.settle e before).ti.queue = (b.holdUpkeep e false).ti.queue := by
  unfold settle
  rw [b.passes_of_none e ha, supplyWatch_ti, trunkUpkeep_queue]

theorem Blocks.others_settle {e : Env} {b : Blocks} (before : Blocks) (ha : b.agenda = Agenda.none) :
    (b.settle e before).ti.others = b.ti.others := by
  unfold TI.others
  rw [settle_queue before ha]
  exact others_holdUpkeep e false b

/-! ### A HOLD that comes back (R141) -/

/-- A HOLD that is placed waits, where there is room for it. -/
theorem Blocks.any_toAll_hold {e : Env} {b : Blocks} {d : Nat} {p : Record → Bool}
    (ha : e.node.active = true) (hc : b.ti.count < Config.queueSize)
    (hp : p ⟨none, .hold d⟩ = true) : (b.toAll e (.hold d)).ti.queue.any p = true :=
  List.any_eq_true.2 ⟨_, b.mem_place e ha hc, hp⟩

theorem any_filter_not (p : Record → Bool) (q : List Record) : (q.filter fun r => !p r).any p = false :=
  any_eq_false_of_countP (countP_filter_not p q)

theorem length_filter_lt_of_any {p : Record → Bool} {q : List Record} (h : q.any p = true) :
    (q.filter fun r => !p r).length < q.length := by
  obtain ⟨x, hx, hpx⟩ := List.any_eq_true.1 h
  refine Nat.lt_of_le_of_ne (List.length_filter_le _ _) fun he => ?_
  have := List.length_filter_eq_length_iff.1 he x hx
  simp [hpx] at this

theorem isHoldZero_eq_false_of_quanta {r : Record} (h : isHoldQuanta r = true) :
    isHoldZero r = false := by
  obtain ⟨d, hd, hb⟩ := isHoldQuanta_iff.1 h
  simp [isHoldZero, hb, hd]

theorem isHoldQuanta_eq_false_of_zero {r : Record} (h : isHoldZero r = true) :
    isHoldQuanta r = false := by
  simp [isHoldQuanta, isHoldZero_iff.1 h]

/-- With a cause, the upkeep withdraws the HOLD of 0; a HOLD that waited stays, and one is placed for
one that was withdrawn. -/
theorem Blocks.holdUpkeep_of_cause {e : Env} {b : Blocks} (ha : e.node.active = true)
    (hq : 1 ≤ e.cfg.quanta) (hl : b.ti.line = none) (hc : b.ti.queue.length ≤ Config.queueSize)
    (hcause : b.holdCause e = true) :
    (b.holdUpkeep e false).ti.queue.any isHoldZero = false ∧
    (∀ r ∈ b.ti.queue, isHoldQuanta r = true → r ∈ (b.holdUpkeep e false).ti.queue) ∧
    (b.ti.queue.any isHoldZero = true → (b.holdUpkeep e false).ti.queue.any isHoldQuanta = true) := by
  have quanta : isHoldQuanta ⟨none, .hold e.cfg.quanta⟩ = true :=
    isHoldQuanta_iff.2 ⟨_, by omega, rfl⟩
  have not_zero : isHoldZero ⟨none, .hold e.cfg.quanta⟩ = false := isHoldZero_eq_false_of_quanta quanta
  let w := b.modTI fun t => { t with queue := t.queue.filter fun r => !isHoldZero r }
  have stays (r : Record) (hr : r ∈ b.ti.queue) (hrq : isHoldQuanta r = true) : r ∈ w.ti.queue :=
    List.mem_filter.2 ⟨hr, by simp [isHoldZero_eq_false_of_quanta hrq]⟩
  have no_zero : w.ti.queue.any isHoldZero = false := any_filter_not _ _
  have joins (r : Record) (hr : r ∈ w.ti.queue) : r ∈ (w.toAll e (.hold e.cfg.quanta)).ti.queue :=
    w.mem_place_of_mem e (by simp [replaces, isStatus, isLink, kindCode]) hr
  unfold holdUpkeep
  rw [if_neg (by simp [ha]), if_pos hcause]
  dsimp only
  split
  next hdue =>
    unfold placeHold
    split
    next hw =>
      refine ⟨no_zero, stays, fun _ => ?_⟩
      have line : w.ti.line = none := hl
      have hw : w.ti.holds isHoldQuanta = true := hw
      simp only [TI.holds, line, Option.any_none, Bool.or_false] at hw
      exact hw
    next hw =>
      refine ⟨any_eq_false_of_countP ((w.countP_toAll_hold e _ not_zero).trans (countP_filter_not _ _)),
        fun r hr hrq => joins r (stays r hr hrq), fun hz => any_toAll_hold ha ?_ quanta⟩
      have shorter := length_filter_lt_of_any hz
      have line : w.ti.line = none := hl
      show w.ti.count < _
      simp only [TI.count, line, Option.isSome_none, Bool.false_eq_true, if_false, Nat.add_zero]
      exact Nat.lt_of_lt_of_le shorter hc
  next hnot =>
    refine ⟨no_zero, stays, fun hz => ?_⟩
    simp [hz] at hnot

/-- Without a cause, the upkeep withdraws the HOLD; the HOLD of 0 stays, and one is placed where the node
holds and none waits. -/
theorem Blocks.holdUpkeep_of_no_cause {e : Env} {b : Blocks} (ha : e.node.active = true)
    (hl : b.ti.line = none) (hc : b.ti.queue.length ≤ Config.queueSize)
    (hcause : b.holdCause e = false) :
    (b.holdUpkeep e false).ti.queue.any isHoldQuanta = false ∧
    (∀ r ∈ b.ti.queue, isHoldZero r = true → r ∈ (b.holdUpkeep e false).ti.queue) ∧
    (b.ti.queue.any isHoldQuanta = true → (b.holdUpkeep e false).ti.queue.any isHoldZero =
      (b.ti.holding || b.ti.queue.any isHoldZero)) := by
  have zero : isHoldZero ⟨none, .hold 0⟩ = true := rfl
  have not_quanta : isHoldQuanta ⟨none, .hold 0⟩ = false := rfl
  let w := b.modTI fun t => { t with queue := t.queue.filter fun r => !isHoldQuanta r }
  have stays (r : Record) (hr : r ∈ b.ti.queue) (hrz : isHoldZero r = true) : r ∈ w.ti.queue :=
    List.mem_filter.2 ⟨hr, by simp [isHoldQuanta_eq_false_of_zero hrz]⟩
  have no_quanta : w.ti.queue.any isHoldQuanta = false := any_filter_not _ _
  have line : w.ti.line = none := hl
  have same : w.ti.queue.any isHoldZero = b.ti.queue.any isHoldZero := by
    rw [Bool.eq_iff_iff, List.any_eq_true, List.any_eq_true]
    exact ⟨fun ⟨r, hr, hz⟩ => ⟨r, (List.mem_filter.1 hr).1, hz⟩, fun ⟨r, hr, hz⟩ => ⟨r, stays r hr hz, hz⟩⟩
  have holds : w.ti.holds isHoldZero = b.ti.queue.any isHoldZero := by simp [TI.holds, line, same]
  have joins (r : Record) (hr : r ∈ w.ti.queue) : r ∈ (w.toAll e (.hold 0)).ti.queue :=
    w.mem_place_of_mem e (by simp [replaces, isStatus, isLink, kindCode]) hr
  unfold holdUpkeep
  rw [if_neg (by simp [ha]), if_neg (by simp [hcause])]
  dsimp only
  split
  next hdue =>
    have hdue : (b.ti.holding && !w.ti.holds isHoldZero) = true := hdue
    rw [holds, Bool.and_eq_true, Bool.not_eq_true'] at hdue
    refine ⟨any_eq_false_of_countP ((w.countP_toAll_hold e _ not_quanta).trans (countP_filter_not _ _)),
      fun r hr hrz => joins r (stays r hr hrz), fun hz => ?_⟩
    rw [hdue.1, Bool.true_or]
    refine any_toAll_hold ha ?_ zero
    have shorter := length_filter_lt_of_any hz
    show w.ti.count < _
    simp only [TI.count, line, Option.isSome_none, Bool.false_eq_true, if_false, Nat.add_zero]
    exact Nat.lt_of_lt_of_le shorter hc
  next hnot =>
    have hnot : ¬ (b.ti.holding && !w.ti.holds isHoldZero) = true := hnot
    rw [holds] at hnot
    refine ⟨no_quanta, stays, fun _ => same.trans ?_⟩
    cases hh : b.ti.holding with
    | false => simp
    | true =>
      rw [hh] at hnot
      simpa using hnot

/-! ### The transmit commands (R129, R130, R136, R144) -/

/-- A transmit command changes the Trunk Interface and counters alone; nothing is left to do. -/
structure TransmitRan (f : TI → TI) (s t : State) : Prop where
  bay : SameBay s.b t.b
  books : SameBooks s.b t.b
  ti : t.b.ti = { f s.b.ti with queue := t.b.ti.queue, buffered := t.b.ti.buffered }
  queue : ∀ r ∈ (f s.b.ti).queue, r.isHold = false → r ∈ t.b.ti.queue
  others : t.b.ti.others = (f s.b.ti).others
  upkeep : ∃ d : Blocks, d.ti = f s.b.ti ∧ d.holdCause s.env = s.b.holdCause s.env ∧
    t.b.ti.queue = (d.holdUpkeep s.env false).ti.queue

/-- The effect of a transmit command on the blocks, which counts at most. -/
structure TransmitEffect (f : TI → TI) (b c : Blocks) : Prop where
  ti : c.ti = f b.ti
  zc : c.zc = b.zc
  si : c.si = b.si
  mm : c.mm = b.mm
  du : c.du = b.du
  fu : c.fu = b.fu
  agenda : c.agenda = b.agenda

theorem TransmitEffect.ran {f : TI → TI} {s : State} {g : Env → Blocks → Blocks} (hr : s.rested)
    (h : TransmitEffect f s.b (g s.env s.b.quiet)) : TransmitRan f s (s.run g) := by
  have none_due : (g s.env s.b.quiet).agenda = Agenda.none := h.agenda.trans hr.1
  have calm := State.run_calm (f := g) hr (by rw [none_due]; rfl)
  obtain ⟨zc, si, mm, du, -⟩ := State.run_frame (f := g) hr none_due
  have settled := State.run_rested hr g
  refine ⟨⟨zc.trans h.zc, si.trans h.si, mm.trans h.mm⟩, ?_, ?_, ?_, ?_, g s.env s.b.quiet, h.ti, ?_, ?_⟩
  · rw [SameBooks, du, h.du]
    exact ⟨rfl, rfl, rfl, rfl, rfl⟩
  · have ti := calm.ti
    rwa [h.ti] at ti
  · rw [← h.ti]
    exact calm.queue
  · rw [settled, ← h.ti]
    exact Blocks.others_settle s.b none_due
  · unfold Blocks.holdCause Blocks.freeSlots
    rw [h.zc, h.fu]
  · rw [settled]
    exact Blocks.settle_queue s.b none_due

/-- A record of the line, and what its return leaves of the queue. -/
theorem returnLine_of_replaced {t : TI} {r : Record} (hl : t.line = some r)
    (hr : t.queue.any (replaces r) = true) : t.returnLine = { t with line := none } := by
  unfold TI.returnLine
  rw [hl]
  simp [hr]

theorem returnLine_of_fresh {t : TI} {r : Record} (hl : t.line = some r)
    (hr : t.queue.any (replaces r) = false) :
    t.returnLine = { t with line := none, queue := requeue r t.queue } := by
  unfold TI.returnLine
  rw [hl]
  simp [hr]

theorem TI.returnLine_line (t : TI) : t.returnLine.line = none := by
  unfold TI.returnLine
  split
  · assumption
  · rfl

theorem TI.countFailure_keeps (t : TI) : t.countFailure =
    { t with
      failures := min (t.failures + 1) 16
      mute := t.mute || decide (15 ≤ t.failures)
      muteHeard := t.countFailure.muteHeard } := by
  have full : (min (t.failures + 1) 16 = 16) ↔ 15 ≤ t.failures := by omega
  unfold TI.countFailure
  dsimp only
  split
  next h => simp [full.1 h.1]
  next h =>
    have mute : t.mute = (t.mute || decide (15 ≤ t.failures)) := by
      cases hm : t.mute with
      | true => rfl
      | false => simpa [full, hm] using h
    rw [← mute]

theorem ran_arbitrationLost {s : State} (hr : s.rested) :
    TransmitRan TI.returnLine s (s.run fun _ b => b.modTI TI.returnLine) :=
  TransmitEffect.ran hr ⟨rfl, rfl, rfl, rfl, rfl, rfl, rfl⟩

/-- What TRANSMIT_FAILURE makes of the blocks while a record is on the line. -/
theorem ran_transmitFailure {s : State} {r : Record} (hr : s.rested) (hl : s.b.ti.line = some r) :
    ∃ t, exec .transmitFailure s = .next t ∧
      TransmitRan (fun t => t.returnLine.countFailure) s t ∧
      (s.WellSized → Raised .transmitFailures s t) := by
  let g : Env → Blocks → Blocks := fun _ b =>
    if b.ti.line.isSome then (b.modTI fun t => t.returnLine.countFailure).bump .transmitFailures
    else b
  have effect : g s.env s.b.quiet =
      (s.b.quiet.modTI fun t => t.returnLine.countFailure).bump .transmitFailures := by
    unfold g
    rw [if_pos (by rw [show s.b.quiet.ti.line = some r from hl]; rfl)]
  have ran : TransmitEffect (fun t => t.returnLine.countFailure) s.b (g s.env s.b.quiet) := by
    rw [effect]
    exact ⟨rfl, rfl, rfl, rfl, rfl, rfl, rfl⟩
  have calm := State.run_calm (f := g) hr (by rw [ran.agenda, hr.1]; rfl)
  refine ⟨_, rfl, TransmitEffect.ran hr ran, fun hs => ?_⟩
  have counted : (g s.env s.b.quiet).counter .transmitFailures =
      sat32 (s.b.counter .transmitFailures + 1) := by
    rw [effect]
    exact Blocks.counter_bump_self (hs.1.2.2.2.2.2.2.1 ▸ Counter.index_lt _)
  exact (calm.counter _ (by decide)).trans counted

/-- Both ways in which a record comes back from the line. -/
theorem answers_comeBack {s : State} {r : Record} (hr : s.rested) (hl : s.b.ti.line = some r)
    {c : Instr} (hc : c ∈ [Instr.arbitrationLost, .transmitFailure]) :
    ∃ t f, exec c s = .next t ∧ TransmitRan f s t ∧
      (f s.b.ti).queue = s.b.ti.returnLine.queue ∧ (f s.b.ti).line = none ∧
      (f s.b.ti).holdingUntil = s.b.ti.returnLine.holdingUntil := by
  simp only [List.mem_cons, List.not_mem_nil, or_false] at hc
  rcases hc with rfl | rfl
  · exact ⟨_, _, rfl, ran_arbitrationLost hr, rfl, TI.returnLine_line _, rfl⟩
  · obtain ⟨t, ran, effect, -⟩ := ran_transmitFailure hr hl
    refine ⟨t, _, ran, effect, TI.countFailure_queue _,
      (TI.countFailure_line _).trans (TI.returnLine_line _), ?_⟩
    rw [TI.countFailure_keeps]

end Sys2Proof.Machine
end

section
/-! PROOFS. The transmit cycle (O24). -/
namespace Sys2Proof.Machine

/-! ### Sending the head record, and a record sent to its last bit (R130, R136, R141) -/

theorem startHead_eq {t : TI} {r : Record} {q : List Record} (hm : t.mute = false)
    (hl : t.line = none) (hq : t.queue = r :: q) :
    t.startHead = { t with queue := q, line := some r } := by
  unfold TI.startHead
  rw [hq]
  simp [hm, hl]

theorem answers_transmitStart {s : State} {r : Record} {q : List Record} (hr : s.rested)
    (ha : s.cl.node.active = true) (hm : s.b.ti.mute = false) (hl : s.b.ti.line = none)
    (hq : s.b.ti.queue = r :: q) : Answers .transmitStart s fun t =>
      t.b.ti.line = some r ∧
      t.b.ti.queue.filter (fun x => !x.isHold) = q.filter (fun x => !x.isHold) ∧
      t.b.ti.failures = s.b.ti.failures ∧ SameBay s.b t.b ∧ SameBooks s.b t.b := by
  have effect : TransmitEffect TI.startHead s.b
      (if s.env.node.active then s.b.quiet.modTI TI.startHead else s.b.quiet) := by
    rw [if_pos (show s.env.node.active = true from ha)]
    exact ⟨rfl, rfl, rfl, rfl, rfl, rfl, rfl⟩
  have ran := TransmitEffect.ran (g := fun e b => if e.node.active then b.modTI TI.startHead else b)
    hr effect
  obtain ⟨bay, books, ti, -, others, -⟩ := ran
  rw [startHead_eq hm hl hq] at ti others
  refine ⟨_, rfl, ?_, others, ?_, bay, books⟩
  · rw [ti]
  · rw [ti]

theorem sentHold_holdingUntil (now : Time) (r : Record) (t : TI) :
    (t.sentHold now r).holdingUntil = (match r.body with
      | .hold 0 => none
      | .hold d => some (after now (d * 100))
      | _ => t.holdingUntil) := by
  unfold TI.sentHold
  cases r.body with
  | hold d => cases d <;> rfl
  | _ => rfl

theorem sentHold_failures (now : Time) (r : Record) (t : TI) :
    (t.sentHold now r).failures = t.failures := by
  unfold TI.sentHold
  split <;> rfl

theorem answers_recordSent {s : State} {r : Record} (hs : s.WellSized) (hl : s.b.ti.line = some r) :
    Answers .recordSent s fun t =>
      t.b.ti.line = none ∧ t.b.ti.failures = 0 ∧ Raised .sent s t ∧
      t.b.ti.holdingUntil = (match r.body with
        | .hold 0 => none
        | .hold d => some (after s.now (d * 100))
        | _ => s.b.ti.holdingUntil) ∧
      SameBay s.b t.b ∧ SameBooks s.b t.b := by
  let f : TI → TI := fun t => ({ t with line := none, failures := 0 } : TI).sentHold s.now r
  let g : Env → Blocks → Blocks := fun e b =>
    match b.ti.line with
    | none => b
    | some r =>
      (b.modTI fun t => ({ t with line := none, failures := 0 } : TI).sentHold e.now r).bump .sent
  have effect : g s.env s.b.quiet = (s.b.quiet.modTI f).bump .sent := by
    unfold g
    rw [show s.b.quiet.ti.line = some r from hl]
    rfl
  have ran : TransmitEffect f s.b (g s.env s.b.quiet) := by
    rw [effect]
    exact ⟨rfl, rfl, rfl, rfl, rfl, rfl, rfl⟩
  have calm := State.run_calm (f := g) hs.2 (by rw [ran.agenda, hs.2.1]; rfl)
  have counted : (g s.env s.b.quiet).counter .sent = sat32 (s.b.counter .sent + 1) := by
    rw [effect]
    exact Blocks.counter_bump_self (hs.1.2.2.2.2.2.2.1 ▸ Counter.index_lt _)
  obtain ⟨bay, books, ti, -⟩ := TransmitEffect.ran hs.2 ran
  refine ⟨s.run g, rfl, ?_, ?_, (calm.counter _ (by decide)).trans counted, ?_, bay, books⟩
  · rw [ti]
    exact TI.sentHold_line _ _ _
  · rw [ti]
    exact sentHold_failures _ _ _
  · rw [ti]
    exact sentHold_holdingUntil _ _ _

/-! ### Coming back from the line (R129, R130, R137, R141) -/

theorem replaces_of_isHold {r : Record} (h : r.isHold = true) (x : Record) : replaces r x = false := by
  cases hx : replaces r x with
  | false => rfl
  | true =>
    have := (replaces_kind hx).2.2.1
    rw [h] at this
    cases this

/-- A HOLD comes back to a node that sends, and waits again as its condition has it. -/
theorem answers_holdComesBack {s : State} {r : Record} (hs : s.rested) (hl : s.b.ti.line = some r)
    (hr : r.isHold = true) (once : s.HoldsOnce) (ordered : s.b.ti.Ordered) {c : Instr}
    (hc : c ∈ [Instr.arbitrationLost, .transmitFailure]) : Answers c s fun t =>
      t.b.ti.line = none ∧
      t.b.ti.queue.filter (fun x => !x.isHold) = s.b.ti.queue.filter (fun x => !x.isHold) ∧
      (s.b.holdCause s.env = true → t.b.ti.queue.any isHoldZero = false ∧
        t.b.ti.queue.any isHoldQuanta = true ∧ (isHoldQuanta r = true → t.queued r)) ∧
      (s.b.holdCause s.env = false → t.b.ti.queue.any isHoldQuanta = false ∧
        (isHoldZero r = true → t.queued r) ∧
        (isHoldQuanta r = true → t.b.ti.queue.any isHoldZero =
          (s.b.ti.holding || s.b.ti.queue.any isHoldZero))) := by
  obtain ⟨t, f, ran, effect, queue, line, holding⟩ := answers_comeBack hs hl hc
  have fresh : s.b.ti.queue.any (replaces r) = false :=
    List.any_eq_false.2 fun x _ => by simp [replaces_of_isHold hr]
  rw [returnLine_of_fresh hl fresh] at queue holding
  have hp := requeue_perm r s.b.ti.queue
  have active : s.cl.node.active = true := by
    by_contra hn
    have := (once.2.2.2.2 (by simpa using hn)).2
    rw [hl] at this
    cases this
  have quanta_pos : 1 ≤ s.cl.cfg.quanta := once.2.2.2.1 active
  obtain ⟨-, -, ti, -, others, d, d_ti, cause, upkept⟩ := effect
  have d_line : d.ti.line = none := by rw [d_ti, line]
  have d_queue : d.ti.queue = requeue r s.b.ti.queue := by rw [d_ti, queue]
  have d_holding : d.ti.holding = s.b.ti.holding := by
    unfold TI.holding
    rw [d_ti, holding]
  have room : d.ti.queue.length ≤ Config.queueSize := by
    have bound := ordered.1
    rw [d_queue, hp.length_eq]
    simpa [TI.count, hl] using bound
  have member : r ∈ d.ti.queue := by
    rw [d_queue]
    exact hp.mem_iff.2 List.mem_cons_self
  have kind : isHoldZero r = true ∨ isHoldQuanta r = true := Bool.or_eq_true_iff.1 hr
  refine ⟨t, ran, ?_, ?_, fun hcause => ?_, fun hcause => ?_⟩
  · rw [ti]
    exact line
  · have kept : t.b.ti.others = (requeue r s.b.ti.queue).filter fun x => !x.isHold := by
      rw [others, TI.others, queue]
    exact kept.trans (filter_requeue (by simp [hr]) _)
  · rw [upkept]
    obtain ⟨none_zero, stays, placed⟩ := Blocks.holdUpkeep_of_cause (e := s.env) (b := d) active quanta_pos
      d_line room (cause.trans hcause)
    refine ⟨none_zero, ?_, fun hq => ?_⟩
    · rcases kind with hz | hq
      · exact placed (List.any_eq_true.2 ⟨r, member, hz⟩)
      · exact List.any_eq_true.2 ⟨r, stays r member hq, hq⟩
    · unfold State.queued
      rw [upkept]
      exact stays r member hq
  · rw [upkept]
    obtain ⟨none_quanta, stays, placed⟩ := Blocks.holdUpkeep_of_no_cause (e := s.env) (b := d) active
      d_line room (cause.trans hcause)
    refine ⟨none_quanta, fun hz => ?_, fun hq => ?_⟩
    · unfold State.queued
      rw [upkept]
      exact stays r member hz
    · have zero_same : d.ti.queue.any isHoldZero = s.b.ti.queue.any isHoldZero := by
        rw [d_queue, any_of_perm_cons hp, isHoldZero_eq_false_of_quanta hq, Bool.false_or]
      rw [placed (List.any_eq_true.2 ⟨r, member, hq⟩), d_holding, zero_same]

/-- Settles O24. -/
theorem transmitCycle : Obligations.TransmitCycle := by
  intro s hs
  refine ⟨fun r q ha hm hl hq => answers_transmitStart hs.2 ha hm hl hq, fun r hl =>
    ⟨fun hr c hc => ?_, fun hr once ordered c hc => answers_holdComesBack hs.2 hl hr once ordered hc,
      fun hh hr => ?_, ?_, answers_recordSent hs hl⟩⟩
  · obtain ⟨t, f, ran, effect, queue, line, -⟩ := answers_comeBack hs.2 hl hc
    refine ⟨t, ran, ?_, ?_⟩
    · rw [effect.ti]
      exact line
    · have kept := effect.others
      rw [TI.others, TI.others, queue, returnLine_of_replaced hl hr] at kept
      exact kept
  · have effect := ran_arbitrationLost hs.2
    have member : r ∈ s.b.ti.returnLine.queue := by
      rw [returnLine_of_fresh hl hr]
      exact (requeue_perm _ _).mem_iff.2 List.mem_cons_self
    refine ⟨_, rfl, ?_, effect.queue r member hh, ?_, ?_, effect.bay, effect.books⟩
    · rw [effect.ti]
      exact TI.returnLine_line _
    all_goals
      rw [effect.ti, returnLine_of_fresh hl hr]
  · obtain ⟨t, ran, effect, raised⟩ := ran_transmitFailure hs.2 hl
    have ti := effect.ti
    dsimp only at ti
    rw [TI.countFailure_keeps] at ti
    have failures : s.b.ti.returnLine.failures = s.b.ti.failures := by
      unfold TI.returnLine
      split <;> rfl
    have mute : s.b.ti.returnLine.mute = s.b.ti.mute := by
      unfold TI.returnLine
      split <;> rfl
    refine ⟨t, ran, ?_, ?_, ?_, fun hh hr => ?_, raised hs, effect.bay, effect.books⟩
    · rw [ti]
      exact TI.returnLine_line _
    · rw [ti, failures]
    · rw [ti, failures, mute]
    · have member : r ∈ (s.b.ti.returnLine.countFailure).queue := by
        rw [TI.countFailure_queue, returnLine_of_fresh hl hr]
        exact (requeue_perm _ _).mem_iff.2 List.mem_cons_self
      exact effect.queue r member hh

end Sys2Proof.Machine
end

section
/-! PROOFS. The trunk's timers: O41. -/
namespace Sys2Proof.Machine

/-- Blocks that differ in trunk, peers, counters and flags alone. -/
structure SameWork (b c : Blocks) : Prop where
  zc : c.zc = b.zc
  si : c.si = b.si
  mm : c.mm = b.mm
  du : c.du = b.du
  fu : c.fu = b.fu
  out : c.out = b.out
  agenda : c.agenda = b.agenda

namespace SameWork

theorem refl {b : Blocks} : SameWork b b := ⟨rfl, rfl, rfl, rfl, rfl, rfl, rfl⟩

theorem trans {b c d : Blocks} (h : SameWork b c) (h' : SameWork c d) : SameWork b d :=
  ⟨h'.zc.trans h.zc, h'.si.trans h.si, h'.mm.trans h.mm, h'.du.trans h.du, h'.fu.trans h.fu,
    h'.out.trans h.out, h'.agenda.trans h.agenda⟩

theorem modTI {b : Blocks} (f : TI → TI) : SameWork b (b.modTI f) := ⟨rfl, rfl, rfl, rfl, rfl, rfl, rfl⟩

theorem place (e : Env) (b : Blocks) (r : Record) : SameWork b (b.place e r) := by
  obtain ⟨zc, si, mm, du, -, fu, out, agenda, -, -⟩ := b.place_frame e r
  exact ⟨zc, si, mm, du, fu, out, agenda⟩

theorem bumpBy (b : Blocks) (k : Counter) (n : Nat) : SameWork b (b.bumpBy k n) :=
  ⟨rfl, rfl, rfl, rfl, rfl, rfl, rfl⟩

theorem holdUpkeep (e : Env) (half : Bool) (b : Blocks) : SameWork b (b.holdUpkeep e half) := by
  obtain ⟨zc, si, mm, du, -, fu, out, agenda⟩ := b.holdUpkeep_frame e half
  exact ⟨zc, si, mm, du, fu, out, agenda⟩

/-- The occupancy and the recovery state, on which a hold cause rests, are the same. -/
theorem holdCause {b c : Blocks} (h : SameWork b c) (e : Env) : c.holdCause e = b.holdCause e := by
  unfold Blocks.holdCause Blocks.freeSlots
  rw [h.zc, h.fu]

/-- A command with such an effect leaves the bay's work and the books alone. -/
theorem ran {s : State} {g : Env → Blocks → Blocks} (hr : s.rested)
    (h : SameWork s.b.quiet (g s.env s.b.quiet)) :
    SameBay s.b (s.run g).b ∧ SameBooks s.b (s.run g).b ∧ (s.run g).b.fu = s.b.fu ∧
      (s.run g).b.out = Out.none ∧ Calm s.env (g s.env s.b.quiet) (s.run g).b := by
  have none_due : (g s.env s.b.quiet).agenda = Agenda.none := h.agenda.trans hr.1
  have calm := State.run_calm (f := g) hr (by rw [none_due]; rfl)
  obtain ⟨zc, si, mm, du, out⟩ := State.run_frame (f := g) hr none_due
  refine ⟨⟨zc.trans h.zc, si.trans h.si, mm.trans h.mm⟩, ?_, calm.fu.trans h.fu, out.trans h.out, calm⟩
  rw [SameBooks, du, h.du]
  exact ⟨rfl, rfl, rfl, rfl, rfl⟩

end SameWork

/-! ### The renewal of a HOLD (R141) -/

/-- With a cause, the upkeep leaves a HOLD that waits. -/
theorem Blocks.mem_holdUpkeep {e : Env} {b : Blocks} {half : Bool} {r : Record}
    (hcause : b.holdCause e = true) (hr : r ∈ b.ti.queue) (hq : isHoldQuanta r = true) :
    r ∈ (b.holdUpkeep e half).ti.queue := by
  have stays : r ∈ (b.modTI fun t => { t with queue := t.queue.filter fun r => !isHoldZero r }).ti.queue :=
    List.mem_filter.2 ⟨hr, by simp [isHoldZero_eq_false_of_quanta hq]⟩
  unfold holdUpkeep
  split
  · exact hr
  · dsimp only
    split
    · unfold placeHold
      split
      · exact stays
      · exact Blocks.mem_place_of_mem e _ (by simp [replaces, isStatus, isLink, kindCode]) stays
    · exact stays

/-- With a cause and less than half of the duration left, a node that sends renews its HOLD. -/
theorem Blocks.holdUpkeep_renews {e : Env} {b : Blocks} {half : Bool} (ha : e.node.active = true)
    (hcause : b.holdCause e = true) (hn : b.ti.holds isHoldQuanta = false)
    (hc : b.ti.count < Config.queueSize)
    (hlow : 2 * b.holdLeft e < (e.cfg.quanta * 100 : Nat) ∨
      (half = true ∧ 2 * b.holdLeft e ≤ (e.cfg.quanta * 100 : Nat))) :
    ⟨none, .hold e.cfg.quanta⟩ ∈ (b.holdUpkeep e half).ti.queue := by
  let w := b.modTI fun t => { t with queue := t.queue.filter fun r => !isHoldZero r }
  have no_hold : w.ti.holds isHoldQuanta = false := by
    obtain ⟨queue, line⟩ := Bool.or_eq_false_iff.1 hn
    refine Bool.or_eq_false_iff.2 ⟨List.any_eq_false.2 fun r hr => ?_, line⟩
    exact List.any_eq_false.1 queue r (List.mem_filter.1 hr).1
  have room : w.ti.count < Config.queueSize :=
    Nat.lt_of_le_of_lt (Nat.add_le_add_right (List.length_filter_le _ _) _) hc
  have low : (decide (2 * w.holdLeft e < (e.cfg.quanta * 100 : Nat)) ||
      (half && decide (2 * w.holdLeft e ≤ (e.cfg.quanta * 100 : Nat)))) = true := by
    rw [Bool.or_eq_true, Bool.and_eq_true, decide_eq_true_iff, decide_eq_true_iff]
    exact hlow
  have placed : b.holdUpkeep e half = w.placeHold e := by
    unfold holdUpkeep
    rw [if_neg (by simp [ha]), if_pos hcause]
    exact if_pos (Bool.or_eq_true_iff.2 (.inr low))
  rw [placed]
  unfold placeHold
  rw [if_neg (by simp [no_hold])]
  exact w.mem_place e ha room

/-! ### The commands of the timers (R139 to R141) -/

theorem answers_statusTimer {s : State} (hr : s.rested) (ha : s.cl.node.active = true)
    (hp : passed s.now s.b.ti.statusDue 0 = true) (hroom : s.roomFor 1) :
    Answers .statusTimer s fun t =>
      (∃ st, t.queued { dest := none, body := .status st } ∧
        st.period = s.b.ti.buffered / 100 ∧ st.recovery = s.b.fu.recovery ∧
        st.link = s.b.ti.receive ∧ st.idle = s.b.idleCount) ∧
      t.b.ti.interval = s.b.ti.buffered ∧
      t.b.ti.statusDue = after s.now s.b.ti.buffered ∧ SameBay s.b t.b ∧ SameBooks s.b t.b ∧
      t.b.pd = s.b.pd := by
  let g : Env → Blocks → Blocks := fun e b =>
    if e.node.active ∧ passed e.now b.ti.statusDue 0 then b.sendStatus e else b
  have effect : g s.env s.b.quiet = s.b.quiet.sendStatus s.env := if_pos ⟨ha, hp⟩
  let r : Record := ⟨none, .status (s.b.quiet.statusBody s.env)⟩
  have work : SameWork s.b.quiet (g s.env s.b.quiet) := by
    rw [effect]
    exact (SameWork.place s.env s.b.quiet r).trans (SameWork.modTI _)
  obtain ⟨bay, books, -, -, calm⟩ := work.ran hr
  rw [effect] at calm
  obtain ⟨-, -, -, -, pd, -, -, -, -, placed_ti⟩ := s.b.quiet.place_frame s.env r
  have ti := calm.ti
  have sent : (s.b.quiet.sendStatus s.env).ti =
      { (s.b.quiet.place s.env r).ti with
        interval := (s.b.quiet.place s.env r).ti.buffered
        statusDue := after s.now (s.b.quiet.place s.env r).ti.buffered } := rfl
  rw [sent, placed_ti] at ti
  refine ⟨s.run g, rfl, ⟨s.b.quiet.statusBody s.env, ?_, rfl, rfl, rfl, rfl⟩, ?_, ?_, bay, books,
    calm.pd.trans pd⟩
  · exact calm.queue r (s.b.quiet.mem_place s.env ha (Nat.lt_of_succ_le hroom)) rfl
  · rw [ti]; rfl
  · rw [ti]; rfl

theorem answers_holdHalfElapsed {s : State} {u : Time} (hr : s.rested) (ha : s.cl.node.active = true)
    (hcause : s.b.holdCause s.env = true) (hu : s.b.ti.holdingUntil = some u)
    (hhalf : 2 * since u s.now ≤ (s.cl.cfg.quanta * 100 : Nat)) (hq : 1 ≤ s.cl.cfg.quanta)
    (hn : s.b.ti.holds isHoldQuanta = false) (hroom : s.roomFor 1) :
    Answers .holdHalfElapsed s fun t =>
      t.queued { dest := none, body := .hold s.cl.cfg.quanta } ∧
      t.b.ti.holdingUntil = some u ∧ SameBay s.b t.b ∧ SameBooks s.b t.b ∧ t.b.pd = s.b.pd := by
  let g : Env → Blocks → Blocks := fun e b =>
    if 2 * b.holdLeft e = (e.cfg.quanta * 100 : Nat) then b.holdUpkeep e true else b
  have left : s.b.quiet.holdLeft s.env = since u s.now := by
    unfold Blocks.holdLeft
    rw [show s.b.quiet.ti.holdingUntil = some u from hu]
    rfl
  have half : 2 * s.b.quiet.holdLeft s.env ≤ (s.env.cfg.quanta * 100 : Nat) := left ▸ hhalf
  have quanta : isHoldQuanta ⟨none, .hold s.cl.cfg.quanta⟩ = true :=
    isHoldQuanta_iff.2 ⟨_, by omega, rfl⟩
  have work : SameWork s.b.quiet (g s.env s.b.quiet) := by
    unfold g
    split
    · exact SameWork.holdUpkeep _ _ _
    · exact SameWork.refl
  have cause : (g s.env s.b.quiet).holdCause s.env = true := (work.holdCause s.env).trans hcause
  obtain ⟨bay, books, -, -, calm⟩ := work.ran hr
  have kept : (g s.env s.b.quiet).pd = s.b.pd ∧
      (g s.env s.b.quiet).ti.holdingUntil = s.b.ti.holdingUntil := by
    unfold g
    split
    · have upkept := (Calm.refl (e := s.env) (b := s.b.quiet)).holdUpkeep (half := true)
      exact ⟨upkept.pd, by rw [upkept.ti]; rfl⟩
    · exact ⟨rfl, rfl⟩
  refine ⟨s.run g, rfl, ?_, ?_, bay, books, calm.pd.trans kept.1⟩
  · unfold State.queued
    rw [State.run_rested hr, Blocks.settle_queue s.b (work.agenda.trans hr.1)]
    by_cases hexact : 2 * s.b.quiet.holdLeft s.env = (s.env.cfg.quanta * 100 : Nat)
    · refine Blocks.mem_holdUpkeep cause ?_ quanta
      rw [show g s.env s.b.quiet = s.b.quiet.holdUpkeep s.env true from if_pos hexact]
      exact Blocks.holdUpkeep_renews ha hcause hn hroom (.inr ⟨rfl, half⟩)
    · rw [show g s.env s.b.quiet = s.b.quiet from if_neg hexact]
      exact Blocks.holdUpkeep_renews ha hcause hn hroom (.inl (lt_of_le_of_ne half hexact))
  · rw [calm.ti]
    exact kept.2.trans hu

theorem answers_holdDurationEnd {s : State} {u : Time} (hr : s.rested)
    (hu : s.b.ti.holdingUntil = some u) (hp : passed s.now u 0 = true) :
    Answers .holdDurationEnd s fun t =>
      t.b.ti.holdingUntil = none ∧ SameBay s.b t.b ∧ SameBooks s.b t.b ∧ t.b.pd = s.b.pd := by
  let g : Env → Blocks → Blocks := fun e b =>
    if b.ti.holdingUntil.any fun t => passed e.now t 0 then
      b.modTI fun t => { t with holdingUntil := none }
    else b
  have effect : g s.env s.b.quiet = s.b.quiet.modTI fun t => { t with holdingUntil := none } := by
    refine if_pos ?_
    rw [show s.b.quiet.ti.holdingUntil = some u from hu]
    exact hp
  have work : SameWork s.b.quiet (g s.env s.b.quiet) := by
    rw [effect]
    exact SameWork.modTI _
  obtain ⟨bay, books, -, -, calm⟩ := work.ran hr
  rw [effect] at calm
  refine ⟨s.run g, rfl, ?_, bay, books, calm.pd⟩
  rw [calm.ti]
  rfl

/-- Settles O41. -/
theorem statusAndHoldTimers : Obligations.StatusAndHoldTimers := fun _ hr =>
  ⟨fun ha hp hroom => answers_statusTimer hr ha hp hroom,
    fun _ ha hcause hu hhalf hq hn hroom => answers_holdHalfElapsed hr ha hcause hu hhalf hq hn hroom,
    fun _ hu hp => answers_holdDurationEnd hr hu hp⟩

end Sys2Proof.Machine
end

section
/-! PROOFS. What any well-formed record does before its owner acts (R135, R142, R148): while its sender is
PRESENT and the link is up, it counts, restarts the silence watch, and touches no block's work. -/
namespace Sys2Proof.Machine

/-! ### What rests on the bay's work alone -/

namespace SameWork
variable {b c : Blocks}

theorem vehicles (h : SameWork b c) : c.vehicles = b.vehicles := by
  unfold Blocks.vehicles
  rw [h.zc]

theorem vehicle? (h : SameWork b c) (id : Nat) : c.vehicle? id = b.vehicle? id := by
  unfold Blocks.vehicle?
  rw [h.vehicles]

theorem inbound? (h : SameWork b c) (id : Nat) : c.inbound? id = b.inbound? id := by
  unfold Blocks.inbound?
  rw [h.zc]

theorem known (h : SameWork b c) (id : Nat) : c.known id = b.known id := by
  unfold Blocks.known Blocks.onRoster
  rw [h.vehicle?, h.inbound?]

theorem room (h : SameWork b c) : c.room = b.room := by
  unfold Blocks.room Blocks.places
  rw [h.zc, h.du]

theorem moveList (h : SameWork b c) : c.moveList = b.moveList := by
  unfold Blocks.moveList
  rw [h.mm]

theorem move? (h : SameWork b c) (tag : Tag) : c.move? tag = b.move? tag := by
  unfold Blocks.move?
  rw [h.moveList]

theorem candidateMoves (h : SameWork b c) : c.candidateMoves = b.candidateMoves := by
  unfold Blocks.candidateMoves
  rw [h.moveList]

theorem stationList (h : SameWork b c) : c.stationList = b.stationList := by
  unfold Blocks.stationList
  rw [h.si]

theorem station? (h : SameWork b c) (n : Nat) : c.station? n = b.station? n := by
  unfold Blocks.station?
  rw [h.stationList]

theorem sourceSeg (h : SameWork b c) (m : Move) : c.sourceSeg m = b.sourceSeg m := by
  unfold Blocks.sourceSeg
  rw [h.station?]

theorem candidates (h : SameWork b c) : c.candidates = b.candidates := by
  unfold Blocks.candidates Blocks.candidate Blocks.bidNames
  rw [h.vehicles, h.du]

theorem idleCount (h : SameWork b c) : c.idleCount = b.idleCount := by
  unfold Blocks.idleCount
  rw [h.candidates]

theorem estimate (h : SameWork b c) (e : Env) (skip : Option Nat) (park i : Nat) (g : Goal) :
    c.estimate e skip park i g = b.estimate e skip park i g := by
  have cost : c.cost = b.cost := by
    unfold Blocks.cost Blocks.seg?
    rw [h.zc]
  have countOn : c.countOn = b.countOn := by
    unfold Blocks.countOn
    rw [h.vehicles]
  unfold Blocks.estimate
  rw [cost, countOn]

theorem estimateOf (h : SameWork b c) (e : Env) (v : Vehicle) (g : Goal) :
    c.estimateOf e v g = b.estimateOf e v g := by
  unfold Blocks.estimateOf
  rw [h.estimate]

theorem exitEta (h : SameWork b c) (e : Env) (v : Vehicle) : c.exitEta e v = b.exitEta e v := by
  unfold Blocks.exitEta
  rw [h.estimateOf]

theorem rank (h : SameWork b c) (e : Env) (vs : List Vehicle) (g : Goal) :
    c.rank e vs g = b.rank e vs g := by
  unfold Blocks.rank
  simp only [h.estimateOf]

theorem callState (h : SameWork b c) (x : CallEntry) : c.callState x = b.callState x := by
  unfold Blocks.callState
  rw [h.move?]

theorem awardedCall (h : SameWork b c) (k : Nat) (id : Id8) : c.awardedCall k id = b.awardedCall k id := by
  unfold Blocks.awardedCall
  simp only [h.callState, h.du]

theorem acceptedMove (h : SameWork b c) (id : Id8) (v : Nat) : c.acceptedMove id v = b.acceptedMove id v := by
  unfold Blocks.acceptedMove
  rw [h.moveList]

end SameWork

/-- A counter that an effect raises last stands so after its command. -/
theorem Calm.raised {s t : State} {e : Env} {d : Blocks} {k : Counter} (calm : Calm e (d.bump k) t.b)
    (hs : s.Sized) (hk : k.index ∉ passCounters) (hc : d.counter k = s.b.counter k)
    (hw : d.sp.counters.length = s.b.sp.counters.length) : Raised k s t := by
  obtain ⟨-, -, -, -, -, -, width, -⟩ := hs
  rw [Raised, calm.counter k hk, Blocks.counter_bump_self, hc]
  rw [hw, width]
  exact Counter.index_lt k

/-! ### A record heard (R135, R142, R143, R148) -/

/-- What TI and the Peer Directory make of a well-formed record from bay `k`, before its owner acts. -/
def Blocks.greet (e : Env) (k : Bay) (b : Blocks) : Blocks := (b.heard e).refresh e k

/-- What greeting a PRESENT peer leaves, while the link is up. -/
structure Greeted (e : Env) (k : Nat) (b c : Blocks) : Prop where
  work : SameWork b c
  ti : c.ti = { b.ti with
    queue := c.ti.queue, outcomes := c.ti.outcomes, receive := c.ti.receive, heardAt := e.now }
  count : c.ti.count ≤ b.ti.count + 1
  peer : ∀ j, c.peer j = if j = k then { b.peer j with lastHeard := some e.now } else b.peer j
  counter : ∀ j : Counter, j.index ≠ Counter.received.index → j.index ≠ Counter.overflows.index →
    c.counter j = b.counter j
  width : c.sp.counters.length = b.sp.counters.length

/-- A record placed adds one to the queue at most. -/
theorem Blocks.count_place (e : Env) (b : Blocks) (r : Record) :
    (b.place e r).ti.count ≤ b.ti.count + 1 := by
  rcases b.place_cases e r with ⟨-, h⟩ | ⟨-, -, h⟩ | ⟨-, -, -, h⟩ | ⟨-, -, -, h⟩ <;> rw [h]
  · exact Nat.le_succ _
  · simp only [TI.count, modTI_ti, List.length_map]
    exact Nat.le_succ _
  · exact Nat.le_succ _
  · simp only [TI.count, modTI_ti, enqueue, length_insertBy]
    exact le_of_eq (Nat.succ_add _ _)

theorem Blocks.counters_length_place (e : Env) (b : Blocks) (r : Record) :
    (b.place e r).sp.counters.length = b.sp.counters.length := by
  rcases b.place_cases e r with ⟨-, h⟩ | ⟨-, -, h⟩ | ⟨-, -, -, h⟩ | ⟨-, -, -, h⟩ <;> rw [h]
  · rfl
  · rw [(Blocks.setFlag_frame _ _).2.2.2.2.2.2.2.2.1]
    exact length_counters_bumpBy _ _ _
  · rfl

theorem Blocks.count_outcome (e : Env) (good : Bool) (b : Blocks) :
    (b.outcome e good).ti.count ≤ b.ti.count + 1 ∧
      (b.outcome e good).sp.counters.length = b.sp.counters.length := by
  rcases b.outcome_cases e good with ⟨-, -, h⟩ | ⟨-, -, h⟩ | ⟨-, h⟩ <;> rw [h]
  · exact ⟨count_place e _ _, counters_length_place e _ _⟩
  · exact ⟨count_place e _ _, counters_length_place e _ _⟩
  · exact ⟨Nat.le_succ _, rfl⟩

/-- An up link hears a record without an occasion for a call pass. -/
theorem Blocks.heard_of_linkUp {e : Env} {b : Blocks} (h : b.ti.linkUp = true) :
    b.heard e = ((b.bump .received).outcome e true).modTI fun t =>
      { t with heardAt := e.now, lost := false } := by
  have up : b.ti.lost = false ∧ b.ti.mute = false := by simpa [TI.linkUp] using h
  have ti := (b.bump .received).outcome_ti e true
  have lost : ((b.bump .received).outcome e true).ti.lost = false := by
    rw [ti]
    exact up.1
  have mute : ((b.bump .received).outcome e true).ti.mute = false := by
    rw [ti]
    exact up.2
  unfold heard
  simp only [lost, Bool.false_eq_true, if_false, modTI_ti, mute]

theorem Greeted.heard {e : Env} {b : Blocks} (h : b.ti.linkUp = true) :
    SameWork b (b.heard e) ∧ (b.heard e).pd = b.pd ∧
      (b.heard e).ti = { b.ti with
        queue := (b.heard e).ti.queue, outcomes := (b.heard e).ti.outcomes
        receive := (b.heard e).ti.receive, heardAt := e.now } ∧
      (b.heard e).ti.count ≤ b.ti.count + 1 ∧
      (∀ j : Counter, j.index ≠ Counter.received.index → j.index ≠ Counter.overflows.index →
        (b.heard e).counter j = b.counter j) ∧
      (b.heard e).sp.counters.length = b.sp.counters.length := by
  have lost : b.ti.lost = false := by
    have up : b.ti.lost = false ∧ b.ti.mute = false := by simpa [TI.linkUp] using h
    exact up.1
  obtain ⟨zc, si, mm, du, pd, fu, -⟩ := (b.bump .received).outcome_frame e true
  have out : ((b.bump .received).outcome e true).out = b.out := by
    rcases (b.bump .received).outcome_cases e true with ⟨-, -, h⟩ | ⟨-, -, h⟩ | ⟨-, h⟩ <;> rw [h]
    · exact Blocks.place_out e _ _
    · exact Blocks.place_out e _ _
    · rfl
  obtain ⟨count, width⟩ := (b.bump .received).count_outcome e true
  rw [Blocks.heard_of_linkUp h]
  refine ⟨⟨zc, si, mm, du, fu, out, Blocks.outcome_agenda e true (b.bump .received)⟩, pd, ?_, count,
    fun j hr ho => ?_, width.trans (Blocks.length_counters_bumpBy _ _ _)⟩
  · rw [Blocks.modTI_ti, Blocks.outcome_ti, ← lost]
    rfl
  · exact (Blocks.counter_outcome ho).trans (Blocks.counter_bump_of_ne hr)

theorem Greeted.greet {e : Env} {k : Bay} {b : Blocks} (h : b.ti.linkUp = true)
    (hp : (b.peer k.val).presence = .present) (hk : k.val < b.pd.peers.length) :
    Greeted e k.val b (b.greet e k) := by
  obtain ⟨work, pd, ti, count, counter, width⟩ := Greeted.heard (e := e) h
  have refreshed : b.greet e k = (b.heard e).modPeer k.val fun x => { x with lastHeard := some e.now } := by
    unfold Blocks.greet Blocks.refresh Blocks.peer
    rw [pd]
    exact if_pos hp
  rw [refreshed]
  have hk' : k.val < (b.heard e).pd.peers.length := pd ▸ hk
  have peer (j : Nat) : (b.heard e).peer j = b.peer j := by
    unfold Blocks.peer
    rw [pd]
  refine ⟨⟨work.zc, work.si, work.mm, work.du, work.fu, work.out, work.agenda⟩, ti, count,
    fun j => ?_, counter, width⟩
  split
  next hj => rw [hj, Blocks.peer_modPeer _ _ _ hk', peer]
  next hj => rw [Blocks.peer_modPeer_of_ne _ _ hj, peer]

/-- A bay that is PRESENT has its entry in the table. -/
theorem Blocks.lt_of_present {b : Blocks} {k : Nat} (h : (b.peer k).presence = .present) :
    k < b.pd.peers.length := by
  by_contra hk
  have : b.pd.peers[k]? = none := List.getElem?_eq_none (Nat.le_of_not_lt hk)
  unfold Blocks.peer at h
  rw [this] at h
  exact absurd h (by decide)

theorem State.hears.greeted {s : State} {k : Bay} (h : s.hears k) :
    Greeted s.env k.val s.b.quiet (s.b.quiet.greet s.env k) := by
  obtain ⟨-, -, present, up, -⟩ := h
  exact Greeted.greet up present (Blocks.lt_of_present present)

/-- A record in range from another bay is greeted, and its owner acts. -/
theorem State.heardFrom_of_running {s : State} {k : Bay} {body : Body} {act : Env → Blocks → Blocks}
    (hrun : s.cl.node.running = true) (hk : k ≠ s.cl.cfg.bay) (hb : bodyInRange body = true) :
    s.heardFrom k body act = s.run fun e b => act e (b.greet e k) := by
  unfold State.heardFrom State.heardAs
  rw [if_neg (by simp [hrun]), if_neg (by simp [hb]), if_neg hk]
  rfl

theorem State.hears.heardFrom {s : State} {k : Bay} (h : s.hears k) {body : Body}
    {act : Env → Blocks → Blocks} (hb : bodyInRange body = true) :
    s.heardFrom k body act = s.run fun e b => act e (b.greet e k) :=
  State.heardFrom_of_running h.1 h.2.1 hb

namespace Greeted
variable {e : Env} {k : Nat} {b c : Blocks}

/-- Only when a peer was last heard has changed, and that decides no route and no cost. -/
theorem window (h : Greeted e k b c) (j : Nat) : (c.peer j).window = (b.peer j).window := by
  rw [h.peer]
  split <;> rfl

theorem sectionTime (h : Greeted e k b c) (e' : Env) (j : Nat) :
    c.sectionTime e' j = b.sectionTime e' j := by
  have same : (c.peer j).presence = (b.peer j).presence ∧
      (c.peer j).sectionTime = (b.peer j).sectionTime := by
    rw [h.peer]
    split <;> exact ⟨rfl, rfl⟩
  unfold Blocks.sectionTime
  rw [same.1, same.2]

theorem sectionSum (h : Greeted e k b c) (e' : Env) (j j' : Nat) :
    c.sectionSum e' j j' = b.sectionSum e' j j' := by
  unfold Blocks.sectionSum
  simp only [h.sectionTime]

theorem arrivalTime (h : Greeted e k b c) (e' : Env) (j eta : Nat) :
    c.arrivalTime e' j eta = b.arrivalTime e' j eta := by
  unfold Blocks.arrivalTime
  rw [h.sectionSum]

theorem remoteCost (h : Greeted e k b c) (e' : Env) (j eta seg : Nat) :
    c.remoteCost e' j eta seg = b.remoteCost e' j eta seg := by
  unfold Blocks.remoteCost
  rw [h.sectionSum, h.work.estimate]

theorem owner (h : Greeted e k b c) (e' : Env) (n : Nat) : c.owner e' n = b.owner e' n := by
  unfold Blocks.owner Peer.serves
  simp only [h.window, h.work.station?]

theorem ownsStation (h : Greeted e k b c) (e' : Env) (n : Nat) :
    c.ownsStation e' n = b.ownsStation e' n := by
  unfold Blocks.ownsStation
  rw [h.owner]

theorem linkUp (h : Greeted e k b c) : c.ti.linkUp = b.ti.linkUp := by
  rw [h.ti]
  rfl

end Greeted

end Sys2Proof.Machine
end

section
/-! PROOFS. Bids and awards between bays: O31, O33, O34, O35. -/
namespace Sys2Proof.Machine

/-! ### Releasing bids (R101, R104) -/

/-- A search for an id through a change that keeps ids. -/
theorem find?_map_id {f : Vehicle → Vehicle} (hf : ∀ v, (f v).id = v.id) (id : Nat) (l : List Vehicle) :
    (l.map f).find? (fun v => v.id == id) = (l.find? fun v => v.id == id).map f := by
  rw [List.find?_map]
  congr 2
  funext v
  rw [Function.comp_apply, hf]

/-- The entry of a vehicle once the bids `gone` are released. -/
def Vehicle.unreserve (gone : List BidEntry) (v : Vehicle) : Vehicle :=
  if gone.any (fun x => x.vehicle == v.id) then { v with reserved := false } else v

theorem Vehicle.unreserve_eq (gone : List BidEntry) (v : Vehicle) :
    v.unreserve gone = { v with reserved := (v.unreserve gone).reserved } := by
  unfold unreserve
  split <;> rfl

theorem Vehicle.unreserve_id (gone : List BidEntry) (v : Vehicle) : (v.unreserve gone).id = v.id := by
  rw [unreserve_eq]

theorem Blocks.vehicles_releaseBids (b : Blocks) (p : BidEntry → Bool) :
    (b.releaseBids p).vehicles = b.vehicles.map (Vehicle.unreserve (b.du.bids.filter p)) := by
  unfold releaseBids
  split
  next => exact live_updWhere _ _ _
  next none_gone =>
    have gone : b.du.bids.filter p = [] :=
      List.filter_eq_nil_iff.2 (by simpa using none_gone)
    rw [gone]
    exact (List.map_id'' (fun _ => rfl) _).symm

theorem Blocks.vehicle?_releaseBids (b : Blocks) (p : BidEntry → Bool) (id : Nat) :
    (b.releaseBids p).vehicle? id = (b.vehicle? id).map (Vehicle.unreserve (b.du.bids.filter p)) := by
  unfold vehicle?
  rw [vehicles_releaseBids, find?_map_id fun v => v.unreserve_id _]

/-- No entry stays reserved for a bid that is released. -/
theorem Blocks.reserved_releaseBids {b : Blocks} {p : BidEntry → Bool} {x : BidEntry}
    (hx : x ∈ b.du.bids) (hp : p x = true) {v : Vehicle}
    (hv : (b.releaseBids p).vehicle? x.vehicle = some v) : v.reserved = false := by
  rw [vehicle?_releaseBids] at hv
  obtain ⟨w, hw, rfl⟩ := Option.map_eq_some_iff.1 hv
  unfold Vehicle.unreserve
  rw [if_pos (List.any_eq_true.2 ⟨x, List.mem_filter.2 ⟨hx, hp⟩, by simp [(b.vehicle?_mem hw).2]⟩)]

theorem Blocks.releaseBids_follow (b : Blocks) (p : BidEntry → Bool) :
    (b.releaseBids p).agenda.follow = b.agenda.follow := by
  unfold releaseBids
  split <;> rfl

/-- A command that releases bids leaves them off the Bid List and their vehicles unreserved. -/
theorem State.run_releaseBids {s : State} {g : Env → Blocks → Blocks} {c : Blocks}
    {p : BidEntry → Bool} (hr : s.rested) (hc : SameWork s.b.quiet c)
    (hg : g s.env s.b.quiet = c.releaseBids p) :
    (s.run g).b.du.bids = s.b.du.bids.filter (fun y => !p y) ∧
    (∀ x ∈ s.b.du.bids, p x = true → ∀ y, (s.run g).b.vehicle? x.vehicle = some y →
      y.reserved = false) ∧
    (s.run g).b.zc.inbound = s.b.zc.inbound ∧ (s.run g).b.fu = s.b.fu ∧ (s.run g).b.pd = c.pd := by
  have follow : (g s.env s.b.quiet).agenda.follow = false := by
    rw [hg, Blocks.releaseBids_follow, hc.agenda]
    exact congrArg Agenda.follow hr.1
  have calm := State.run_calm (f := g) hr follow
  rw [hg] at calm
  obtain ⟨-, -, pd, -, fu, -, -, -, -, -, inbound, -⟩ := c.releaseBids_frame p
  refine ⟨?_, fun x hx hp y hy => ?_, ?_, ?_, calm.pd.trans pd⟩
  · rw [calm.bids, Blocks.releaseBids_bids, hc.du]
    rfl
  · rcases calm.vehicle?_cases x.vehicle with ⟨-, hn⟩ | ⟨v, v', hv, hv', passed⟩
    · rw [hn] at hy
      cases hy
    · rw [hv'] at hy
      cases hy
      rw [passed.keeps.1]
      exact Blocks.reserved_releaseBids (hc.du ▸ hx) hp hv
  · rw [calm.inbound, inbound, hc.zc]
    rfl
  · rw [calm.fu, fu, hc.fu]
    rfl

/-- Settles O33. -/
theorem bidReleasedByCancelOrHoldEnd : Obligations.BidReleasedByCancelOrHoldEnd := by
  intro s k id hr
  refine ⟨fun hk => ?_, ?_⟩
  · let act : Env → Blocks → Blocks := fun _ b => b.releaseBids (bidFor k.val id)
    have ran : exec (.cancel k id) s = .next (s.run fun e b => act e (b.greet e k)) :=
      congrArg _ (hk.heardFrom rfl)
    obtain ⟨bids, reserved, inbound, fu, -⟩ :=
      State.run_releaseBids (g := fun e b => act e (b.greet e k)) hr hk.greeted.work rfl
    exact ⟨_, ran, bids, reserved, inbound, fu, rfl⟩
  · let g : Env → Blocks → Blocks := fun e b =>
      b.releaseBids fun x => bidFor k.val id x && passed e.now x.holdEnd 0
    obtain ⟨bids, reserved, inbound, fu, pd⟩ := State.run_releaseBids (g := g) hr SameWork.refl rfl
    exact ⟨s.run g, rfl, bids, fun x hx hb hp => reserved x hx (Bool.and_eq_true_iff.2 ⟨hb, hp⟩),
      inbound, fu, pd, rfl⟩

/-! ### Bids that come in (R70, R76, R94) -/

/-- The entry of a call after its calls have been changed under their ids. -/
theorem find?_map_call {f : CallEntry → CallEntry} {id : Id8} {c : CallEntry} (hf : (f c).id = c.id)
    {l : List CallEntry} (h : l.find? (fun x => x.id == id) = some c) :
    (l.map fun x => if x.id = id then f x else x).find? (fun x => x.id == id) = some (f c) := by
  induction l with
  | nil => cases h
  | cons x l ih =>
    rw [List.map_cons]
    by_cases hx : x.id = id
    · rw [List.find?_cons_of_pos (by simpa using hx)] at h
      cases h
      rw [if_pos hx]
      exact List.find?_cons_of_pos (by simpa using hf.trans hx)
    · rw [List.find?_cons_of_neg (by simpa using hx)] at h
      rw [if_neg hx, List.find?_cons_of_neg (by simpa using hx)]
      exact ih h

theorem BestBid.before_iff (x y : BestBid) :
    x.before y = true ↔ x.cost < y.cost ∨ (x.cost = y.cost ∧ x.bay < y.bay) := by
  simp [BestBid.before, leastFirst]

/-- Settles O31. -/
theorem bidComparedWithBest : Obligations.BidComparedWithBest := by
  intro s k id vehicle eta c m hk hc hm
  let act : Env → Blocks → Blocks := fun e b => b.takeBid e k.val id vehicle eta
  have ran : exec (.bid k id vehicle eta) s = .next (s.run fun e b => act e (b.greet e k)) :=
    congrArg _ (hk.heardFrom rfl)
  have greeted := hk.greeted
  obtain ⟨-, -, -, -, hr⟩ := hk
  have call : (s.b.quiet.greet s.env k).du.calls.find? (fun x => x.id == id) = some c := by
    rw [greeted.work.du]
    exact hc
  have move : (s.b.quiet.greet s.env k).move? c.tag = some m := (greeted.work.move? c.tag).trans hm
  refine ⟨fun bid hs h1 h2 hbid => ?_, fun hs => ?_⟩
  · let f := CallEntry.take (decide (s.cl.cfg.nBays ≤ k.val)) bid
    have cost : (s.b.quiet.greet s.env k).remoteCost s.env k.val eta
        ((s.b.quiet.greet s.env k).sourceSeg m) = s.b.remoteCost s.env k.val eta (s.b.sourceSeg m) := by
      rw [greeted.remoteCost, greeted.work.sourceSeg]
      rfl
    have effect : act s.env (s.b.quiet.greet s.env k) = (s.b.quiet.greet s.env k).modCalls fun l =>
        l.map fun x => if x.id = id then f x else x := by
      unfold act Blocks.takeBid
      rw [call]
      simp only [move]
      rw [if_neg (by simp [hs]; omega), cost, ← hbid]
      rfl
    have none_due : (act s.env (s.b.quiet.greet s.env k)).agenda = Agenda.none := by
      rw [effect]
      exact greeted.work.agenda.trans hr.1
    obtain ⟨zc, si, mm, du, -⟩ := State.run_frame (f := fun e b => act e (b.greet e k)) hr none_due
    rw [effect] at zc si mm du
    refine ⟨_, ran, ⟨f c, ?_, ?_⟩, ⟨zc.trans greeted.work.zc, si.trans greeted.work.si,
      mm.trans greeted.work.mm⟩, ?_⟩
    · rw [du]
      exact find?_map_call rfl call
    · unfold f CallEntry.take
      cases c.best with
      | none => rfl
      | some old =>
        by_cases hn : k.val < s.cl.cfg.nBays
        · simp [hn, BestBid.before_iff]
        · simp [hn, Nat.le_of_not_lt hn]
    · rw [du]
      exact (congrArg DU.bids greeted.work.du :)
  · have effect : act s.env (s.b.quiet.greet s.env k) = s.b.quiet.greet s.env k := by
      unfold act Blocks.takeBid
      rw [call]
      simp only [move]
      exact if_pos hs
    obtain ⟨bay, books, -⟩ := SameWork.ran (g := fun e b => act e (b.greet e k)) hr
      (by rw [effect]; exact greeted.work)
    exact ⟨_, ran, bay, books⟩

/-! ### An award that fails (R97) -/

/-- What the end of an award leaves of its move: WAITING with the retry count raised, or taken up by a
pass since. -/
theorem State.run_awardFailed {s : State} {g : Env → Blocks → Blocks} {b : Blocks} {c : CallEntry}
    {m : Move} {k : Counter} (hs : s.WellSized) (hb : SameWork s.b.quiet b)
    (hcount : b.counter k = s.b.counter k ∧ b.sp.counters.length = s.b.sp.counters.length)
    (hk : k.index ∉ passCounters) (hg : g s.env s.b.quiet = (b.awardFailed s.env c).bump k)
    (hm : s.b.move? c.tag = some m) :
    (∃ x, (s.run g).b.move? c.tag = some x ∧ x.state ≠ .awarded ∧ x.retry = min (m.retry + 1) 255 ∧
      x.terms = m.terms ∧ x.recallAt = m.recallAt) ∧
    Raised k s (s.run g) ∧ (s.run g).b.zc.inbound = s.b.zc.inbound ∧ (s.run g).b.fu = s.b.fu := by
  obtain ⟨zc, -, -, -, -, fu, sp, -⟩ := (b.removeCall c.tag).enterWaiting_frame s.env c.tag true
  have failed : (b.awardFailed s.env c).agenda.follow = false := by
    have asked : b.agenda.follow = false := by
      rw [hb.agenda]
      exact congrArg Agenda.follow hs.2.1
    unfold Blocks.awardFailed Blocks.enterWaiting
    dsimp only
    split <;> exact asked
  have calm := State.run_calm (f := g) hs.2 (by rw [hg]; exact failed)
  rw [hg] at calm
  have waiting := (b.removeCall c.tag).move?_enterWaiting s.env c.tag true
  rw [show (b.removeCall c.tag).move? c.tag = some m from (hb.move? c.tag).trans hm,
    Option.map_some] at waiting
  obtain ⟨x, hx, passed⟩ := calm.move?_some waiting
  obtain ⟨terms, retry, -, recallAt, -⟩ := passed.keeps
  refine ⟨⟨x, hx, ?_, retry, terms, recallAt⟩, ?_, ?_, ?_⟩
  · rcases passed.state_cases with state | state | state <;> rw [state] <;> simp
  · have counters : (b.awardFailed s.env c).sp.counters = b.sp.counters := congrArg SP.counters sp
    exact calm.raised hs.1 hk ((Blocks.counter_congr counters k).trans hcount.1)
      ((congrArg List.length counters).trans hcount.2)
  · rw [calm.inbound]
    exact congrArg ZC.inbound (zc.trans hb.zc)
  · rw [calm.fu]
    exact fu.trans hb.fu

/-- Settles O35. -/
theorem failedAwardReturnsMove : Obligations.FailedAwardReturnsMove := by
  intro s id c m hs hm hstate
  refine ⟨fun k vehicle r hk hc => ?_, fun hc hd => ?_⟩
  · let act : Env → Blocks → Blocks := fun e b =>
      match b.awardedCall k.val id with
      | none => b
      | some c => (b.awardFailed e c).bump (.retracts r)
    have ran : exec (.retract k id vehicle r) s = .next (s.run fun e b => act e (b.greet e k)) :=
      congrArg _ (hk.heardFrom rfl)
    have greeted := hk.greeted
    have effect : act s.env (s.b.quiet.greet s.env k) =
        ((s.b.quiet.greet s.env k).awardFailed s.env c).bump (.retracts r) := by
      unfold act
      rw [greeted.work.awardedCall, show s.b.quiet.awardedCall k.val id = some c from hc]
    have index : (Counter.retracts r).index ∉ passCounters ∧
        (Counter.retracts r).index ≠ Counter.received.index ∧
        (Counter.retracts r).index ≠ Counter.overflows.index := by
      cases r <;> decide
    obtain ⟨move, raised, inbound, fu⟩ := State.run_awardFailed (g := fun e b => act e (b.greet e k)) hs
      greeted.work ⟨greeted.counter _ index.2.1 index.2.2, greeted.width⟩ index.1 effect hm
    exact ⟨_, ran, move, raised, inbound, fu⟩
  · let g : Env → Blocks → Blocks := fun e b =>
      match b.du.calls.find? fun c => c.id == id with
      | none => b
      | some c =>
        if b.callState c = some .awarded ∧ c.awardDeadline.any fun t => passed e.now t 0 then
          (b.awardFailed e c).bump .awardUnanswered
        else b
    have effect : g s.env s.b.quiet = (s.b.quiet.awardFailed s.env c).bump .awardUnanswered := by
      unfold g
      rw [show s.b.quiet.du.calls.find? (fun x => x.id == id) = some c from hc]
      refine if_pos ⟨?_, hd⟩
      unfold Blocks.callState
      rw [show s.b.quiet.move? c.tag = some m from hm]
      exact congrArg some hstate
    obtain ⟨move, raised, inbound, fu⟩ := State.run_awardFailed (g := g) hs SameWork.refl ⟨rfl, rfl⟩
      (by decide) effect hm
    exact ⟨s.run g, rfl, move, raised, inbound, fu⟩

/-! ### A SENT that comes in (R96) -/

theorem find?_insertBy_self {α : Type} {lt : α → α → Bool} {p : α → Bool} {a : α} (ha : p a = true)
    {l : List α} (h : l.find? p = none) : (insertBy lt a l).find? p = some a := by
  induction l with
  | nil => simp [insertBy, ha]
  | cons x l ih =>
    obtain ⟨hx, hl⟩ : p x = false ∧ l.find? p = none := by
      rw [List.find?_cons] at h
      cases hx : p x with
      | true => simp [hx] at h
      | false => exact ⟨rfl, by simpa [hx] using h⟩
    unfold insertBy
    split
    · exact List.find?_cons_of_pos ha
    · rw [List.find?_cons_of_neg (by simp [hx])]
      exact ih hl

theorem find?_insertBy_of_neg {α : Type} {lt : α → α → Bool} {p : α → Bool} {a : α}
    (ha : p a = false) (l : List α) : (insertBy lt a l).find? p = l.find? p := by
  induction l with
  | nil => simp [insertBy, ha]
  | cons x l ih =>
    unfold insertBy
    split
    · exact List.find?_cons_of_neg (by simp [ha])
    · rw [List.find?_cons, List.find?_cons, ih]

theorem Blocks.inbound?_addInbound {b : Blocks} {i : Inbound} (h : b.inbound? i.vehicle = none) :
    (b.addInbound i).inbound? i.vehicle = some i := find?_insertBy_self (by simp) h

theorem Blocks.inbound?_addInbound_of_ne {b : Blocks} {i : Inbound} {v : Nat} (h : v ≠ i.vehicle) :
    (b.addInbound i).inbound? v = b.inbound? v :=
  find?_insertBy_of_neg (by simpa using Ne.symm h) _

/-- A vehicle not known stands in neither list. -/
theorem Blocks.not_known {b : Blocks} {id : Nat} (h : b.known id = false) :
    b.vehicle? id = none ∧ b.inbound? id = none := by
  simpa [known, onRoster] using h

/-- What an awarded call is: of that id, its move AWARDED. -/
theorem Blocks.awardedCall_spec {b : Blocks} {k : Nat} {id : Id8} {c : CallEntry}
    (h : b.awardedCall k id = some c) : c.id = id ∧ ∃ m, b.move? c.tag = some m ∧ m.state = .awarded := by
  have holds := List.find?_some h
  simp only [Bool.and_eq_true, beq_iff_eq] at holds
  exact ⟨holds.1.1, Option.map_eq_some_iff.1 holds.1.2⟩

/-- Settles O34. -/
theorem sentBindsAwardedMove : Obligations.SentBindsAwardedMove := by
  intro s k id vehicle eta c hk hc hknown
  let act : Env → Blocks → Blocks := fun e b => b.takeSent e k.val id vehicle eta
  have ran : exec (.sent k id vehicle eta) s = .next (s.run fun e b => act e (b.greet e k)) :=
    congrArg _ (hk.heardFrom rfl)
  have greeted := hk.greeted
  obtain ⟨-, -, -, -, hr⟩ := hk
  obtain ⟨rfl, m, hm, -⟩ := Blocks.awardedCall_spec hc
  obtain ⟨off_roster, off_list⟩ := Blocks.not_known ((greeted.work.known vehicle).trans hknown)
  have effect : act s.env (s.b.quiet.greet s.env k) =
      (s.b.quiet.greet s.env k).sentInbound s.env c k.val vehicle eta := by
    unfold act Blocks.takeSent
    rw [greeted.work.awardedCall, show s.b.quiet.awardedCall k.val c.id = some c from hc]
    simp only [off_roster, off_list, Option.isSome_none, Bool.false_eq_true, if_false]
  have none_due : (act s.env (s.b.quiet.greet s.env k)).agenda = Agenda.none := by
    rw [effect]
    exact greeted.work.agenda.trans hr.1
  obtain ⟨zc, si, mm, du, -⟩ := State.run_frame (f := fun e b => act e (b.greet e k)) hr none_due
  rw [effect] at zc si mm du
  let d := (s.b.quiet.greet s.env k).modCalls fun l => l.filter fun x => x.tag != c.tag
  let i : Inbound :=
    { loanEntry vehicle k.val c.id (d.arrivalTime s.env k.val eta) with
      kind := .emptyForMove
      tag := some c.tag }
  let bound : Move → Move := fun m => { m with state := .bound, vehicle := some vehicle, callId := none }
  let t := s.run fun e b => act e (b.greet e k)
  have inbound : t.b.inbound? vehicle = some i := by
    unfold Blocks.inbound?
    rw [zc]
    exact Blocks.inbound?_addInbound (b := d) (i := i) off_list
  have move (tag : Tag) : t.b.move? tag = ((d.addInbound i).modMove c.tag bound).move? tag := by
    unfold Blocks.move? Blocks.moveList
    rw [mm]
    rfl
  have before (tag : Tag) : (d.addInbound i).move? tag = s.b.move? tag := greeted.work.move? tag
  have arrival : d.arrivalTime s.env k.val eta = s.b.arrivalTime s.env k.val eta :=
    greeted.arrivalTime s.env k.val eta
  refine ⟨t, ran, ?_, ⟨bound m, ?_, rfl, rfl, rfl⟩, ?_, ?_, si.trans greeted.work.si, ?_, fun other ho => ?_⟩
  · rw [inbound]
    unfold i
    rw [arrival]
    rfl
  · rw [move, Blocks.move?_modMove _ _ bound fun _ => rfl, before, hm]
    rfl
  · rw [du]
    exact congrArg (fun d : DU => d.calls.filter fun x => x.tag != c.tag) greeted.work.du
  · rw [zc]
    exact (congrArg ZC.roster greeted.work.zc :)
  · rw [du]
    exact (congrArg DU.bids greeted.work.du :)
  · rw [move, Blocks.move?_modMove_of_ne _ bound (fun _ => rfl) ho, before]

end Sys2Proof.Machine
end

section
/-! PROOFS. What the Station Interface's delivery operations can do (R32 to R36): they change reservations,
the wait queue, and the jobs and delivery states of vehicles; `Delivers` says what stays through all of
them. -/
namespace Sys2Proof.Machine

/-! ### What stays of a vehicle and of a station -/

/-- A delivery operation gives a vehicle a job, and makes it LOADED or LOADED-WAIT at most. -/
def Vehicle.delivered (v v' : Vehicle) : Prop :=
  (v'.state = v.state ∨ v'.state = .loaded ∨ v'.state = .loadedWait) ∧
    v' = { v with state := v'.state, job := v'.job, echo := v'.echo, jobDone := v'.jobDone
                  given := v'.given }

/-- A delivery operation sets or drops a station's reservation, and may end a follow-on that is due. -/
def Station.delivered (s s' : Station) : Prop :=
  (s.followOnDue = false → s'.followOnDue = false) ∧
    s' = { s with reservation := s'.reservation, followOnDue := s'.followOnDue }

theorem Vehicle.delivered.refl (v : Vehicle) : v.delivered v := ⟨.inl rfl, rfl⟩
theorem Station.delivered.refl (s : Station) : s.delivered s := ⟨id, rfl⟩

theorem Vehicle.delivered.trans {v w u : Vehicle} (h : v.delivered w) (h' : w.delivered u) :
    v.delivered u := by
  refine ⟨?_, ?_⟩
  · rcases h'.1 with state | state
    · rw [state]
      exact h.1
    · exact .inr state
  · rw [h'.2, h.2]

theorem Station.delivered.trans {s t u : Station} (h : s.delivered t) (h' : t.delivered u) :
    s.delivered u := by
  refine ⟨fun hs => h'.1 (h.1 hs), ?_⟩
  rw [h'.2, h.2]

/-- What the delivery operations leave alone. -/
structure Delivers (b c : Blocks) : Prop where
  inbound : c.zc.inbound = b.zc.inbound
  segments : c.zc.segments = b.zc.segments
  mm : c.mm = b.mm
  du : c.du = b.du
  pd : c.pd = b.pd
  ti : c.ti = b.ti
  fu : c.fu = b.fu
  sp : c.sp = b.sp
  station : c.out.station = b.out.station
  service : c.out.service = b.out.service
  linkReset : c.si.linkReset = b.si.linkReset
  agenda : c.agenda = { b.agenda with park := c.agenda.park }
  vehicles : List.Forall₂ Vehicle.delivered b.vehicles c.vehicles
  stations : List.Forall₂ Station.delivered b.stationList c.stationList
  slots : List.Forall₂ (Option.Rel Station.delivered) b.si.stations c.si.stations

namespace Delivers
variable {e : Env} {b c : Blocks}

theorem refl : Delivers b b where
  inbound := rfl
  segments := rfl
  mm := rfl
  du := rfl
  pd := rfl
  ti := rfl
  fu := rfl
  sp := rfl
  station := rfl
  service := rfl
  linkReset := rfl
  agenda := rfl
  vehicles := List.forall₂_same.2 fun v _ => .refl v
  stations := List.forall₂_same.2 fun s _ => .refl s
  slots := List.forall₂_same.2 fun o _ => by
    cases o with
    | none => exact .none
    | some s => exact .some (.refl s)

theorem modStations {p : Station → Bool} {f : Station → Station} (h : Delivers b c)
    (hf : ∀ s : Station, s.delivered (f s)) : Delivers b (c.modStations (updWhere p f)) :=
  { h with
    slots := by
      show List.Forall₂ _ b.si.stations (List.map _ c.si.stations)
      rw [List.forall₂_map_right_iff]
      refine h.slots.imp fun o o' ho => ?_
      cases ho with
      | none => exact .none
      | some hs =>
        refine .some ?_
        dsimp only
        split
        · exact hs.trans (hf _)
        · exact hs
    stations := by
      rw [show (c.modStations (updWhere p f)).stationList =
        c.stationList.map fun s => if p s then f s else s from live_updWhere _ _ _,
        List.forall₂_map_right_iff]
      refine h.stations.imp fun s s' hs => ?_
      split
      · exact hs.trans (hf s')
      · exact hs }

theorem modVehicle {id : Nat} {f : Vehicle → Vehicle} (h : Delivers b c)
    (hf : ∀ v : Vehicle, v.delivered (f v)) : Delivers b (c.modVehicle id f) :=
  { h with
    vehicles := by
      rw [Blocks.vehicles_modVehicle, List.forall₂_map_right_iff]
      refine h.vehicles.imp fun v v' hv => ?_
      split
      · exact hv.trans (hf v')
      · exact hv }

theorem modWait {f : List Nat → List Nat} (h : Delivers b c) : Delivers b (c.modWait f) := { h with }

theorem wantPark (h : Delivers b c) : Delivers b c.wantPark :=
  { h with
    agenda := by
      rw [Blocks.wantPark_agenda, h.agenda] }

theorem emitZone {m : ZoneMsg} (h : Delivers b c) : Delivers b (c.emitZone m) := { h with }

/-! ### The operations (R32 to R36) -/

theorem leaveQueue {id : Nat} (h : Delivers b c) : Delivers b (c.leaveQueue id) := h.modWait

theorem setReservation {n : Nat} {tag : Option Tag} (h : Delivers b c) :
    Delivers b (c.setReservation n tag) := by
  unfold Blocks.setReservation Blocks.clearDue
  split
  · exact h
  next t =>
    exact (h.modStations (f := fun s => { s with reservation := some t }) fun s => ⟨id, rfl⟩).modStations
      fun s => ⟨fun _ => rfl, rfl⟩

theorem reserve {n : Nat} {tag : Tag} (h : Delivers b c) : Delivers b (c.reserve n tag) := by
  unfold Blocks.reserve
  split
  · exact h.setReservation
  · exact h

theorem sendGoto {id : Nat} {j : Job} (h : Delivers b c) : Delivers b (c.sendGoto e id j) := by
  have sent := (h.modVehicle (id := id) (f := Vehicle.commanded j) fun v => ⟨.inl rfl, rfl⟩).emitZone
    (m := .goto id j)
  rcases c.sendGoto_cases e id j with ⟨-, hg⟩ | ⟨-, d, rfl, hg | hg⟩ <;> rw [hg]
  · exact h
  · exact sent
  · exact sent.wantPark

theorem aimAt {id n : Nat} {j : Job} (h : Delivers b c) : Delivers b (c.aimAt e id n j) :=
  h.sendGoto.modVehicle fun _ => ⟨.inr (.inl rfl), rfl⟩

theorem giveStation {id n : Nat} {j : Job} (h : Delivers b c) : Delivers b (c.giveStation e id n j) :=
  h.leaveQueue.setReservation.aimAt.modVehicle fun _ => ⟨.inl rfl, rfl⟩

theorem offerShelf {n : Nat} (h : Delivers b c) : Delivers b (c.offerShelf e n) := by
  unfold Blocks.offerShelf
  split
  · exact h
  · split
    · split
      · exact h.giveStation
      · exact h
    · exact h

theorem dropReservation {n : Nat} (h : Delivers b c) : Delivers b (c.dropReservation e n) :=
  offerShelf (h.modStations fun _ => ⟨id, rfl⟩)

theorem foldl {α : Type} {l : List α} {f : Blocks → α → Blocks} (h : Delivers b c)
    (hf : ∀ {c : Blocks} (x : α), Delivers b c → Delivers b (f c x)) : Delivers b (l.foldl f c) := by
  induction l generalizing c with
  | nil => exact h
  | cons x l ih => exact ih (hf x h)

theorem dropDelivery {tag : Tag} (h : Delivers b c) : Delivers b (c.dropDelivery e tag) :=
  h.foldl fun _ h => h.dropReservation

theorem toWait {id seg : Nat} {j : Job} (h : Delivers b c) : Delivers b (c.toWait e id seg j) := by
  unfold Blocks.toWait
  exact (h.leaveQueue.sendGoto.modVehicle fun _ => ⟨.inr (.inr rfl), rfl⟩).modWait

theorem toShelf {v : Vehicle} {seg : Nat} {j : Job} (h : Delivers b c) :
    Delivers b (c.toShelf e v seg j) := by
  unfold Blocks.toShelf
  split
  · exact h.setReservation.aimAt
  · exact h.toWait

theorem decideDelivery {id : Nat} (h : Delivers b c) : Delivers b (c.decideDelivery e id) := by
  unfold Blocks.decideDelivery
  split
  · exact h
  · split
    · split
      · exact h
      · split
        · exact h
        · split
          · exact h.setReservation
          · dsimp only
            split
            · exact h.dropReservation.toShelf
            · exact h.toShelf
    · exact h

theorem decideIfThere {id : Nat} (h : Delivers b c) : Delivers b (c.decideIfThere e id) := by
  unfold Blocks.decideIfThere
  split
  · exact h
  · split
    · exact h.decideDelivery
    · exact h

theorem sendUnload {id n : Nat} {tag : Option Tag} {dest : Nat} (h : Delivers b c) :
    Delivers b (c.sendUnload e id n tag dest) :=
  (h.sendGoto.modVehicle fun _ => ⟨.inr (.inl rfl), rfl⟩).decideIfThere

theorem redecide {n seg : Nat} {tag : Tag} (h : Delivers b c) : Delivers b (c.redecide e n seg tag) :=
  h.foldl fun _ h => h.decideDelivery

/-! ### What is read off -/

theorem follow (h : Delivers b c) : c.agenda.follow = b.agenda.follow := by
  rw [h.agenda]

theorem counter (h : Delivers b c) (k : Counter) : c.counter k = b.counter k := by
  unfold Blocks.counter
  rw [h.sp]

theorem moveList (h : Delivers b c) : c.moveList = b.moveList := by
  unfold Blocks.moveList
  rw [h.mm]

theorem move? (h : Delivers b c) (tag : Tag) : c.move? tag = b.move? tag := by
  unfold Blocks.move?
  rw [h.moveList]

theorem vehicle?_cases (h : Delivers b c) (id : Nat) :
    (b.vehicle? id = none ∧ c.vehicle? id = none) ∨
      ∃ v v', b.vehicle? id = some v ∧ c.vehicle? id = some v' ∧ v.delivered v' :=
  find?_of_forall₂ h.vehicles fun _ _ hv => by rw [hv.2]

theorem station?_cases (h : Delivers b c) (n : Nat) :
    (b.station? n = none ∧ c.station? n = none) ∨
      ∃ s s', b.station? n = some s ∧ c.station? n = some s' ∧ s.delivered s' :=
  find?_of_forall₂ h.stations fun _ _ hs => by rw [hs.2]

/-- The station behind one that stands after a delivery operation. -/
theorem station_before (h : Delivers b c) {s' : Station} (hs : s' ∈ c.stationList) :
    ∃ s ∈ b.stationList, s.delivered s' := Calm.exists_of_mem_right h.stations hs

/-- No follow-on comes to be due. -/
theorem not_due (h : Delivers b c) (hb : ∀ x ∈ b.stationList, x.followOnDue = false) :
    ∀ x ∈ c.stationList, x.followOnDue = false := by
  intro x hx
  obtain ⟨s, hs, delivered⟩ := h.station_before hx
  exact delivered.1 (hb s hs)

end Delivers
end Sys2Proof.Machine
end

section
/-! PROOFS. The end of a command that has given occasion for one kind of pass alone. -/
namespace Sys2Proof.Machine

/-- After the passes nothing is left to do, so the end of a command is the end of what they left. -/
theorem Blocks.settle_passes (e : Env) (b before : Blocks) :
    (b.passes e).settle e before = b.settle e before := by
  unfold settle
  rw [passes_of_none e (b.passes e) rfl]

/-- Park requests send jobs, and no more. -/
theorem Delivers.parkPhase {e : Env} {b c : Blocks} (h : Delivers b c) : Delivers b (c.parkPhase e) := by
  have parkOne {c : Blocks} (v : Vehicle) (h : Delivers b c) : Delivers b (c.parkOne e v.id) := by
    unfold Blocks.parkOne
    split
    · exact h
    · split
      · split
        · exact h.sendGoto
        · exact h
      · exact h
  unfold Blocks.parkPhase Blocks.parkAll
  split
  · split
    · exact h
    · exact h.foldl parkOne
  · exact h

/-- With an occasion for park requests at most, the end of a command sends jobs alone. -/
theorem Blocks.settle_of_park (e : Env) (b before : Blocks) (hf : b.agenda.follow = false)
    (hb : b.agenda.bind = false) (hc : b.agenda.call = false) :
    (b.settle e before).mm = b.mm ∧ (b.settle e before).si.stations = (b.parkPhase e).si.stations ∧
      (b.settle e before).du = { b.du with starve := (b.settle e before).du.starve } := by
  have parked : b.passes e = { b.parkPhase e with agenda := Agenda.none } := by
    unfold passes bindPhase callPhase
    rw [followPhase_of_not_follow hf, hb]
    have call : (b.parkPhase e).agenda.call = false := by
      rw [(Delivers.refl.parkPhase (e := e) (b := b)).agenda]
      exact hc
    simp [call]
  have sent := Delivers.refl.parkPhase (e := e) (b := b)
  obtain ⟨-, si, mm, -, -, -, -, du⟩ := settle_frame e (b.passes e) before rfl
  rw [settle_passes, parked] at si mm du
  exact ⟨mm.trans sent.mm, congrArg SI.stations si, du.trans (by rw [sent.du])⟩

/-! ### Call passes (R92, R93) -/

/-- What a call pass leaves alone. -/
structure Called (b c : Blocks) : Prop where
  zc : c.zc = b.zc
  si : c.si = b.si
  bids : c.du.bids = b.du.bids
  ask : c.du.ask = b.du.ask
  askCounter : c.du.askCounter = b.du.askCounter
  starve : c.du.starve = b.du.starve

theorem Called.callPhase (e : Env) (b : Blocks) : Called b (b.callPhase e) := by
  have opened {c : Blocks} (m : Move) (h : Called b c) : Called b (c.openCall e m) := by
    obtain ⟨zc, si, mm, du, -⟩ := ((c.modMove m.tag fun x =>
      { x with state := .calling, callId := some c.nextCall }).modDU fun d =>
      { d with
        calls := d.calls ++ [{
          id := c.nextCall
          tag := m.tag
          windowEnd := after e.now e.cfg.wCall
          best := none
          bids := 0
          awardDeadline := none }]
        callCounter := c.nextCall + 1 }).place_frame e
        ⟨none, .call c.nextCall m.tag m.cls m.source (m.urgency e.now)⟩
    exact ⟨zc.trans h.zc, si.trans h.si, (congrArg DU.bids du).trans h.bids,
      (congrArg DU.ask du).trans h.ask, (congrArg DU.askCounter du).trans h.askCounter,
      (congrArg DU.starve du).trans h.starve⟩
  have folded (l : List Move) {c : Blocks} (h : Called b c) :
      Called b (l.foldl (fun b m => if b.mayCall e then b.openCall e m else b) c) := by
    induction l generalizing c with
    | nil => exact h
    | cons m l ih =>
      refine ih ?_
      dsimp only
      split
      · exact opened m h
      · exact h
  unfold Blocks.callPhase
  split
  · exact folded _ ⟨rfl, rfl, rfl, rfl, rfl, rfl⟩
  · exact ⟨rfl, rfl, rfl, rfl, rfl, rfl⟩

/-- With an occasion for a call pass at most, the passes are that one. -/
theorem Blocks.passes_of_call (e : Env) (b : Blocks) (hf : b.agenda.follow = false)
    (hb : b.agenda.bind = false) (hp : b.agenda.park = false) : Called b (b.passes e) := by
  have called : b.passes e = { b.callPhase e with agenda := Agenda.none } := by
    unfold passes bindPhase parkPhase
    rw [followPhase_of_not_follow hf]
    simp [hb, hp]
  obtain ⟨zc, si, bids, ask, askCounter, starve⟩ := Called.callPhase e b
  rw [called]
  exact ⟨zc, si, bids, ask, askCounter, starve⟩

/-- Such an end leaves the bay's tables but the moves alone. -/
theorem Blocks.settle_of_call (e : Env) (b before : Blocks) (hf : b.agenda.follow = false)
    (hb : b.agenda.bind = false) (hp : b.agenda.park = false) :
    (b.settle e before).zc = b.zc ∧ (b.settle e before).si = b.si := by
  have called := b.passes_of_call e hf hb hp
  obtain ⟨zc, si, -⟩ := settle_frame e (b.passes e) before rfl
  rw [settle_passes] at zc si
  exact ⟨zc.trans called.zc, si.trans called.si⟩

theorem Blocks.supply_congr {b c : Blocks} (hz : c.zc = b.zc) (hb : c.du.bids = b.du.bids) :
    c.supply = b.supply := by
  unfold supply idleCount candidates candidate bidNames vehicles
  rw [hz, hb]

/-- A starvation that has begun goes on while the supply is short, and ends when it is not (R106). -/
theorem Blocks.settle_starve (e : Env) (b before : Blocks) (hf : b.agenda.follow = false)
    (hb : b.agenda.bind = false) (hp : b.agenda.park = false)
    (hs : b.du.starve = if b.supply < e.cfg.fMin then some e.now else none) :
    (b.settle e before).du.starve = b.du.starve := by
  have called := b.passes_of_call e hf hb hp
  let c := (b.passes e).trunkUpkeep e
  obtain ⟨zc, -, -, du, -, -, -, -⟩ := (b.passes e).holdUpkeep_frame e false
  have upkept : c.zc = (b.passes e).zc ∧ c.du = (b.passes e).du := by
    unfold c trunkUpkeep periodUpkeep
    split <;> exact ⟨zc, du⟩
  have supply : c.supply = b.supply :=
    supply_congr (upkept.1.trans called.zc) ((congrArg DU.bids upkept.2).trans called.bids)
  have starve : c.du.starve = b.du.starve := (congrArg DU.starve upkept.2).trans called.starve
  show (c.supplyWatch e before).du.starve = _
  unfold supplyWatch
  rw [supply, starve, hs]
  by_cases short : b.supply < e.cfg.fMin
  · rw [if_neg (Nat.not_le.2 short), if_pos short, if_neg (by simp), starve, hs, if_pos short]
  · rw [if_pos (Nat.le_of_not_lt short), if_neg short]
    rfl

end Sys2Proof.Machine
end

section
/-! PROOFS. Vehicles sent out for another bay: O32. -/
namespace Sys2Proof.Machine

theorem NodeState.sends_of_active {n : NodeState} (h : n.active = true) :
    n.halted = false ∧ n ≠ .haltedDuplicate := by
  cases n <;> simp_all [NodeState.active, NodeState.halted]

/-! ### Vehicles sent out (R12) -/

/-- The entry of a vehicle that is sent out of the zone for bay `bay`. -/
def Vehicle.sentOut (tag : Option Tag) (bay : Nat) (v : Vehicle) : Vehicle :=
  Vehicle.commanded (exitJob tag none bay) { v with state := .toExit, bound := tag, clearance := true }

/-- Blocks that differ in the roster, in jobs on the zone line, and in an occasion for park requests. -/
structure RosterOnly (b c : Blocks) : Prop where
  inbound : c.zc.inbound = b.zc.inbound
  segments : c.zc.segments = b.zc.segments
  si : c.si = b.si
  mm : c.mm = b.mm
  du : c.du = b.du
  pd : c.pd = b.pd
  ti : c.ti = b.ti
  fu : c.fu = b.fu
  sp : c.sp = b.sp
  agenda : c.agenda = { b.agenda with park := c.agenda.park }

theorem RosterOnly.refl {b : Blocks} : RosterOnly b b := ⟨rfl, rfl, rfl, rfl, rfl, rfl, rfl, rfl, rfl, rfl⟩

theorem RosterOnly.trans {b c d : Blocks} (h : RosterOnly b c) (h' : RosterOnly c d) : RosterOnly b d :=
  ⟨h'.inbound.trans h.inbound, h'.segments.trans h.segments, h'.si.trans h.si, h'.mm.trans h.mm,
    h'.du.trans h.du, h'.pd.trans h.pd, h'.ti.trans h.ti, h'.fu.trans h.fu, h'.sp.trans h.sp,
    h'.agenda.trans (by rw [h.agenda])⟩

theorem RosterOnly.sendOut (e : Env) (id : Nat) (tag : Option Tag) (bay : Nat) (b : Blocks) :
    RosterOnly b (b.sendOut e id tag bay) := by
  unfold Blocks.sendOut
  rcases Blocks.sendGoto_cases e (b.modVehicle id fun v =>
    { v with state := .toExit, bound := tag, clearance := true }) id (exitJob tag none bay) with
    ⟨-, h⟩ | ⟨-, d, rfl, h | h⟩ <;> rw [h] <;>
    exact ⟨rfl, rfl, rfl, rfl, rfl, rfl, rfl, rfl, rfl, rfl⟩

theorem Blocks.vehicles_sendOut {e : Env} (hn : e.node ≠ .haltedDuplicate) (id : Nat)
    (tag : Option Tag) (bay : Nat) (b : Blocks) :
    (b.sendOut e id tag bay).vehicles =
      b.vehicles.map fun v => if v.id == id then v.sentOut tag bay else v := by
  let out : Vehicle → Vehicle := fun v => { v with state := .toExit, bound := tag, clearance := true }
  have sent : ((b.modVehicle id out).modVehicle id (Vehicle.commanded (exitJob tag none bay))).vehicles =
      b.vehicles.map fun v => if v.id == id then v.sentOut tag bay else v := by
    rw [Calm.modVehicle_modVehicle b id (f := out) fun _ => rfl, vehicles_modVehicle]
    rfl
  unfold sendOut
  rcases sendGoto_cases e (b.modVehicle id out) id (exitJob tag none bay) with
    ⟨h, -⟩ | ⟨-, d, rfl, h | h⟩
  · exact absurd h hn
  · rw [h]
    exact sent
  · rw [h]
    exact sent

/-- The vehicles of a list of ids, once each has been sent out. -/
theorem Blocks.vehicles_foldl_sendOut {e : Env} (hn : e.node ≠ .haltedDuplicate) (bay : Nat)
    (l : List (Nat × Vehicle)) (b : Blocks) :
    RosterOnly b (l.foldl (fun b x => b.sendOut e x.2.id none bay) b) ∧
    (∀ v ∈ (l.foldl (fun b x => b.sendOut e x.2.id none bay) b).vehicles,
      (∃ w : Vehicle, v = w.sentOut none bay) ∨ (v ∈ b.vehicles ∧ ∀ x ∈ l, x.2.id ≠ v.id)) ∧
    (l.foldl (fun b x => b.sendOut e x.2.id none bay) b).vehicles.map Vehicle.id =
      b.vehicles.map Vehicle.id := by
  induction l generalizing b with
  | nil => exact ⟨.refl, fun v hv => .inr ⟨hv, fun x hx => absurd hx List.not_mem_nil⟩, rfl⟩
  | cons x l ih =>
    obtain ⟨only, sent, ids⟩ := ih (b.sendOut e x.2.id none bay)
    refine ⟨(RosterOnly.sendOut e _ _ _ b).trans only, fun v hv => ?_, ids.trans ?_⟩
    · rcases sent v hv with out | ⟨mem, others⟩
      · exact .inl out
      · rw [vehicles_sendOut hn] at mem
        obtain ⟨w, hw, rfl⟩ := List.mem_map.1 mem
        by_cases hx : (w.id == x.2.id) = true
        · exact .inl ⟨w, if_pos hx⟩
        · rw [if_neg hx] at others ⊢
          refine .inr ⟨hw, fun y hy => ?_⟩
          rcases List.mem_cons.1 hy with rfl | hy
          · exact fun he => hx (by simp [he])
          · exact others y hy
    · rw [vehicles_sendOut hn, List.map_map]
      refine List.map_congr_left fun v _ => ?_
      rw [Function.comp_apply]
      split <;> rfl

/-! ### Estimates that a change of the roster leaves (R66, R67) -/

/-- An estimate rests on segments, and on the places of the vehicles alone. -/
theorem Blocks.estimateOf_congr {b c : Blocks} {f : Vehicle → Vehicle}
    (hs : c.zc.segments = b.zc.segments) (hv : c.vehicles = b.vehicles.map f)
    (hf : ∀ v, (f v).relearn = v.relearn ∧ (f v).segment = v.segment ∧ (f v).id = v.id ∧
      (f v).state = v.state) (e : Env) (v : Vehicle) (g : Goal) :
    c.estimateOf e (f v) g = b.estimateOf e v g := by
  have cost : c.cost = b.cost := by
    unfold cost seg?
    rw [hs]
  have countOn (skip : Option Nat) (path : List Nat) : c.countOn skip path = b.countOn skip path := by
    unfold countOn
    rw [hv, List.countP_map]
    congr 1
    funext u
    obtain ⟨relearn, segment, id, -⟩ := hf u
    rw [Function.comp_apply, relearn, segment, id]
  obtain ⟨relearn, segment, id, state⟩ := hf v
  unfold estimateOf estimate
  rw [relearn, segment, id, state, cost]
  simp only [countOn]

/-! ### AWARD (R103) -/

/-- Settles O32. -/
theorem awardHonoured : Obligations.AwardHonoured := by
  intro s k id winner x v hk hs hroom hw hx hv
  have greeted := hk.greeted
  obtain ⟨mem, named⟩ : x ∈ s.b.du.bids ∧ bidFor k.val id x = true :=
    ⟨List.mem_of_find?_eq_some hx, List.find?_some hx⟩
  have entry : (s.b.quiet.greet s.env k).du.bids.find? (bidFor k.val id) = some x := by
    rw [greeted.work.du]
    exact hx
  have ran (vehicle : Nat) : exec (.award k id winner vehicle) s =
      .next (s.run fun e b => (b.greet e k).takeAward e k.val id winner vehicle) :=
    congrArg _ (hk.heardFrom (by simp [bodyInRange, hw]))
  refine ⟨fun hwin ha => ?_, fun hwin vehicle => ?_⟩
  · let g : Env → Blocks → Blocks := fun e b => (b.greet e k).takeAward e k.val id winner x.vehicle
    obtain ⟨not_halted, sends⟩ := NodeState.sends_of_active ha
    let d := (s.b.quiet.greet s.env k).releaseBids (bidFor k.val id)
    let gone := (s.b.quiet.greet s.env k).du.bids.filter (bidFor k.val id)
    let w := v.unreserve gone
    have entry_w : d.vehicle? x.vehicle = some w := by
      rw [Blocks.vehicle?_releaseBids, greeted.work.vehicle?,
        show s.b.quiet.vehicle? x.vehicle = some v from hv]
      rfl
    have id_v : v.id = x.vehicle := (s.b.vehicle?_mem hv).2
    have id_w : w.id = x.vehicle := (d.vehicle?_mem entry_w).2
    have eta : d.exitEta s.env w = s.b.exitEta s.env v := by
      have same : d.estimateOf s.env w .exit = (s.b.quiet.greet s.env k).estimateOf s.env v .exit :=
        Blocks.estimateOf_congr ((s.b.quiet.greet s.env k).releaseBids_frame _).2.2.2.2.2.2.2.2.2.2.2
          (Blocks.vehicles_releaseBids _ _)
          (fun u => by rw [u.unreserve_eq]; exact ⟨rfl, rfl, rfl, rfl⟩) s.env v .exit
      unfold Blocks.exitEta
      rw [same, greeted.work.estimateOf, id_w, id_v]
      rfl
    let r : Record := ⟨some k.val, .sent id x.vehicle (s.b.exitEta s.env v)⟩
    let c := d.sendOut s.env x.vehicle (some x.tag) k.val
    have effect : g s.env s.b.quiet = (c.place s.env r).bump .bidsWon := by
      unfold g Blocks.takeAward
      rw [entry]
      simp only
      rw [if_neg (not_or.2 ⟨by rw [show s.env.node.halted = false from not_halted]; exact nofun,
        fun h => h hwin⟩), if_pos trivial]
      rw [show ((s.b.quiet.greet s.env k).releaseBids (bidFor k.val id)).vehicle? x.vehicle = some w
        from entry_w]
      unfold Blocks.honour
      show ((d.sendOut s.env w.id (some x.tag) k.val).toBay s.env k.val
        (.sent id w.id (d.exitEta s.env w))).bump .bidsWon = _
      rw [eta, id_w]
      rfl
    obtain ⟨si, mm, pd, ti, fu, sp, out, -, calls, ask, inbound, segments⟩ :=
      (s.b.quiet.greet s.env k).releaseBids_frame (bidFor k.val id)
    have only := RosterOnly.sendOut s.env x.vehicle (some x.tag) k.val d
    obtain ⟨place_zc, -, -, place_du, -, place_fu, -, place_agenda, -, -⟩ := c.place_frame s.env r
    have vehicles : (g s.env s.b.quiet).vehicles =
        d.vehicles.map fun u => if u.id == x.vehicle then u.sentOut (some x.tag) k.val else u := by
      rw [effect]
      unfold Blocks.vehicles
      rw [show ((c.place s.env r).bump .bidsWon).zc = c.zc from place_zc]
      exact Blocks.vehicles_sendOut sends _ _ _ _
    have follow : (g s.env s.b.quiet).agenda.follow = false := by
      rw [effect, show ((c.place s.env r).bump .bidsWon).agenda = c.agenda from place_agenda, only.agenda]
      refine (Blocks.releaseBids_follow _ _).trans ?_
      rw [greeted.work.agenda]
      exact congrArg Agenda.follow hs.2.1
    have calm := State.run_calm (f := g) hs.2 follow
    have sent : (g s.env s.b.quiet).vehicle? x.vehicle = some (w.sentOut (some x.tag) k.val) := by
      unfold Blocks.vehicle?
      rw [vehicles, find?_map_id fun u => by split <;> rfl]
      have entry_w : d.vehicles.find? (fun u => u.id == x.vehicle) = some w := entry_w
      rw [entry_w, Option.map_some, if_pos (by simp [id_w])]
    have stands : (s.run g).b.vehicle? x.vehicle = some (w.sentOut (some x.tag) k.val) := by
      rw [calm.vehicle?_eq fun u hu hid => ?_, sent]
      rw [vehicles] at hu
      obtain ⟨u, -, rfl⟩ := List.mem_map.1 hu
      split at hid
      next he =>
        rw [if_pos he]
        exact ⟨nofun, rfl⟩
      next he => exact absurd hid (by simpa using he)
    rw [effect] at calm
    refine ⟨s.run g, ran _, ?_, ⟨_, stands, rfl, rfl, rfl, rfl⟩, ?_, ?_, ?_, ?_⟩
    · rw [calm.bids, show ((c.place s.env r).bump .bidsWon).du = c.du from place_du, only.du,
        Blocks.releaseBids_bids, greeted.work.du]
      rfl
    · refine calm.queue r (c.mem_place s.env ha ?_) rfl
      rw [only.ti, ti]
      exact Nat.lt_of_le_of_lt greeted.count (Nat.lt_of_succ_le hroom)
    · refine calm.raised hs.1 (by decide) ?_ ?_
      · rw [Blocks.counter_place _ (by decide), Blocks.counter_congr (congrArg SP.counters (only.sp.trans sp))]
        exact greeted.counter _ (by decide) (by decide)
      · rw [Blocks.counters_length_place, only.sp, sp]
        exact greeted.width
    · rw [calm.inbound, show ((c.place s.env r).bump .bidsWon).zc = c.zc from place_zc, only.inbound,
        inbound, greeted.work.zc]
      rfl
    · rw [calm.fu, show ((c.place s.env r).bump .bidsWon).fu = c.fu from place_fu, only.fu, fu,
        greeted.work.fu]
      rfl
  · let g : Env → Blocks → Blocks := fun e b => (b.greet e k).takeAward e k.val id winner vehicle
    have effect : g s.env s.b.quiet = (s.b.quiet.greet s.env k).releaseBids (bidFor k.val id) := by
      unfold g Blocks.takeAward
      rw [entry]
      exact if_pos (.inr hwin)
    obtain ⟨bids, reserved, inbound, fu, -⟩ := State.run_releaseBids (g := g) hs.2 greeted.work effect
    exact ⟨s.run g, ran vehicle, bids, reserved x mem named, inbound, fu⟩

end Sys2Proof.Machine
end

section
/-! PROOFS. A CALL that comes in (R102): O30. -/
namespace Sys2Proof.Machine

/-! ### What rests on one block alone -/

theorem Blocks.vehicle?_congr {b c : Blocks} (h : c.zc = b.zc) (id : Nat) : c.vehicle? id = b.vehicle? id := by
  unfold vehicle? vehicles
  rw [h]

theorem Blocks.inbound?_congr {b c : Blocks} (h : c.zc = b.zc) (id : Nat) : c.inbound? id = b.inbound? id := by
  unfold inbound?
  rw [h]

theorem Blocks.move?_congr {b c : Blocks} (h : c.mm = b.mm) (tag : Tag) : c.move? tag = b.move? tag := by
  unfold move? moveList
  rw [h]

theorem Blocks.station?_congr {b c : Blocks} (h : c.si = b.si) (n : Nat) : c.station? n = b.station? n := by
  unfold station? stationList
  rw [h]

/-! ### Vehicles that are found by their ids (R11) -/

theorem find?_of_mem_of_nodup {α κ : Type} [DecidableEq κ] {key : α → κ} {l : List α} {a : α}
    (hn : (l.map key).Nodup) (ha : a ∈ l) : l.find? (fun x => key x == key a) = some a := by
  induction l with
  | nil => cases ha
  | cons x l ih =>
    rw [List.map_cons, List.nodup_cons] at hn
    rcases List.mem_cons.1 ha with rfl | ha
    · exact List.find?_cons_of_pos (by simp)
    · have hx : key x ≠ key a := fun he => hn.1 (he ▸ List.mem_map_of_mem ha)
      rw [List.find?_cons_of_neg (by simpa using hx)]
      exact ih hn.2 ha

theorem Blocks.UniqueIds.vehicle? {b : Blocks} (h : b.UniqueIds) {v : Vehicle} (hv : v ∈ b.vehicles) :
    b.vehicle? v.id = some v := find?_of_mem_of_nodup (List.Nodup.of_append_left h) hv

/-- A vehicle that has its place in an order is one of those ordered, with its estimate (R74). -/
theorem Blocks.mem_rank {e : Env} {b : Blocks} {vs : List Vehicle} {g : Goal} {eta : Nat} {v : Vehicle}
    (h : (eta, v) ∈ b.rank e vs g) : v ∈ vs ∧ b.estimateOf e v g = some eta := by
  obtain ⟨w, hw, hr⟩ := List.mem_filterMap.1 ((mem_sortBy _ _).1 h)
  obtain ⟨n, hn, hnw⟩ := Option.map_eq_some_iff.1 hr
  cases hnw
  exact ⟨hw, hn⟩

/-! ### CALL (R102) -/

theorem Blocks.mayBid_iff {e : Env} {b : Blocks} {caller : Nat} {id : Id8} :
    b.mayBid e caller id = true ↔
      caller < e.cfg.nBays ∧ caller ≠ e.cfg.bay.val ∧
      (∀ x ∈ b.du.bids, ¬ (x.caller = caller ∧ x.id = id)) ∧ e.node = .ready ∧
      b.fu.recovery = .normal ∧ b.ti.linkUp = true ∧ b.candidateMoves = [] ∧ b.du.bids.length < Config.bidSize ∧
      e.cfg.kKeep < b.idleCount := by
  simp only [mayBid, Bool.and_eq_true, decide_eq_true_eq, bne_iff_ne, Bool.not_eq_true',
    List.any_eq_false, beq_iff_eq, List.isEmpty_iff, and_assoc]

/-- The blocks once a bid for vehicle `v` has been entered and the vehicle reserved. -/
def Blocks.withBid (x : BidEntry) (b : Blocks) : Blocks :=
  (b.modBids fun l => l ++ [x]).modVehicle x.vehicle fun v => { v with reserved := true }

theorem Blocks.takeCall_of_mayBid {e : Env} {b : Blocks} {caller : Nat} {id : Id8} {tag : Tag}
    {urgency eta : Nat} {v : Vehicle} (hm : b.mayBid e caller id = true)
    (hv : (b.rank e b.candidates .exit).head? = some (eta, v)) :
    b.takeCall e caller id tag urgency =
      ((b.withBid {
        caller := caller
        id := id
        tag := tag
        urgency := urgency
        vehicle := v.id
        eta := eta
        holdEnd := after e.now (e.cfg.wCall + 1000) }).place e
          ⟨some caller, .bid id v.id eta⟩).bump .bidsMade := by
  unfold takeCall
  rw [if_neg (by simp [hm])]
  split
  next hn => simp [hn] at hv
  next eta' v' rest hr =>
    rw [hr, List.head?_cons, Option.some.injEq, Prod.mk.injEq] at hv
    obtain ⟨rfl, rfl⟩ := hv
    rfl

/-- Settles O30. -/
theorem callGetsOneBid : Obligations.CallGetsOneBid := by
  intro s k id tag cls source urgency hk hs hu hroom
  let g : Env → Blocks → Blocks := fun e b => (b.greet e k).takeCall e k.val id tag urgency
  have ran : exec (.call k id tag cls source urgency) s = .next (s.run g) := congrArg _ (hk.heardFrom rfl)
  have greeted := hk.greeted
  have other : k.val ≠ s.cl.cfg.bay.val := fun he => hk.2.1 (Fin.ext he)
  have may : (s.b.quiet.greet s.env k).mayBid s.env k.val id = true ↔
      k.val < s.cl.cfg.nBays ∧ k.val ≠ s.cl.cfg.bay.val ∧
      (∀ x ∈ s.b.du.bids, ¬ (x.caller = k.val ∧ x.id = id)) ∧ s.cl.node = .ready ∧
      s.b.fu.recovery = .normal ∧ s.b.ti.linkUp = true ∧ s.b.candidateMoves = [] ∧
      s.b.du.bids.length < 8 ∧ s.cl.cfg.kKeep < s.b.idleCount := by
    rw [Blocks.mayBid_iff, greeted.work.du, greeted.work.fu, greeted.linkUp, greeted.work.candidateMoves,
      greeted.work.idleCount]
    rfl
  refine ⟨fun eta v hn hfresh hready hnormal hmoves hlen hidle hrank => ?_, fun silent => ?_⟩
  · let x : BidEntry := {
      caller := k.val
      id := id
      tag := tag
      urgency := urgency
      vehicle := v.id
      eta := eta
      holdEnd := after s.now (s.cl.cfg.wCall + 1000) }
    let r : Record := ⟨some k.val, .bid id v.id eta⟩
    let d := (s.b.quiet.greet s.env k).withBid x
    have rank : ((s.b.quiet.greet s.env k).rank s.env (s.b.quiet.greet s.env k).candidates .exit).head? =
        some (eta, v) := by
      rw [greeted.work.rank, greeted.work.candidates]
      exact hrank
    have effect : g s.env s.b.quiet = (d.place s.env r).bump .bidsMade :=
      Blocks.takeCall_of_mayBid (may.2 ⟨hn, other, hfresh, hready, hnormal, hk.2.2.2.1, hmoves, hlen,
        hidle⟩) rank
    obtain ⟨zc, si, mm, du, -, -, out, agenda, -, -⟩ := d.place_frame s.env r
    have none_due : (g s.env s.b.quiet).agenda = Agenda.none := by
      rw [effect]
      exact agenda.trans (greeted.work.agenda.trans hs.2.1)
    obtain ⟨zc', si', mm', du', -⟩ := State.run_frame (f := g) hs.2 none_due
    have calm := State.run_calm (f := g) hs.2 (by rw [none_due]; rfl)
    rw [effect] at zc' si' mm' du' calm
    have found : s.b.vehicle? v.id = some v :=
      hu.vehicle? (List.mem_filter.1 (Blocks.mem_rank (List.mem_of_head? hrank)).1).1
    have vehicle (j : Nat) : (s.run g).b.vehicle? j = d.vehicle? j :=
      Blocks.vehicle?_congr (zc'.trans zc) j
    have books : (s.run g).b.du = { d.du with starve := (s.run g).b.du.starve } := du'.trans (by
      rw [show ((d.place s.env r).bump .bidsMade).du = d.du from du])
    refine ⟨s.run g, ran, ?_, ?_, ?_, ⟨{ v with reserved := true }, ?_, rfl, rfl⟩, fun j hj => ?_,
      mm'.trans (mm.trans greeted.work.mm), si'.trans (si.trans greeted.work.si), ?_⟩
    · rw [books]
      exact congrArg (fun du : DU => du.bids ++ [x]) greeted.work.du
    · refine calm.queue r (d.mem_place s.env ?_ ?_) rfl
      · show s.cl.node.active = true
        rw [hready]
        rfl
      · exact Nat.lt_of_le_of_lt greeted.count (Nat.lt_of_succ_le hroom)
    · refine calm.raised hs.1 (by decide) ?_ ?_
      · rw [Blocks.counter_place _ (by decide)]
        exact greeted.counter _ (by decide) (by decide)
      · rw [Blocks.counters_length_place]
        exact greeted.width
    · rw [vehicle]
      refine (Blocks.vehicle?_modVehicle _ _ (fun v : Vehicle => { v with reserved := true })
        fun _ => rfl).trans ?_
      rw [show ((s.b.quiet.greet s.env k).modBids fun l => l ++ [x]).vehicle? x.vehicle = some v from
        (greeted.work.vehicle? v.id).trans found]
      rfl
    · rw [vehicle]
      exact (Blocks.vehicle?_modVehicle_of_ne _ (fun v : Vehicle => { v with reserved := true })
        (fun _ => rfl) hj).trans (greeted.work.vehicle? j)
    · rw [books]
      exact (congrArg DU.calls greeted.work.du :)
  · have effect : g s.env s.b.quiet = s.b.quiet.greet s.env k := by
      unfold g Blocks.takeCall
      rw [if_pos]
      rw [Bool.not_eq_true', ← Bool.not_eq_true, may]
      rintro ⟨hn, -, hfresh, hready, hnormal, -, hmoves, hlen, hidle⟩
      rcases silent with h | ⟨x, hx, h⟩ | h | h | h | h | h
      · exact absurd hn (Nat.not_lt.2 h)
      · exact hfresh x hx h
      · exact h hready
      · exact h hnormal
      · exact h hmoves
      · exact absurd hlen (Nat.not_lt.2 h)
      · exact absurd hidle (Nat.not_lt.2 h)
    obtain ⟨bay, books, fu, -⟩ := SameWork.ran (g := g) hs.2 (by rw [effect]; exact greeted.work)
    exact ⟨s.run g, ran, bay, books, fu⟩

end Sys2Proof.Machine
end

section
/-! PROOFS. An ASK that comes in (R108): O36. -/
namespace Sys2Proof.Machine

/-- A counter that an effect raises by `n` last stands so after its command. -/
theorem Calm.raisedBy {s t : State} {e : Env} {d : Blocks} {k : Counter} {n : Nat}
    (calm : Calm e (d.bumpBy k n) t.b) (hs : s.Sized) (hk : k.index ∉ passCounters)
    (hc : d.counter k = s.b.counter k) (hw : d.sp.counters.length = s.b.sp.counters.length) :
    t.b.counter k = sat32 (s.b.counter k + n) := by
  obtain ⟨-, -, -, -, -, -, width, -⟩ := hs
  rw [calm.counter k hk, Blocks.counter_bumpBy, if_pos rfl, hc]
  rw [hw, width]
  exact Counter.index_lt k

/-- A candidate has a path to the exit from wherever it stands, so each takes its place (R65, R74). -/
theorem Blocks.length_rank_exit (e : Env) (b : Blocks) :
    (b.rank e b.candidates .exit).length = b.idleCount := by
  unfold rank idleCount
  rw [length_sortBy]
  refine List.filterMap_length_eq_length.2 fun v hv => ?_
  have free : v.free = true := (Bool.and_eq_true_iff.1 (List.mem_filter.1 hv).2).1
  have relearn : v.relearn = false := by
    simp only [Vehicle.free, Bool.and_eq_true, Bool.not_eq_true'] at free
    exact free.2
  unfold estimateOf estimate
  rw [relearn]
  rfl

/-- The vehicles sent out stand TO-EXIT with clearance, bound to nothing (R12, R108). -/
theorem Blocks.vehicle?_foldl_sendOut {e : Env} (hn : e.node ≠ .haltedDuplicate) {bay : Nat}
    {l : List (Nat × Vehicle)} {b : Blocks} {x : Nat × Vehicle} (hx : x ∈ l)
    (hv : x.2 ∈ b.vehicles) :
    (∃ w : Vehicle, (l.foldl (fun b x => b.sendOut e x.2.id none bay) b).vehicle? x.2.id =
      some (w.sentOut none bay)) ∧
    ∀ v ∈ (l.foldl (fun b x => b.sendOut e x.2.id none bay) b).vehicles, v.id = x.2.id →
      v.state ≠ .idle ∧ v.free = false := by
  obtain ⟨-, sent, ids⟩ := vehicles_foldl_sendOut hn bay l b
  have out {v : Vehicle} (mem : v ∈ (l.foldl (fun b x => b.sendOut e x.2.id none bay) b).vehicles)
      (hid : v.id = x.2.id) : ∃ w : Vehicle, v = w.sentOut none bay := by
    rcases sent v mem with h | ⟨-, h⟩
    · exact h
    · exact absurd hid.symm (h x hx)
  refine ⟨?_, fun v hv hid => ?_⟩
  · have known : x.2.id ∈ (l.foldl (fun b x => b.sendOut e x.2.id none bay) b).vehicles.map Vehicle.id := by
      rw [ids]
      exact List.mem_map_of_mem hv
    obtain ⟨u, mem_u, id_u⟩ := List.mem_map.1 known
    cases found : (l.foldl (fun b x => b.sendOut e x.2.id none bay) b).vehicle? x.2.id with
    | none => exact absurd (by simpa using id_u) (List.find?_eq_none.1 found u mem_u)
    | some v =>
      obtain ⟨mem, hid⟩ := vehicle?_mem _ found
      obtain ⟨w, rfl⟩ := out mem hid
      exact ⟨w, rfl⟩
  · obtain ⟨w, rfl⟩ := out hv hid
    exact ⟨nofun, rfl⟩

/-- Settles O36. -/
theorem askAnsweredWithLoan : Obligations.AskAnsweredWithLoan := by
  intro s k id n count hk hs hroom h1 h4 ha hhold hcount
  let act : Env → Blocks → Blocks := fun e b => (b.greet e k).takeAsk e k.val id n
  have ran : exec (.ask k id n) s = .next (s.run act) :=
    congrArg _ (hk.heardFrom (by simp [bodyInRange, h1, h4]))
  have greeted := hk.greeted
  obtain ⟨not_halted, sends⟩ := NodeState.sends_of_active ha
  let b := s.b.quiet.greet s.env k
  have granted : b.grantCount s.env n = count := by
    have moves : (!b.candidateMoves.isEmpty) = true ↔ s.b.candidateMoves ≠ [] := by
      rw [show b.candidateMoves = s.b.candidateMoves from greeted.work.candidateMoves]
      simp
    rw [hcount]
    unfold Blocks.grantCount
    rw [show b.fu = s.b.fu from greeted.work.fu,
      show b.idleCount = s.b.idleCount from greeted.work.idleCount]
    exact if_congr (or_congr_right (or_congr_right moves)) rfl rfl
  have rank : b.rank s.env b.candidates .exit = s.b.rank s.env s.b.candidates .exit := by
    rw [show b.candidates = s.b.candidates from greeted.work.candidates]
    exact greeted.work.rank _ _ _
  let sent := (s.b.rank s.env s.b.candidates .exit).take count
  have enough : count ≤ (s.b.rank s.env s.b.candidates .exit).length := by
    rw [Blocks.length_rank_exit, hcount]
    split
    · exact Nat.zero_le _
    · exact (Nat.min_le_right _ _).trans (Nat.sub_le _ _)
  have length_sent : sent.length = count := List.length_take_of_le enough
  let eta := (sent.getLast?.map Prod.fst).getD (sat16 (Config.unknownEta 0))
  let d := sent.foldl (fun b x => b.sendOut s.env x.2.id none k.val) b
  let r : Record := ⟨some k.val, .loan id eta (sent.map fun x => x.2.id)⟩
  have effect : act s.env s.b.quiet = (d.place s.env r).bumpBy .loansGranted sent.length := by
    unfold act Blocks.takeAsk
    rw [if_neg]
    · dsimp only
      rw [granted, rank]
      rfl
    · rw [show s.env.node.halted = false from not_halted, greeted.peer k.val, if_pos rfl,
        show s.b.quiet.peer k.val = s.b.peer k.val from rfl, hhold]
      decide
  obtain ⟨only, -, -⟩ := Blocks.vehicles_foldl_sendOut (e := s.env) sends k.val sent b
  have agenda : (act s.env s.b.quiet).agenda = { Agenda.none with park := d.agenda.park } := by
    rw [effect]
    refine (Blocks.place_agenda s.env d r).trans (only.agenda.trans ?_)
    rw [show b.agenda = Agenda.none from greeted.work.agenda.trans hs.2.1]
  have calm := State.run_calm (f := act) hs.2 (by rw [agenda]; rfl)
  have settled : (s.run act).b = (act s.env s.b.quiet).settle s.env s.b := State.run_rested hs.2 _
  obtain ⟨mm, -, du⟩ := Blocks.settle_of_park s.env (act s.env s.b.quiet) s.b (by rw [agenda]; rfl)
    (by rw [agenda]; rfl) (by rw [agenda]; rfl)
  rw [← settled] at mm du
  rw [effect] at calm mm du
  obtain ⟨place_zc, -, place_mm, place_du, -⟩ := d.place_frame s.env r
  have books : (s.run act).b.du = { s.b.du with starve := (s.run act).b.du.starve } := by
    refine du.trans ?_
    rw [show ((d.place s.env r).bumpBy .loansGranted sent.length).du = s.b.du from
      place_du.trans (only.du.trans greeted.work.du)]
  refine ⟨s.run act, ran, eta, sent.map fun x => x.2.id, ?_, rfl, ?_, fun hpos => ?_, fun v hv => ?_, ?_,
    mm.trans (place_mm.trans (only.mm.trans greeted.work.mm)), ?_, ?_⟩
  · refine calm.queue r (d.mem_place s.env ha ?_) rfl
    rw [only.ti]
    exact Nat.lt_of_le_of_lt greeted.count (Nat.lt_of_succ_le hroom)
  · rw [List.length_map, length_sent]
  · have last : sent.getLast? = (s.b.rank s.env s.b.candidates .exit)[count - 1]? := by
      rw [List.getLast?_eq_getElem?, length_sent, List.getElem?_take_of_lt (Nat.sub_lt hpos Nat.one_pos)]
    have some_last : (count - 1) < (s.b.rank s.env s.b.candidates .exit).length :=
      Nat.lt_of_lt_of_le (Nat.sub_lt hpos Nat.one_pos) enough
    unfold eta
    rw [last, List.getElem?_eq_getElem some_last]
    rfl
  · obtain ⟨x, hx, rfl⟩ := List.mem_map.1 hv
    have mem : x.2 ∈ b.vehicles := by
      rw [show b.vehicles = s.b.vehicles from greeted.work.vehicles]
      exact (List.mem_filter.1 (Blocks.mem_rank (List.mem_of_mem_take hx)).1).1
    obtain ⟨⟨w, found⟩, busy⟩ := Blocks.vehicle?_foldl_sendOut (e := s.env) sends (bay := k.val) hx mem
    refine ⟨w.sentOut none k.val, ?_, rfl, rfl, rfl, rfl⟩
    have placed : ((d.place s.env r).bumpBy .loansGranted sent.length).zc = d.zc := place_zc
    rw [calm.vehicle?_eq, Blocks.vehicle?_congr placed]
    · exact found
    · unfold Blocks.vehicles
      rw [placed]
      exact busy
  · rw [calm.raisedBy hs.1 (by decide), length_sent]
    · rw [Blocks.counter_place _ (by decide), Blocks.counter_congr (congrArg SP.counters only.sp)]
      exact greeted.counter _ (by decide) (by decide)
    · rw [Blocks.counters_length_place, only.sp]
      exact greeted.width
  · rw [calm.inbound, show ((d.place s.env r).bumpBy .loansGranted sent.length).zc = d.zc from place_zc,
      only.inbound, greeted.work.zc]
    rfl
  · rw [SameBooks, books]
    exact ⟨rfl, rfl, rfl, rfl, rfl⟩

end Sys2Proof.Machine
end

section
/-! PROOFS. The answer to an ask (R106, R109): O37. -/
namespace Sys2Proof.Machine

/-! ### Vehicles lent (R109) -/

/-- Blocks that differ in the Inbound List and in the open ask. -/
def Lent (b c : Blocks) : Prop :=
  c = { b with
    zc := { b.zc with inbound := c.zc.inbound }
    du := { b.du with ask := c.du.ask } }

theorem Lent.trans {b c d : Blocks} (h : Lent b c) (h' : Lent c d) : Lent b d := by
  unfold Lent at *
  rw [h', h]

theorem Lent.frame {b c : Blocks} (h : Lent b c) :
    c.zc.roster = b.zc.roster ∧ c.du.bids = b.du.bids ∧ c.sp = b.sp ∧ c.agenda = b.agenda := by
  unfold Lent at h
  rw [h]
  exact ⟨rfl, rfl, rfl, rfl⟩

theorem Lent.lendOne (bay : Nat) (id : Id8) (expected : Time) (b : Blocks) (vehicle : Nat) :
    Lent b (b.lendOne bay id expected vehicle) := by
  unfold Blocks.lendOne
  dsimp only
  split
  · rfl
  · split
    · split
      · rfl
      · split <;> rfl
    · split <;> rfl

/-- A vehicle not known takes one of the ask's places. -/
theorem Blocks.lendOne_of_place {b : Blocks} {a : Ask} {bay : Nat} {id : Id8} {expected : Time}
    {vehicle : Nat} (ha : b.du.ask = some a) (hc : 0 < a.count) (hv : b.known vehicle = false) :
    b.lendOne bay id expected vehicle =
      (b.modDU fun d => { d with ask := some { a with count := a.count - 1 } }).addInbound
        (loanEntry vehicle bay id expected) := by
  unfold lendOne
  dsimp only
  rw [hv, ha]
  simp [hc]

/-- The vehicles of a LOAN, none of them known and no more than were asked for, are entered one by one. -/
theorem Blocks.foldl_lendOne {bay : Nat} {id : Id8} {expected : Time} (vs : List Nat) {b : Blocks}
    {a : Ask} (ha : b.du.ask = some a) (hc : vs.length ≤ a.count) (hn : vs.Nodup)
    (hv : ∀ v ∈ vs, b.known v = false) :
    Lent b (vs.foldl (Blocks.lendOne bay id expected) b) ∧
    (vs.foldl (Blocks.lendOne bay id expected) b).zc.inbound.length = b.zc.inbound.length + vs.length ∧
    (∀ v ∈ vs, (vs.foldl (Blocks.lendOne bay id expected) b).inbound? v =
      some (loanEntry v bay id expected)) ∧
    (∀ v, v ∉ vs → (vs.foldl (Blocks.lendOne bay id expected) b).inbound? v = b.inbound? v) := by
  induction vs generalizing a b with
  | nil => exact ⟨rfl, rfl, fun v h => absurd h List.not_mem_nil, fun _ _ => rfl⟩
  | cons v vs ih =>
    obtain ⟨fresh, hn⟩ := List.nodup_cons.1 hn
    have not_known := hv v List.mem_cons_self
    have here := lendOne_of_place (bay := bay) (id := id) (expected := expected) ha
      (Nat.lt_of_lt_of_le (Nat.succ_pos _) hc) not_known
    have entered : (b.lendOne bay id expected v).inbound? v = some (loanEntry v bay id expected) := by
      rw [here]
      exact inbound?_addInbound (Blocks.not_known not_known).2
    have others {u : Nat} (hu : u ≠ v) : (b.lendOne bay id expected v).inbound? u = b.inbound? u := by
      rw [here]
      exact inbound?_addInbound_of_ne hu
    have roster (u : Nat) : (b.lendOne bay id expected v).vehicle? u = b.vehicle? u := by
      rw [here]
      rfl
    obtain ⟨lent, length, mem, not_mem⟩ := ih (b := b.lendOne bay id expected v)
      (a := { a with count := a.count - 1 }) (by rw [here]; rfl) (Nat.le_sub_one_of_lt hc) hn
      fun u hu => by
        have hne : u ≠ v := fun he => fresh (he ▸ hu)
        have before := hv u (List.mem_cons_of_mem _ hu)
        unfold known onRoster at before ⊢
        rw [roster, others hne]
        exact before
    rw [List.foldl_cons]
    refine ⟨(Lent.lendOne ..).trans lent, ?_, fun u hu => ?_, fun u hu => ?_⟩
    · rw [length, here]
      simp only [addInbound, modInbound_inbound, length_insertBy, modDU_zc, List.length_cons]
      omega
    · rcases List.mem_cons.1 hu with rfl | hu
      · rw [not_mem u fresh, entered]
      · exact mem u hu
    · obtain ⟨hne, hu⟩ : u ≠ v ∧ u ∉ vs := by simpa using hu
      rw [not_mem u hu, others hne]

/-! ### The ask closes (R106, R109) -/

theorem Blocks.closeAsk_eq (e : Env) (b : Blocks) :
    b.closeAsk e = ({ b with
      du := { b.du with ask := none, starve := if b.supply < e.cfg.fMin then some e.now else none } }
      : Blocks).wantCall := rfl

/-- Settles O37. -/
theorem loanClosesAsk : Obligations.LoanClosesAsk := by
  intro s a hs ha
  refine ⟨fun k eta vs hk hlender h4 hcount hnodup hknown => ?_, fun hpassed => ?_⟩
  · let act : Env → Blocks → Blocks := fun e b => (b.greet e k).takeLoan e k.val a.id eta vs
    have ran : exec (.loan k a.id eta vs) s = .next (s.run act) :=
      congrArg _ (hk.heardFrom (by simp [bodyInRange, h4]))
    have greeted := hk.greeted
    let b := s.b.quiet.greet s.env k
    let expected := s.b.arrivalTime s.env k.val eta
    let c := vs.foldl (Blocks.lendOne k.val a.id expected) b
    have ask : b.du.ask = some a := (congrArg DU.ask greeted.work.du).trans ha
    obtain ⟨lent, length, mem, -⟩ := Blocks.foldl_lendOne (bay := k.val) (id := a.id)
      (expected := expected) vs ask hcount hnodup fun v hv => (greeted.work.known v).trans (hknown v hv)
    obtain ⟨roster, bids, sp, quiet⟩ := lent.frame
    have effect : act s.env s.b.quiet = (c.closeAsk s.env).bumpBy .loansReceived vs.length := by
      have open_ask : (b.du.ask.any fun x => x.lender == k.val && x.id == a.id) = true := by
        rw [ask]
        simp [hlender]
      have arrival : b.arrivalTime s.env k.val eta = expected := greeted.arrivalTime _ _ _
      unfold act Blocks.takeLoan
      rw [if_pos open_ask, arrival]
      dsimp only
      rw [length, Nat.add_sub_cancel_left]
    have agenda : (act s.env s.b.quiet).agenda = { Agenda.none with call := true } := by
      rw [effect]
      show { c.agenda with call := true } = _
      rw [show c.agenda = Agenda.none from quiet.trans (greeted.work.agenda.trans hs.2.1)]
    have calm := State.run_calm (f := act) hs.2 (by rw [agenda]; rfl)
    have settled : (s.run act).b = (act s.env s.b.quiet).settle s.env s.b := State.run_rested hs.2 _
    obtain ⟨zc, -⟩ := Blocks.settle_of_call s.env (act s.env s.b.quiet) s.b (by rw [agenda]; rfl)
      (by rw [agenda]; rfl) (by rw [agenda]; rfl)
    rw [← settled] at zc
    rw [effect] at calm zc
    have zc : (s.run act).b.zc = c.zc := zc
    refine ⟨s.run act, ran, calm.ask, fun v hv => ⟨loanEntry v k.val a.id expected, ?_, rfl, rfl, rfl,
      rfl, rfl, rfl⟩, ?_, ?_, ?_, ?_⟩
    · rw [Blocks.inbound?_congr zc]
      exact mem v hv
    · rw [zc, length, greeted.work.zc]
      rfl
    · refine calm.raisedBy hs.1 (by decide) ?_ ?_
      · exact (Blocks.counter_congr (congrArg SP.counters sp) _).trans
          (greeted.counter _ (by decide) (by decide))
      · exact (congrArg (fun x : SP => x.counters.length) sp).trans greeted.width
    · rw [zc]
      exact roster.trans (congrArg ZC.roster greeted.work.zc)
    · exact calm.bids.trans (bids.trans (congrArg DU.bids greeted.work.du))
  · let g : Env → Blocks → Blocks := fun e b =>
      if b.du.ask.any fun a => passed e.now a.deadline 0 then b.closeAsk e else b
    have effect : g s.env s.b.quiet = s.b.quiet.closeAsk s.env :=
      if_pos (by
        rw [show s.b.quiet.du.ask = some a from ha]
        exact hpassed)
    have agenda : (g s.env s.b.quiet).agenda = { Agenda.none with call := true } := by
      rw [effect]
      show { s.b.agenda with call := true } = _
      rw [hs.2.1]
    have calm := State.run_calm (f := g) hs.2 (by rw [agenda]; rfl)
    have settled : (s.run g).b = (g s.env s.b.quiet).settle s.env s.b := State.run_rested hs.2 _
    obtain ⟨zc, -⟩ := Blocks.settle_of_call s.env (g s.env s.b.quiet) s.b (by rw [agenda]; rfl)
      (by rw [agenda]; rfl) (by rw [agenda]; rfl)
    have starve := Blocks.settle_starve s.env (g s.env s.b.quiet) s.b (by rw [agenda]; rfl)
      (by rw [agenda]; rfl) (by rw [agenda]; rfl) (by rw [effect]; rfl)
    rw [← settled] at zc starve
    rw [effect] at calm zc starve
    exact ⟨s.run g, rfl, calm.ask, zc, calm.bids, starve⟩

end Sys2Proof.Machine
end

section
/-! PROOFS. A CONSIGN that comes in (R125): O38. -/
namespace Sys2Proof.Machine

/-! ### Stations after a change of some (R25, R32) -/

theorem Blocks.station?_updWhere (b : Blocks) (p : Station → Bool) (f : Station → Station)
    (hf : ∀ s, (f s).number = s.number) (n : Nat) :
    (b.modStations (updWhere p f)).station? n = (b.station? n).map fun s => if p s then f s else s := by
  unfold station? stationList
  rw [show (b.modStations (updWhere p f)).si.stations = updWhere p f b.si.stations from rfl, live_updWhere,
    List.find?_map]
  congr 2
  funext s
  rw [Function.comp_apply]
  split
  · rw [hf]
  · rfl

/-- A reservation that is set stands at its station; the shelves that waited for it are due no more. -/
theorem Blocks.reservation_setReservation (b : Blocks) (n : Nat) (tag : Tag) :
    ((b.setReservation n (some tag)).station? n).bind Station.reservation =
      (b.station? n).bind fun _ => some tag := by
  unfold setReservation clearDue
  dsimp only
  rw [station?_updWhere _ _ (fun s => { s with followOnDue := false }) fun _ => rfl,
    b.station?_modStation n (fun s => { s with reservation := some tag }) fun _ => rfl]
  cases b.station? n with
  | none => rfl
  | some s =>
    simp only [Option.map_some, Option.bind_some]
    split <;> rfl

theorem Blocks.reservation_reserve {b : Blocks} {n : Nat} {x : Station} (hx : b.station? n = some x)
    (tag : Tag) : ((b.reserve n tag).station? n).bind Station.reservation =
      if x.open = true ∧ x.reservation = none then some tag else x.reservation := by
  unfold reserve
  rw [hx, Option.any_some]
  by_cases h : x.open = true ∧ x.reservation = none
  · rw [if_pos (by simp [h]), if_pos h, reservation_setReservation, hx]
    rfl
  · rw [if_neg (by simpa using h), if_neg h, hx]
    rfl

/-! ### CONSIGN (R125) -/

/-- What a CONSIGN leads to, once it is judged: its answer waits in the queue, and the tables are as the
judgment left them. -/
theorem answers_consign {s : State} {k : Bay} {id : Id8} {vehicle : Nat} {tag : Tag} {dest : Nat}
    {cls : MoveClass} {carrier : Option CarrierId} {eta : Nat} {r : AcceptResult} {c : Blocks}
    (hk : s.hears k) (hroom : s.roomFor 2) (ha : s.cl.node.active = true)
    (hj : (s.b.quiet.greet s.env k).judgeConsign s.env k.val id vehicle tag dest cls carrier eta =
      some (r, c))
    (hti : c.ti = (s.b.quiet.greet s.env k).ti) (hagenda : c.agenda = Agenda.none) :
    Answers (.consign k id vehicle tag dest cls carrier eta) s fun t =>
      t.queued ⟨some k.val, .accept id vehicle r⟩ ∧ t.b.zc = c.zc ∧ t.b.si = c.si ∧ t.b.mm = c.mm ∧
        t.b.du = { c.du with starve := t.b.du.starve } := by
  let act : Env → Blocks → Blocks := fun e b =>
    match (b.greet e k).judgeConsign e k.val id vehicle tag dest cls carrier eta with
    | none => b.greet e k
    | some (r, b) => b.toBay e k.val (.accept id vehicle r)
  have ran : exec (.consign k id vehicle tag dest cls carrier eta) s = .next (s.run act) :=
    congrArg _ (hk.heardFrom rfl)
  have effect : act s.env s.b.quiet = c.place s.env ⟨some k.val, .accept id vehicle r⟩ := by
    unfold act
    rw [hj]
    rfl
  obtain ⟨zc, si, mm, du, -, -, -, agenda, -, -⟩ := c.place_frame s.env ⟨some k.val, .accept id vehicle r⟩
  have none_due : (act s.env s.b.quiet).agenda = Agenda.none := by
    rw [effect]
    exact agenda.trans hagenda
  obtain ⟨zc', si', mm', du', -⟩ := State.run_frame (f := act) hk.2.2.2.2 none_due
  have calm := State.run_calm (f := act) hk.2.2.2.2 (by rw [none_due]; rfl)
  rw [effect] at zc' si' mm' du' calm
  refine ⟨s.run act, ran, calm.queue _ (c.mem_place s.env ha ?_) rfl, zc'.trans zc, si'.trans si,
    mm'.trans mm, du'.trans (by rw [du])⟩
  rw [hti]
  exact Nat.lt_of_le_of_lt hk.greeted.count (Nat.lt_of_succ_le hroom)

/-- Settles O38. -/
theorem consignAnswered : Obligations.ConsignAnswered := by
  intro s k id vehicle tag dest cls carrier eta hk hroom ha hknown hfresh
  have work := hk.greeted.work
  let b := s.b.quiet.greet s.env k
  have quiet : b.agenda = Agenda.none := work.agenda.trans hk.2.2.2.2.1
  have not_halted : ¬ s.env.node.halted = true := by
    rw [show s.env.node.halted = false from (NodeState.sends_of_active ha).1]
    decide
  obtain ⟨off_roster, off_list⟩ := Blocks.not_known ((work.known vehicle).trans hknown)
  have answered {r : AcceptResult}
      (hj : b.judgeConsign s.env k.val id vehicle tag dest cls carrier eta = some (r, b)) :
      Answers (.consign k id vehicle tag dest cls carrier eta) s fun t =>
        t.queued ⟨some k.val, .accept id vehicle r⟩ ∧ SameBay s.b t.b := by
    obtain ⟨t, ran, queued, zc, si, mm, -⟩ := answers_consign hk hroom ha hj rfl quiet
    exact ⟨t, ran, queued, zc.trans work.zc, si.trans work.si, mm.trans work.mm⟩
  have removed : b.removeInbound s.env vehicle = b := by
    unfold Blocks.removeInbound
    rw [off_list]
  have judged {x : Station} (hl : s.env.node ≠ .listen) (hx : s.b.station? dest = some x) :
      b.judgeConsign s.env k.val id vehicle tag dest cls carrier eta =
        some (b.consignRoom s.env k.val id vehicle tag dest cls carrier eta) := by
    have none_such : (b.zc.inbound.find? fun i => i.kind == .loaded && i.source == k.val && i.ref == id) =
        none := by
      rw [List.find?_eq_none, show b.zc = s.b.zc from work.zc]
      intro i hi
      simpa [and_assoc] using hfresh i hi
    unfold Blocks.judgeConsign
    rw [if_neg not_halted, if_neg hl,
      show b.station? dest = s.b.quiet.station? dest from work.station? dest,
        show s.b.quiet.station? dest = some x from hx,
      if_neg (by simp), none_such]
    dsimp only
    rw [show b.vehicle? vehicle = none from off_roster]
  refine ⟨fun (hl : s.env.node = .listen) => answered ?_,
    fun (hl : s.env.node ≠ .listen) hx => answered ?_, fun x hl hx hr => answered ?_,
    fun x hl hx hr => ?_⟩
  · unfold Blocks.judgeConsign
    rw [if_neg not_halted, if_pos hl]
  · unfold Blocks.judgeConsign
    rw [if_neg not_halted, if_neg hl,
      show b.station? dest = s.b.quiet.station? dest from work.station? dest,
        show s.b.quiet.station? dest = none from hx]
    rfl
  · rw [judged hl hx]
    unfold Blocks.consignRoom
    rw [removed]
    exact congrArg some (if_pos (work.room.trans hr))
  · let i : Inbound :=
      { vehicle := vehicle
        kind := .loaded
        source := k.val
        tag := some tag
        ref := id
        dest := some dest
        cls := some cls
        carrierId := carrier
        expected := s.b.arrivalTime s.env k.val eta
        recirc := 0
        late := false }
    have taken : b.judgeConsign s.env k.val id vehicle tag dest cls carrier eta =
        some (.taken, (b.addInbound i).reserve dest tag) := by
      rw [judged hl hx]
      unfold Blocks.consignRoom
      rw [removed]
      dsimp only
      rw [if_neg (by rw [show b.room = s.b.room from work.room]; omega),
        show b.arrivalTime s.env k.val eta = s.b.arrivalTime s.env k.val eta from hk.greeted.arrivalTime ..]
    have delivers : Delivers (b.addInbound i) ((b.addInbound i).reserve dest tag) := Delivers.refl.reserve
    have zc : ((b.addInbound i).reserve dest tag).zc = (b.addInbound i).zc := by
      unfold Blocks.reserve Blocks.setReservation
      split <;> rfl
    have agenda : ((b.addInbound i).reserve dest tag).agenda = Agenda.none := by
      refine Eq.trans ?_ quiet
      unfold Blocks.reserve Blocks.setReservation
      split <;> rfl
    obtain ⟨t, ran, queued, zc', si', mm', du'⟩ := answers_consign hk hroom ha taken delivers.ti agenda
    have inbound (j : Nat) : t.b.inbound? j = (b.addInbound i).inbound? j :=
      Blocks.inbound?_congr (zc'.trans zc) j
    refine ⟨t, ran, queued, ?_, fun j hj => ?_, ?_, ?_, mm'.trans (delivers.mm.trans work.mm), ?_⟩
    · rw [inbound]
      exact Blocks.inbound?_addInbound (i := i) off_list
    · rw [inbound]
      exact (Blocks.inbound?_addInbound_of_ne (i := i) hj).trans (work.inbound? j)
    · rw [Blocks.station?_congr si']
      exact Blocks.reservation_reserve (b := b.addInbound i) ((work.station? dest).trans hx) tag
    · rw [zc', zc]
      exact (congrArg ZC.roster work.zc :)
    · rw [SameBooks, du', delivers.du]
      rw [show (b.addInbound i).du = s.b.du from work.du]
      exact ⟨rfl, rfl, rfl, rfl, rfl⟩

end Sys2Proof.Machine
end

section
/-! PROOFS. What sending loaded vehicles on, round, or back to a shelf can do (R50 to R54, R120 to R124):
beyond the delivery operations it writes the consignment wait of moves, and sends CONSIGN. `Turns` says
what stays through all of it. -/
namespace Sys2Proof.Machine

/-- What a vehicle keeps that is given another way to go. -/
def Vehicle.turned (v v' : Vehicle) : Prop :=
  v' = { v with state := v'.state, clearance := v'.clearance, job := v'.job, echo := v'.echo
                jobDone := v'.jobDone, given := v'.given }

/-- What a move keeps whose consignment wait or DEST-HELD is decided afresh. -/
def Move.turned (m m' : Move) : Prop :=
  m' = { m with wait := m'.wait, cleared := m'.cleared, consignId := m'.consignId
                destHeld := m'.destHeld }

theorem Vehicle.turned.trans {v w u : Vehicle} (h : v.turned w) (h' : w.turned u) : v.turned u := by
  unfold Vehicle.turned at *
  rw [h', h]

theorem Move.turned.trans {m n p : Move} (h : m.turned n) (h' : n.turned p) : m.turned p := by
  unfold Move.turned at *
  rw [h', h]

/-- What the operations that turn vehicles leave alone. -/
structure Turns (b c : Blocks) : Prop where
  inbound : c.zc.inbound = b.zc.inbound
  segments : c.zc.segments = b.zc.segments
  seqCounter : c.mm.seqCounter = b.mm.seqCounter
  du : c.du = b.du
  pd : c.pd = b.pd
  ti : c.ti = { b.ti with queue := c.ti.queue }
  fu : c.fu = b.fu
  counter : ∀ k : Counter, k.index ≠ Counter.overflows.index → k.index ≠ Counter.consignSent.index →
    c.counter k = b.counter k
  width : c.sp.counters.length = b.sp.counters.length
  flag : ∀ f, f ≠ .overflow → c.flag f = b.flag f
  station : c.out.station = b.out.station
  service : c.out.service = b.out.service
  linkReset : c.si.linkReset = b.si.linkReset
  follow : c.agenda.follow = b.agenda.follow
  vehicles : List.Forall₂ Vehicle.turned b.vehicles c.vehicles
  stations : List.Forall₂ Station.delivered b.stationList c.stationList
  moves : List.Forall₂ Move.turned b.moveList c.moveList

/-- Related lists stay related under a further change of each entry of the second. -/
theorem forall₂_trans {α : Type} {R S : α → α → Prop} {l l' l'' : List α}
    (hRS : ∀ {x y z}, R x y → S y z → R x z) (h : List.Forall₂ R l l') (h' : List.Forall₂ S l' l'') :
    List.Forall₂ R l l'' := by
  induction h generalizing l'' with
  | nil =>
    cases h'
    exact .nil
  | cons hxy _ ih =>
    cases h' with
    | cons hyz h' => exact .cons (hRS hxy hyz) (ih h')

namespace Turns
variable {e : Env} {b c d : Blocks}

theorem refl : Turns b b where
  inbound := rfl
  segments := rfl
  seqCounter := rfl
  du := rfl
  pd := rfl
  ti := rfl
  fu := rfl
  counter _ _ _ := rfl
  width := rfl
  flag _ _ := rfl
  station := rfl
  service := rfl
  linkReset := rfl
  follow := rfl
  vehicles := List.forall₂_same.2 fun _ _ => rfl
  stations := List.forall₂_same.2 fun s _ => .refl s
  moves := List.forall₂_same.2 fun _ _ => rfl

theorem delivers (h : Turns b c) (hd : Delivers c d) : Turns b d where
  inbound := hd.inbound.trans h.inbound
  segments := hd.segments.trans h.segments
  seqCounter := (congrArg MM.seqCounter hd.mm).trans h.seqCounter
  du := hd.du.trans h.du
  pd := hd.pd.trans h.pd
  ti := by
    rw [hd.ti]
    exact h.ti
  fu := hd.fu.trans h.fu
  counter k h1 h2 := (hd.counter k).trans (h.counter k h1 h2)
  width := (congrArg (fun x : SP => x.counters.length) hd.sp).trans h.width
  flag f hf := by
    refine Eq.trans ?_ (h.flag f hf)
    cases f <;> simp only [Blocks.flag, Blocks.peer, hd.sp, hd.pd]
  station := hd.station.trans h.station
  service := hd.service.trans h.service
  linkReset := hd.linkReset.trans h.linkReset
  follow := hd.follow.trans h.follow
  vehicles := forall₂_trans Vehicle.turned.trans h.vehicles
    (hd.vehicles.imp fun _ _ hv => by
      obtain ⟨-, hv⟩ := hv
      unfold Vehicle.turned
      rw [hv])
  stations := forall₂_trans Station.delivered.trans h.stations hd.stations
  moves := by
    rw [hd.moveList]
    exact h.moves

/-! ### The elementary changes -/

theorem modMoves {p : Move → Bool} {f : Move → Move} (h : Turns b c) (hf : ∀ m : Move, m.turned (f m)) :
    Turns b (c.modMoves (updWhere p f)) :=
  { h with
    moves := by
      rw [show (c.modMoves (updWhere p f)).moveList = c.moveList.map fun m => if p m then f m else m from
        live_updWhere _ _ _, List.forall₂_map_right_iff]
      refine h.moves.imp fun m m' hm => ?_
      split
      · exact hm.trans (hf m')
      · exact hm }

theorem modMove {tag : Tag} {f : Move → Move} (h : Turns b c) (hf : ∀ m : Move, m.turned (f m)) :
    Turns b (c.modMove tag f) := h.modMoves hf

theorem modVehicle {id : Nat} {f : Vehicle → Vehicle} (h : Turns b c)
    (hf : ∀ v : Vehicle, v.turned (f v)) : Turns b (c.modVehicle id f) :=
  { h with
    vehicles := by
      rw [Blocks.vehicles_modVehicle, List.forall₂_map_right_iff]
      refine h.vehicles.imp fun v v' hv => ?_
      split
      · exact hv.trans (hf v')
      · exact hv }

theorem wantBind (h : Turns b c) : Turns b c.wantBind := { h with }

theorem consignCounter {n : Id8} (h : Turns b c) :
    Turns b { c with mm := { c.mm with consignCounter := n } } := { h with }

theorem place {r : Record} (h : Turns b c) : Turns b (c.place e r) := by
  rcases c.place_cases e r with ⟨-, hp⟩ | ⟨-, -, hp⟩ | ⟨-, -, -, hp⟩ | ⟨-, -, -, hp⟩ <;> rw [hp]
  · exact h
  · exact { h with
      ti := by
        rw [Blocks.modTI_ti, h.ti] }
  · exact { h with
      counter := fun k h1 h2 => (Blocks.counter_bump_of_ne h1).trans (h.counter k h1 h2)
      width := (Blocks.length_counters_bumpBy _ _ _).trans h.width
      flag := fun f hf => by
        refine Eq.trans ?_ (h.flag f hf)
        cases f <;> first | rfl | exact absurd rfl hf }
  · exact { h with
      ti := by
        rw [Blocks.modTI_ti, h.ti] }

theorem bumpConsign (h : Turns b c) : Turns b (c.bump .consignSent) :=
  { h with
    counter := fun k h1 h2 => (Blocks.counter_bump_of_ne h2).trans (h.counter k h1 h2)
    width := (Blocks.length_counters_bumpBy _ _ _).trans h.width }

theorem foldl {α : Type} {l : List α} {f : Blocks → α → Blocks} (h : Turns b c)
    (hf : ∀ {c : Blocks} (x : α), Turns b c → Turns b (f c x)) : Turns b (l.foldl f c) := by
  induction l generalizing c with
  | nil => exact h
  | cons x l ih => exact ih (hf x h)

/-! ### The operations (R47, R52, R120 to R124) -/

theorem reevaluate {p : Move → Bool} (h : Turns b c) : Turns b (c.reevaluate e p) := by
  unfold Blocks.reevaluate
  dsimp only
  split
  · exact (h.modMoves fun _ => by exact rfl).wantBind
  · exact h.modMoves fun _ => by exact rfl

theorem reevaluateBay {k : Nat} (h : Turns b c) : Turns b (c.reevaluateBay e k) := h.reevaluate

theorem reevaluateOwn (h : Turns b c) : Turns b (c.reevaluateOwn e) := h.reevaluate

theorem endWait {tag : Tag} (h : Turns b c) : Turns b (c.modMove tag Move.endWait) :=
  h.modMove fun _ => by exact rfl

theorem sendGoto {id : Nat} {j : Job} (h : Turns b c) : Turns b (c.sendGoto e id j) :=
  h.delivers Delivers.refl.sendGoto

theorem sendRound {m : Move} {id : Nat} (h : Turns b c) : Turns b (c.sendRound e m id) := by
  unfold Blocks.sendRound
  exact (h.endWait.modVehicle fun _ => by exact rfl).sendGoto

theorem ownerAbsent {tag : Tag} (h : Turns b c) : Turns b (c.ownerAbsent e tag) := by
  unfold Blocks.ownerAbsent
  split
  · exact h
  · split
    · exact h.endWait
    · split
      · exact h.endWait
      · split
        · exact h.sendRound
        · exact (h.endWait.modVehicle fun _ => by exact rfl).delivers (Delivers.refl.toShelf).decideIfThere

theorem ownerLost {m : Move} (h : Turns b c) : Turns b (c.ownerLost e m) := by
  unfold Blocks.ownerLost
  split
  · exact h.endWait
  · exact h.ownerAbsent

theorem consignSend {tag : Tag} {fresh : Bool} (h : Turns b c) : Turns b (c.consignSend e tag fresh) := by
  have waits {d : Blocks} {id : Id8} (h : Turns b d) : Turns b (d.modMove tag fun x =>
      { x with
        consignId := some id
        wait := some { retry := false, deadline := after e.now (e.cfg.wAccept * 100) } }) :=
    h.modMove fun _ => by exact rfl
  unfold Blocks.consignSend
  split
  · exact h
  · split
    · exact h
    · split
      · split
        · exact h.ownerLost
        · dsimp only
          split
          · split
            · exact waits h.consignCounter
            · exact (waits h.consignCounter).place.bumpConsign
          · split
            · exact waits h
            · exact (waits h).place.bumpConsign
      · exact h.ownerLost

theorem sendExit {m : Move} {id : Nat} {fresh : Bool} (h : Turns b c) :
    Turns b (c.sendExit e m id fresh) := by
  unfold Blocks.sendExit
  split
  · exact h.ownerAbsent
  · exact ((h.modMove fun _ => by exact rfl).modVehicle fun _ => by exact rfl).sendGoto.consignSend

theorem deliverHere {m : Move} {id n : Nat} (h : Turns b c) : Turns b (c.deliverHere e m id n) := by
  unfold Blocks.deliverHere
  split
  · exact h
  · split
    · exact h.sendRound
    · exact (h.modVehicle fun _ => by exact rfl).delivers Delivers.refl.sendUnload

theorem sendOnward {m : Move} {id : Nat} (h : Turns b c) : Turns b (c.sendOnward e m id) := by
  unfold Blocks.sendOnward
  split
  · exact h.deliverHere
  · exact h.sendExit

theorem takeBackMove {m : Move} {id : Nat} (h : Turns b c) : Turns b (c.takeBackMove e m id) :=
  (h.delivers (Delivers.refl.leaveQueue.dropDelivery (e := e))).sendExit

theorem takeBack {p : Nat → Bool} (h : Turns b c) : Turns b (c.takeBack e p) := by
  refine h.foldl fun m h => ?_
  split
  · exact h
  · split
    · exact h.takeBackMove
    · exact h

theorem turnFromAbsent {k : Nat} (h : Turns b c) : Turns b (c.turnFromAbsent e k) :=
  h.foldl fun _ h => h.ownerLost

theorem takeUp {m : Move} {id : Nat} (h : Turns b c) : Turns b (c.takeUp e m id) := by
  have decided {d : Blocks} (h : Turns b d) : Turns b (d.decideIfThere e id) :=
    h.delivers Delivers.refl.decideIfThere
  unfold Blocks.takeUp
  split
  · exact h
  · dsimp only
    split
    · split
      · split
        · exact decided h
        · exact h.deliverHere
      · split
        · exact h
        · exact h.deliverHere
      · exact h
    · split
      · split
        · exact h.ownerAbsent
        · exact decided h
      · split
        · exact h.takeBackMove
        · exact h.takeBackMove
        · split
          · exact h
          · exact h.sendExit
        · exact h

/-! ### What is read off -/

theorem move?_cases (h : Turns b c) (tag : Tag) :
    (b.move? tag = none ∧ c.move? tag = none) ∨
      ∃ m m', b.move? tag = some m ∧ c.move? tag = some m' ∧ m.turned m' :=
  find?_of_forall₂ h.moves fun _ _ hm => by rw [hm]

theorem vehicle?_cases (h : Turns b c) (id : Nat) :
    (b.vehicle? id = none ∧ c.vehicle? id = none) ∨
      ∃ v v', b.vehicle? id = some v ∧ c.vehicle? id = some v' ∧ v.turned v' :=
  find?_of_forall₂ h.vehicles fun _ _ hv => by rw [hv]

theorem station?_cases (h : Turns b c) (n : Nat) :
    (b.station? n = none ∧ c.station? n = none) ∨
      ∃ s s', b.station? n = some s ∧ c.station? n = some s' ∧ s.delivered s' :=
  find?_of_forall₂ h.stations fun _ _ hs => by rw [hs.2]

theorem move?_some (h : Turns b c) {tag : Tag} {m : Move} (hm : b.move? tag = some m) :
    ∃ m', c.move? tag = some m' ∧ m.turned m' := by
  rcases h.move?_cases tag with ⟨hn, -⟩ | ⟨n, m', hn, hc, ht⟩
  · rw [hn] at hm
    cases hm
  · rw [hn] at hm
    cases hm
    exact ⟨m', hc, ht⟩

theorem vehicle?_some (h : Turns b c) {id : Nat} {v : Vehicle} (hv : b.vehicle? id = some v) :
    ∃ v', c.vehicle? id = some v' ∧ v.turned v' := by
  rcases h.vehicle?_cases id with ⟨hn, -⟩ | ⟨w, v', hw, hc, ht⟩
  · rw [hn] at hv
    cases hv
  · rw [hw] at hv
    cases hv
    exact ⟨v', hc, ht⟩

theorem peer (h : Turns b c) (k : Nat) : c.peer k = b.peer k := by
  unfold Blocks.peer
  rw [h.pd]

theorem not_due (h : Turns b c) (hb : ∀ x ∈ b.stationList, x.followOnDue = false) :
    ∀ x ∈ c.stationList, x.followOnDue = false := by
  intro x hx
  obtain ⟨s, hs, delivered⟩ := Calm.exists_of_mem_right h.stations hx
  exact delivered.1 (hb s hs)

end Turns
end Sys2Proof.Machine
end

section
/-! PROOFS. An ACCEPT that comes in (R121): O39. -/
namespace Sys2Proof.Machine

/-! ### What turning a vehicle does to the Move Table (R52, R123, R124) -/

theorem Blocks.sendRound_mm (e : Env) (m : Move) (id : Nat) (b : Blocks) :
    (b.sendRound e m id).mm = (b.modMove m.tag Move.endWait).mm :=
  (Delivers.refl.sendGoto (e := e)).mm

theorem Blocks.deliverHere_mm (e : Env) (m : Move) (id n : Nat) (b : Blocks) :
    (b.deliverHere e m id n).mm = b.mm ∨
      (b.deliverHere e m id n).mm = (b.modMove m.tag Move.endWait).mm := by
  unfold deliverHere
  split
  · exact .inl rfl
  · split
    · exact .inr (sendRound_mm e m id b)
    · exact .inl (Delivers.refl.sendUnload (e := e)).mm

/-- The record of a move whose vehicle is sent to deliver here loses its wait at most. -/
theorem Blocks.move?_deliverHere {e : Env} {m x : Move} {b : Blocks} (h : b.move? m.tag = some x)
    (id n : Nat) : (b.deliverHere e m id n).move? m.tag = some x ∨
      (b.deliverHere e m id n).move? m.tag = some x.endWait := by
  rcases b.deliverHere_mm e m id n with mm | mm
  · exact .inl ((move?_congr mm _).trans h)
  · refine .inr ((move?_congr mm _).trans ?_)
    rw [b.move?_modMove m.tag Move.endWait fun _ => rfl, h]
    rfl

/-- A move that is returned, and what stays meanwhile. -/
theorem Blocks.returnMove_spec {e : Env} {b : Blocks} {m : Move} (hm : b.move? m.tag = some m) :
    Turns (b.modMove m.tag fun _ => m.returned) (b.returnMove e m.tag) ∧
      ((b.returnMove e m.tag).move? m.tag = some m.returned ∨
        (b.returnMove e m.tag).move? m.tag = some m.returned.endWait) := by
  let d := (b.modMove m.tag fun _ => m.returned).reserve m.source m.tag
  have delivers : Delivers (b.modMove m.tag fun _ => m.returned) d := Delivers.refl.reserve
  have returned : d.move? m.returned.tag = some m.returned := by
    rw [delivers.move?]
    show (b.modMove m.tag fun _ => m.returned).move? m.tag = _
    have same : (b.modMove m.tag fun _ => m.returned).moveList =
        b.moveList.map fun x => if x.tag == m.tag then m.returned else x := b.moveList_modMove _ _
    unfold move? at hm ⊢
    rw [same, List.find?_map, show ((fun x : Move => x.tag == m.tag) ∘
      fun x : Move => if x.tag == m.tag then m.returned else x) = fun x : Move => x.tag == m.tag from ?_,
      hm, Option.map_some, if_pos (by simp)]
    funext x
    rw [Function.comp_apply]
    split
    next hx => rw [hx]; simp [Move.returned]
    next => rfl
  unfold returnMove
  rw [hm]
  dsimp only
  split
  · exact ⟨(Turns.refl.delivers delivers).deliverHere, move?_deliverHere returned _ _⟩
  · exact ⟨Turns.refl.delivers delivers, .inl returned⟩

/-! ### ACCEPT (R121) -/

/-- Settles O39. -/
theorem acceptActsByResult : Obligations.AcceptActsByResult := by
  intro s k id vehicle hk hs htags
  let act (r : AcceptResult) : Env → Blocks → Blocks := fun e b =>
    (b.greet e k).takeAccept e k.val id vehicle r
  have ran (r : AcceptResult) : exec (.accept k id vehicle r) s = .next (s.run (act r)) :=
    congrArg _ (hk.heardFrom rfl)
  have greeted := hk.greeted
  have work := greeted.work
  let b := s.b.quiet.greet s.env k
  have quiet : b.agenda = Agenda.none := work.agenda.trans hs.2.1
  refine ⟨fun hnone r => ?_, fun m v hm hv hrelearn => ?_⟩
  · have effect : act r s.env s.b.quiet = b := by
      unfold act Blocks.takeAccept
      rw [work.acceptedMove, show s.b.quiet.acceptedMove id vehicle = none from hnone]
    obtain ⟨bay, books, -⟩ := SameWork.ran (g := act r) hs.2 (by rw [effect]; exact work)
    exact ⟨s.run (act r), ran r, bay, books⟩
  · have accepted : b.acceptedMove id vehicle = some m := (work.acceptedMove id vehicle).trans hm
    have named : m.vehicle = some vehicle := by
      have holds := List.find?_some hm
      simp only [Bool.and_eq_true, beq_iff_eq] at holds
      exact holds.1.1.2
    have move : b.move? m.tag = some m :=
      (work.move? m.tag).trans (find?_of_mem_of_nodup (key := Move.tag) htags (List.mem_of_find?_eq_some hm))
    have entry : b.vehicle? vehicle = some v := (work.vehicle? vehicle).trans hv
    have raised {k' : Counter} {d : Blocks} {r : AcceptResult}
        (calm : Calm s.env (d.bump k') (s.run (act r)).b) (hc : d.counter k' = b.counter k')
        (hw : d.sp.counters.length = b.sp.counters.length) (hk' : k'.index ∉ passCounters)
        (h1 : k'.index ≠ Counter.received.index) (h2 : k'.index ≠ Counter.overflows.index) :
        Raised k' s (s.run (act r)) :=
      calm.raised hs.1 hk' (hc.trans (greeted.counter k' h1 h2)) (hw.trans greeted.width)
    refine ⟨?_, fun w hw hretry => ?_, ?_⟩
    · let f : Vehicle → Vehicle := fun v => { v with clearance := !v.relearn }
      let g : Move → Move := fun x => { x with consignee := some k.val, wait := none, cleared := true }
      have effect : act .taken s.env s.b.quiet =
          ((b.modVehicle vehicle f).modMove m.tag g).bump .taken := by
        unfold act Blocks.takeAccept
        rw [accepted]
      have none_due : (act .taken s.env s.b.quiet).agenda = Agenda.none := by
        rw [effect]
        exact quiet
      obtain ⟨zc, si, mm, du, -⟩ := State.run_frame (f := act .taken) hs.2 none_due
      have calm := State.run_calm (f := act .taken) hs.2 (by rw [none_due]; rfl)
      rw [effect] at zc si mm du calm
      have roster (j : Nat) : (s.run (act .taken)).b.vehicle? j = (b.modVehicle vehicle f).vehicle? j :=
        Blocks.vehicle?_congr zc j
      refine ⟨s.run (act .taken), ran _, ⟨f v, ?_, ?_⟩, ⟨g m, ?_, rfl, rfl⟩, ?_, fun j hj => ?_, ?_, ?_⟩
      · rw [roster, b.vehicle?_modVehicle vehicle f fun _ => rfl, entry]
        rfl
      · unfold f
        rw [hrelearn]
        rfl
      · rw [Blocks.move?_congr (b := (b.modVehicle vehicle f).modMove m.tag g) mm,
          Blocks.move?_modMove _ _ g fun _ => rfl,
          show (b.modVehicle vehicle f).move? m.tag = some m from move]
        rfl
      · exact raised calm rfl rfl (by decide) (by decide) (by decide)
      · rw [roster, b.vehicle?_modVehicle_of_ne f (fun _ => rfl) hj]
        exact work.vehicle? j
      · exact si.trans work.si
      · rw [SameBooks, du, show (((b.modVehicle vehicle f).modMove m.tag g).bump .taken).du = s.b.du from
          work.du]
        exact ⟨rfl, rfl, rfl, rfl, rfl⟩
    · let g : Move → Move := fun x =>
        { x with wait := some { retry := true, deadline := after s.now (s.cl.cfg.wRetry * 1000) } }
      have effect : act .busy s.env s.b.quiet = (b.modMove m.tag g).bump .busy := by
        unfold act Blocks.takeAccept
        rw [accepted]
        exact if_neg (by rw [hw]; simp [hretry])
      have none_due : (act .busy s.env s.b.quiet).agenda = Agenda.none := by
        rw [effect]
        exact quiet
      obtain ⟨zc, si, mm, -⟩ := State.run_frame (f := act .busy) hs.2 none_due
      have calm := State.run_calm (f := act .busy) hs.2 (by rw [none_due]; rfl)
      rw [effect] at zc si mm calm
      refine ⟨s.run (act .busy), ran _, ⟨g m, ?_, rfl⟩, ?_, zc.trans work.zc, si.trans work.si⟩
      · rw [Blocks.move?_congr (b := b.modMove m.tag g) mm, Blocks.move?_modMove _ _ g fun _ => rfl, move]
        rfl
      · exact raised calm rfl rfl (by decide) (by decide) (by decide)
    · let d := if b.carrierFaulted m then (b.modMove m.tag Move.returned).reserve m.source m.tag
        else b.returnMove s.env m.tag
      have effect : act .unknownStation s.env s.b.quiet = d.bump .consignReturned := by
        unfold act Blocks.takeAccept
        rw [accepted]
      have spec : ∃ f : Move → Move, Turns (b.modMove m.tag f) d ∧
          ∃ y, d.move? m.tag = some y ∧ y.dest = m.source ∧ y.wait = none := by
        unfold d
        split
        · refine ⟨Move.returned, Turns.refl.delivers Delivers.refl.reserve, m.returned, ?_, rfl, rfl⟩
          rw [(Delivers.refl.reserve (b := b.modMove m.tag Move.returned)).move?,
            b.move?_modMove m.tag Move.returned fun _ => rfl, move]
          rfl
        · obtain ⟨turns, found | found⟩ := Blocks.returnMove_spec (e := s.env) move
          · exact ⟨_, turns, _, found, rfl, rfl⟩
          · exact ⟨_, turns, _, found, rfl, rfl⟩
      obtain ⟨f, turns, y, found, dest, wait⟩ := spec
      have calm := State.run_calm (f := act .unknownStation) hs.2 (by
        rw [effect]
        exact turns.follow.trans (congrArg Agenda.follow quiet))
      rw [effect] at calm
      obtain ⟨y', found', passed⟩ := calm.move?_some (tag := m.tag) (m := y) found
      obtain ⟨terms, -, -, -, -, wait', -⟩ := passed.keeps
      refine ⟨s.run (act .unknownStation), ran _, ⟨y', found', ?_, wait'.trans wait⟩, ?_, ?_⟩
      · exact (congrArg (fun t : Nat × Nat × MoveClass × Option CarrierId × Time × Nat => t.2.1) terms).trans
          dest
      · exact raised calm (turns.counter _ (by decide) (by decide)) turns.width (by decide) (by decide)
          (by decide)
      · rw [calm.inbound]
        exact turns.inbound.trans (congrArg ZC.inbound work.zc)

end Sys2Proof.Machine
end

section
/-! PROOFS. What any well-formed record does before its owner acts, whatever its sender was before (R143,
R144, R148, R151): O29, O28. -/
namespace Sys2Proof.Machine

/-! ### What stays of peers, faults and the trunk -/

/-- Blocks that agree in the Peer Table, the Fault Unit, the Trunk Interface but its queue, and on whether
a follow-on is asked. -/
structure SameWatch (b c : Blocks) : Prop where
  pd : c.pd = b.pd
  fu : c.fu = b.fu
  ti : c.ti = { b.ti with queue := c.ti.queue }
  follow : c.agenda.follow = b.agenda.follow

namespace SameWatch
variable {e : Env} {b c d : Blocks}

theorem refl : SameWatch b b := ⟨rfl, rfl, rfl, rfl⟩

theorem trans (h : SameWatch b c) (h' : SameWatch c d) : SameWatch b d :=
  ⟨h'.pd.trans h.pd, h'.fu.trans h.fu, h'.ti.trans (by rw [h.ti]), h'.follow.trans h.follow⟩

theorem of_turns (h : Turns b c) : SameWatch b c := ⟨h.pd, h.fu, h.ti, h.follow⟩

theorem peer (h : SameWatch b c) (k : Nat) : c.peer k = b.peer k := by
  unfold Blocks.peer
  rw [h.pd]

theorem place (e : Env) (b : Blocks) (r : Record) : SameWatch b (b.place e r) := by
  obtain ⟨-, -, -, -, pd, fu, -, agenda, -, ti⟩ := b.place_frame e r
  exact ⟨pd, fu, ti, congrArg Agenda.follow agenda⟩

theorem removeCall (tag : Tag) (b : Blocks) : SameWatch b (b.removeCall tag) := ⟨rfl, rfl, rfl, rfl⟩

theorem modMove (tag : Tag) (f : Move → Move) (b : Blocks) : SameWatch b (b.modMove tag f) :=
  ⟨rfl, rfl, rfl, rfl⟩

theorem endCall (e : Env) (tag : Tag) (b : Blocks) : SameWatch b (b.endCall e tag) := by
  unfold Blocks.endCall
  split
  · exact refl
  next x _ =>
    have placed := place e (b.removeCall tag) ⟨none, .cancel x.id⟩
    exact ⟨placed.pd, placed.fu, placed.ti, placed.follow⟩

theorem enterWaiting (e : Env) (tag : Tag) (again : Bool) (b : Blocks) :
    SameWatch b (b.enterWaiting e tag again) := by
  unfold Blocks.enterWaiting
  dsimp only
  split <;> exact ⟨rfl, rfl, rfl, rfl⟩

theorem endCalling (e : Env) (b : Blocks) : SameWatch b (b.endCalling e) := by
  have folded (l : List Move) {c : Blocks} (h : SameWatch b c) :
      SameWatch b (l.foldl (fun b m => ((b.endCall e m.tag).enterWaiting e m.tag false).modMove m.tag
        fun x => { x with recallAt := none }) c) := by
    induction l generalizing c with
    | nil => exact h
    | cons m l ih =>
      exact ih (h.trans (((endCall e m.tag c).trans (enterWaiting e m.tag false _)).trans
        (modMove m.tag _ _)))
  exact folded _ refl

end SameWatch

/-! ### A record heard, whatever its sender was (R143, R144, R148, R151) -/

/-- What greeting a peer does to the peers and the trunk. -/
structure Met (e : Env) (k : Nat) (b c : Blocks) : Prop where
  peer : ∀ j, c.peer j = if j = k then (b.peer j).greeted e.now else b.peer j
  fu : c.fu = b.fu
  follow : c.agenda.follow = b.agenda.follow
  outcomes : c.ti.outcomes = true :: b.ti.outcomes.take 63
  lost : c.ti.lost = false
  heardAt : c.ti.heardAt = e.now
  mute : c.ti.mute = (b.ti.mute && decide (b.ti.muteHeard + 1 < 32))
  received : c.counter .received = (b.bump .received).counter .received

/-- What TI itself makes of a well-formed record. -/
theorem Blocks.heard_watch (e : Env) (b : Blocks) :
    (b.heard e).pd = b.pd ∧ (b.heard e).fu = b.fu ∧ (b.heard e).agenda.follow = b.agenda.follow ∧
      (b.heard e).ti.outcomes = true :: b.ti.outcomes.take 63 ∧ (b.heard e).ti.lost = false ∧
      (b.heard e).ti.heardAt = e.now ∧
      (b.heard e).ti.mute = (b.ti.mute && decide (b.ti.muteHeard + 1 < 32)) ∧
      (b.heard e).sp.counters = ((b.bump .received).outcome e true).sp.counters := by
  obtain ⟨-, -, -, -, pd, fu, -⟩ := (b.bump .received).outcome_frame e true
  have follow : ((b.bump .received).outcome e true).agenda.follow = b.agenda.follow :=
    congrArg Agenda.follow ((b.bump .received).outcome_agenda e true)
  have ti := (b.bump .received).outcome_ti e true
  have outcomes := congrArg TI.outcomes ti
  have mute : ((b.bump .received).outcome e true).ti.mute = b.ti.mute := by
    rw [ti]
    rfl
  have muteHeard : ((b.bump .received).outcome e true).ti.muteHeard = b.ti.muteHeard := by
    rw [ti]
    rfl
  let c (call : Bool) : Blocks :=
    let d := ((b.bump .received).outcome e true).modTI fun t => { t with heardAt := e.now, lost := false }
    if call then d.wantCall else d
  have fields (call : Bool) : (c call).pd = b.pd ∧ (c call).fu = b.fu ∧
      (c call).agenda.follow = b.agenda.follow ∧
      (c call).ti.outcomes = true :: b.ti.outcomes.take 63 ∧ (c call).ti.lost = false ∧
      (c call).ti.heardAt = e.now ∧ (c call).ti.mute = b.ti.mute ∧
      (c call).ti.muteHeard = b.ti.muteHeard ∧
      (c call).sp.counters = ((b.bump .received).outcome e true).sp.counters := by
    cases call <;> exact ⟨pd, fu, follow, outcomes, rfl, rfl, mute, muteHeard, rfl⟩
  have heard : b.heard e = let d := c ((b.bump .received).outcome e true).ti.lost
      if d.ti.mute then
        if 32 ≤ d.ti.muteHeard + 1 then
          (d.modTI fun t => { t with mute := false, failures := 0, muteHeard := 0 }).wantCall
        else d.modTI fun t => { t with muteHeard := t.muteHeard + 1 }
      else d := rfl
  obtain ⟨pd, fu, follow, outcomes, lost, heardAt, mute, muteHeard, counters⟩ :=
    fields ((b.bump .received).outcome e true).ti.lost
  rw [heard]
  dsimp only
  rw [mute, muteHeard]
  by_cases muted : b.ti.mute = true
  · rw [if_pos muted, muted]
    by_cases ends : 32 ≤ b.ti.muteHeard + 1
    · rw [if_pos ends]
      exact ⟨pd, fu, follow, outcomes, lost, heardAt,
        by simp [Nat.not_lt.2 ends], counters⟩
    · rw [if_neg ends]
      exact ⟨pd, fu, follow, outcomes, lost, heardAt,
        (mute.trans muted).trans (by simpa using Nat.lt_of_not_le ends), counters⟩
  · rw [if_neg muted]
    exact ⟨pd, fu, follow, outcomes, lost, heardAt, mute.trans (by simp [muted]), counters⟩

/-- A change of presence writes the peer's entry, sets its changed flag, and decides its moves afresh. -/
theorem Blocks.setPresence_spec {e : Env} {k : Bay} {p : Presence} {b : Blocks}
    (hk : k.val < b.pd.peers.length) :
    ∃ d : Blocks, b.setPresence e k p = d.reevaluateBay e k.val ∧ d.fu = b.fu ∧ d.ti = b.ti ∧ d.agenda = b.agenda ∧
      d.sp.counters = b.sp.counters ∧ d.mm = b.mm ∧ d.zc = b.zc ∧ d.si = b.si ∧
      ∀ j, d.peer j = if j = k.val then { b.peer j with
          presence := p
          staleSince := match p with
            | .stale => some e.now
            | .absent => (b.peer j).staleSince
            | _ => none
          changed := true } else b.peer j := by
  let f : Peer → Peer := fun x =>
    { x with
      presence := p
      staleSince := match p with
        | .stale => some e.now
        | .absent => x.staleSince
        | _ => none }
  refine ⟨(b.modPeer k.val f).setFlag (.changed k), rfl, rfl, rfl, rfl, rfl, rfl, rfl,
    rfl, fun j => ?_⟩
  let c := (b.modPeer k.val f).modSP fun p => { p with snapshot := p.snapshot.filter fun g => g != .changed k }
  have hc : k.val < c.pd.peers.length := by
    show k.val < (b.pd.peers.modify k.val f).length
    rwa [List.length_modify]
  show (c.modPeer k.val fun p => { p with changed := true }).peer j = _
  split
  next hj =>
    rw [hj, c.peer_modPeer _ _ hc, show c.peer k.val = f (b.peer k.val) from b.peer_modPeer _ f hk]
  next hj => rw [c.peer_modPeer_of_ne _ hj, show c.peer j = b.peer j from b.peer_modPeer_of_ne f hj]

theorem Met.greet (e : Env) (k : Bay) {b : Blocks} (hk : k.val < b.pd.peers.length) :
    Met e k.val b (b.greet e k) := by
  obtain ⟨pd, fu, follow, outcomes, lost, heardAt, mute, counters⟩ := b.heard_watch e
  have hk' : k.val < (b.heard e).pd.peers.length := pd ▸ hk
  have peer (j : Nat) : (b.heard e).peer j = b.peer j := by
    unfold Blocks.peer
    rw [pd]
  let c := (b.heard e).modPeer k.val fun x => { x with lastHeard := some e.now }
  have peer_c (j : Nat) : c.peer j = if j = k.val then { b.peer j with lastHeard := some e.now }
      else b.peer j := by
    split
    next hj => rw [hj, Blocks.peer_modPeer _ _ _ hk', peer]
    next hj => rw [Blocks.peer_modPeer_of_ne _ _ hj, peer]
  have received : (b.heard e).counter .received = (b.bump .received).counter .received :=
    (Blocks.counter_congr counters _).trans (Blocks.counter_outcome (by decide))
  unfold Blocks.greet Blocks.refresh
  dsimp only
  rw [peer]
  by_cases present : (b.peer k.val).presence = .present
  · rw [if_pos present]
    refine ⟨fun j => (peer_c j).trans ?_, fu, follow, outcomes, lost, heardAt, mute, received⟩
    split
    next hj =>
      rw [hj]
      unfold Peer.greeted
      rw [present]
      simp [← present]
    next => rfl
  · rw [if_neg present]
    obtain ⟨d, set, fu_d, ti_d, agenda_d, counters_d, -, -, -, peer_d⟩ :=
      Blocks.setPresence_spec (e := e) (p := .present) (b := c)
        (by
          show k.val < ((b.heard e).pd.peers.modify k.val _).length
          rwa [List.length_modify])
    have turned : Turns d (if (b.peer k.val).presence = .absent then
        (c.setPresence e k .present).takeBack e fun j => j == k.val else c.setPresence e k .present) := by
      rw [set]
      split
      · exact Turns.refl.reevaluateBay.takeBack
      · exact Turns.refl.reevaluateBay
    have ti := turned.ti
    rw [ti_d] at ti
    refine ⟨fun j => ?_, turned.fu.trans (fu_d.trans fu), turned.follow.trans ((congrArg _ agenda_d).trans follow),
      (congrArg TI.outcomes ti).trans outcomes, (congrArg TI.lost ti).trans lost,
      (congrArg TI.heardAt ti).trans heardAt, (congrArg TI.mute ti).trans mute,
      (turned.counter _ (by decide) (by decide)).trans ((Blocks.counter_congr counters_d _).trans received)⟩
    rw [turned.peer, peer_d, peer_c]
    split
    next hj => simp [hj, Peer.greeted, present]
    next => rfl

end Sys2Proof.Machine
end

section
/-! PROOFS. STATUS, HOLD, LINK and records for other bays (R135, R143, R148 to R151, R154): O29, O28. -/
namespace Sys2Proof.Machine

/-- What a record leaves of peers, faults and trunk after its command, where its owner kept to them. -/
structure MetAfter (now : Time) (k : Nat) (f : Peer → Peer) (s t : State) : Prop where
  peer : t.b.peer k = f ((s.b.peer k).greeted now)
  others : SamePeersBut k s.b t.b
  fu : t.b.fu = s.b.fu
  outcomes : t.b.ti.outcomes = true :: s.b.ti.outcomes.take 63
  lost : t.b.ti.lost = false
  heardAt : t.b.ti.heardAt = now
  mute : t.b.ti.mute = (s.b.ti.mute && decide (s.b.ti.muteHeard + 1 < 32))

/-- After greeting, an entry is written and the rest of the watch is kept; the end of the command keeps it
too. -/
theorem MetAfter.ran {s : State} {k : Bay} {cl : CL} {g : Env → Blocks → Blocks} {f : Peer → Peer}
    {e : Env} (hs : s.WellSized) (he : e = { now := s.now, node := cl.node, cfg := cl.cfg })
    (hg : SameWatch ((s.b.quiet.greet e k).modPeer k.val f) (g e s.b.quiet)) :
    MetAfter s.now k.val f s (s.runAs cl g) ∧ Calm e (g e s.b.quiet) (s.runAs cl g).b := by
  subst he
  let e : Env := { now := s.now, node := cl.node, cfg := cl.cfg }
  obtain ⟨-, -, -, peers, -⟩ := hs.1
  have bound : k.val < s.b.quiet.pd.peers.length := by
    rw [show s.b.quiet.pd.peers.length = 32 from peers]
    exact k.isLt
  have met := Met.greet e k bound
  have bound' : k.val < (s.b.quiet.greet e k).pd.peers.length := by
    by_contra h
    have same := met.peer k.val
    unfold Blocks.peer at same
    rw [List.getElem?_eq_none (Nat.le_of_not_lt h), if_pos rfl] at same
    exact absurd (congrArg Peer.presence same) (by simp [Peer.unknown])
  have follow : (g e s.b.quiet).agenda.follow = false := by
    rw [hg.follow]
    exact met.follow.trans (congrArg Agenda.follow hs.2.1)
  have calm : Calm e (g e s.b.quiet) (s.runAs cl g).b := by
    rw [State.runAs_rested hs.2]
    exact Calm.refl.settle (Blocks.followPhase_of_not_follow follow)
  have ti : (g e s.b.quiet).ti = { (s.b.quiet.greet e k).ti with queue := (g e s.b.quiet).ti.queue } :=
    hg.ti
  refine ⟨⟨?_, fun j hj => ?_, calm.fu.trans (hg.fu.trans met.fu), ?_, ?_, ?_, ?_⟩, calm⟩
  · rw [calm.peer, hg.peer, Blocks.peer_modPeer _ _ f bound', met.peer, if_pos rfl]
    rfl
  · rw [calm.peer, hg.peer, Blocks.peer_modPeer_of_ne _ f hj, met.peer, if_neg hj]
    rfl
  · rw [calm.ti, ti]
    exact met.outcomes
  · rw [calm.ti, ti]
    exact met.lost
  · rw [calm.ti, ti]
    exact met.heardAt
  · rw [calm.ti, ti]
    exact met.mute

/-! ### HOLD, LINK and foreign records -/

theorem Blocks.takeHold_watch (e : Env) (k d : Nat) (b : Blocks) :
    SameWatch (b.modPeer k fun p => { p with holdUntil := if d = 0 then none else some (after e.now (d * 100)) })
      (b.takeHold e k d) := by
  let c := b.modPeer k fun p => { p with holdUntil := if d = 0 then none else some (after e.now (d * 100)) }
  have taken : b.takeHold e k d =
      if (b.peer k).holdUntil.isSome = decide (d = 0) then c.reevaluateBay e k else c := rfl
  show SameWatch c _
  rw [taken]
  split
  · exact .of_turns Turns.refl.reevaluateBay
  · exact .refl

/-- An entry written as it was is no change. -/
theorem Blocks.modPeer_self (b : Blocks) (k : Nat) : b.modPeer k (fun p => p) = b := by
  unfold modPeer
  rw [show (fun p : Peer => p) = id from rfl, List.modify_id]

theorem State.heardAs_eq {s : State} {k : Bay} {cl : CL} {act : Env → Blocks → Blocks} {inRange : Bool}
    (hrun : s.cl.node.running = true) (hk : k ≠ s.cl.cfg.bay) (hr : inRange = true) :
    s.heardAs cl k inRange act = s.runAs cl fun e b => act e (b.greet e k) := by
  unfold State.heardAs
  rw [if_neg (by simp [hrun]), if_neg (by simp [hr]), if_neg hk]
  rfl

theorem answers_hold {s : State} {k : Bay} (hrun : s.cl.node.running = true) (hk : k ≠ s.cl.cfg.bay)
    (hs : s.WellSized) (d : Nat) :
    Answers (.hold k d) s fun t =>
      MetAfter s.now k.val (fun p => { p with
        holdUntil := if d = 0 then none else some (after s.now (d * 100)) }) s t ∧ t.cl = s.cl := by
  let act : Env → Blocks → Blocks := fun e b => (b.greet e k).takeHold e k.val d
  have ran : exec (.hold k d) s = .next (s.run act) := congrArg _ (State.heardAs_eq hrun hk rfl)
  exact ⟨s.run act, ran, (MetAfter.ran (g := act) hs rfl (Blocks.takeHold_watch _ _ _ _)).1, rfl⟩

theorem answers_link {s : State} {k : Bay} (hrun : s.cl.node.running = true) (hk : k ≠ s.cl.cfg.bay)
    (hs : s.WellSized) (x : LinkState) {n : Nat} (hn : n ≤ 64) :
    Answers (.link k x n) s fun t =>
      MetAfter s.now k.val (fun p => { p with link := some x, bad := some n }) s t ∧ t.cl = s.cl := by
  let act : Env → Blocks → Blocks := fun e b =>
    (b.greet e k).modPeer k.val fun p => { p with link := some x, bad := some n }
  have ran : exec (.link k x n) s = .next (s.run act) :=
    congrArg _ (State.heardAs_eq hrun hk (by simp [bodyInRange, hn]))
  exact ⟨s.run act, ran, (MetAfter.ran (g := act) hs rfl .refl).1, rfl⟩

/-- A record from a PRESENT peer that writes its entry alone leaves the bay's work as it was. -/
theorem answers_link_present {s : State} {k : Bay} (hk : s.hears k) (x : LinkState) {n : Nat}
    (hn : n ≤ 64) :
    Answers (.link k x n) s fun t =>
      t.b.peer k.val = { s.b.peer k.val with lastHeard := some s.now, link := some x, bad := some n } ∧
      SamePeersBut k.val s.b t.b ∧ SameBay s.b t.b ∧ SameBooks s.b t.b ∧ t.cl = s.cl := by
  let f : Peer → Peer := fun p => { p with link := some x, bad := some n }
  let act : Env → Blocks → Blocks := fun e b => (b.greet e k).modPeer k.val f
  have ran : exec (.link k x n) s = .next (s.run act) :=
    congrArg _ (hk.heardFrom (by simp [bodyInRange, hn]))
  have greeted := hk.greeted
  have work : SameWork s.b.quiet (act s.env s.b.quiet) := ⟨greeted.work.zc, greeted.work.si,
    greeted.work.mm, greeted.work.du, greeted.work.fu, greeted.work.out, greeted.work.agenda⟩
  obtain ⟨bay, books, -, -, calm⟩ := SameWork.ran (g := act) hk.2.2.2.2 work
  have present : ((s.b.quiet.greet s.env k).peer k.val).presence = .present := by
    rw [greeted.peer, if_pos rfl]
    exact hk.2.2.1
  refine ⟨s.run act, ran, ?_, fun j hj => ?_, bay, books, rfl⟩
  · rw [calm.peer, Blocks.peer_modPeer _ _ f (Blocks.lt_of_present present), greeted.peer, if_pos rfl]
    rfl
  · rw [calm.peer, Blocks.peer_modPeer_of_ne _ f hj, greeted.peer, if_neg hj]
    rfl

theorem answers_hold_present {s : State} {k : Bay} (hk : s.hears k) (d : Nat) :
    Answers (.hold k d) s fun t =>
      t.b.peer k.val = { s.b.peer k.val with
        lastHeard := some s.now
        holdUntil := if d = 0 then none else some (after s.now (d * 100)) } ∧
      SamePeersBut k.val s.b t.b ∧ t.b.fu = s.b.fu ∧ t.cl = s.cl := by
  let f : Peer → Peer := fun p =>
    { p with holdUntil := if d = 0 then none else some (after s.now (d * 100)) }
  let act : Env → Blocks → Blocks := fun e b => (b.greet e k).takeHold e k.val d
  have ran : exec (.hold k d) s = .next (s.run act) := congrArg _ (hk.heardFrom rfl)
  have greeted := hk.greeted
  have watch : SameWatch ((s.b.quiet.greet s.env k).modPeer k.val f) (act s.env s.b.quiet) :=
    Blocks.takeHold_watch s.env k.val d _
  have follow : (act s.env s.b.quiet).agenda.follow = false := by
    rw [watch.follow]
    exact (congrArg Agenda.follow greeted.work.agenda).trans (congrArg Agenda.follow hk.2.2.2.2.1)
  have calm := State.run_calm (f := act) hk.2.2.2.2 follow
  have present : ((s.b.quiet.greet s.env k).peer k.val).presence = .present := by
    rw [greeted.peer, if_pos rfl]
    exact hk.2.2.1
  refine ⟨s.run act, ran, ?_, fun j hj => ?_, calm.fu.trans (watch.fu.trans greeted.work.fu), rfl⟩
  · rw [calm.peer, watch.peer, Blocks.peer_modPeer _ _ f (Blocks.lt_of_present present), greeted.peer,
      if_pos rfl]
    rfl
  · rw [calm.peer, watch.peer, Blocks.peer_modPeer_of_ne _ f hj, greeted.peer, if_neg hj]
    rfl

/-- Settles O29. -/
theorem holdLinkAndForeignRecords : Obligations.HoldLinkAndForeignRecords := by
  refine ⟨fun s k hk => ⟨answers_hold_present hk, fun x n hn => answers_link_present hk x hn⟩,
    fun s k hrun hk hs => ⟨fun d => ?_, fun x n hn => ?_, ?_⟩⟩
  · obtain ⟨t, ran, met, cl⟩ := answers_hold hrun hk hs d
    exact ⟨t, ran, met.peer, met.others, met.lost, met.heardAt, met.fu, cl⟩
  · obtain ⟨t, ran, met, cl⟩ := answers_link hrun hk hs x hn
    exact ⟨t, ran, met.peer, met.others, met.lost, met.heardAt, met.fu, cl⟩
  · let act : Env → Blocks → Blocks := fun e b => b.greet e k
    have ran : exec (.otherBayRecord k) s = .next (s.run act) :=
      congrArg _ (State.heardAs_eq hrun hk rfl)
    obtain ⟨met, calm⟩ := MetAfter.ran (k := k) (cl := s.cl) (g := act) (f := fun p => p) hs rfl
      (by rw [Blocks.modPeer_self]; exact .refl)
    obtain ⟨-, -, -, peers, -, -, width, -⟩ := hs.1
    have greeted := Met.greet s.env k (b := s.b.quiet) (by
      rw [show s.b.quiet.pd.peers.length = 32 from peers]
      exact k.isLt)
    refine ⟨s.run act, ran, met.peer, met.others, ?_, met.heardAt, met.lost, met.outcomes, rfl⟩
    rw [Raised, show (s.run act).b.counter .received = (s.b.quiet.greet s.env k).counter .received from
      calm.counter .received (by decide), greeted.received, Blocks.counter_bump_self]
    · rfl
    · rw [show s.b.quiet.sp.counters.length = SP.counterCount from width]
      exact Counter.index_lt _

/-! ### STATUS (R149, R154) -/

theorem Blocks.takeStatus_watch (e : Env) (k : Nat) (st : StatusBody) (b : Blocks) :
    SameWatch (b.modPeer k (Peer.announced st)) (b.takeStatus e k st) := by
  unfold takeStatus
  dsimp only
  refine .of_turns ?_
  split
  · split
    · exact Turns.refl.reevaluate.takeBack
    · exact Turns.refl.takeBack
  · split
    · exact Turns.refl.reevaluate
    · exact Turns.refl

/-- Settles O28. -/
theorem statusOverwritesPeer : Obligations.StatusOverwritesPeer := by
  intro s k st hrun hk hs hrange
  let clash : Bool := decide (s.cl.node = .ready) && s.overlapped k st
  let cl : CL := if clash then { s.cl with node := .conflict } else s.cl
  let act : Env → Blocks → Blocks := fun e b =>
    if clash then ((b.greet e k).takeStatus e k.val st).endCalling e else (b.greet e k).takeStatus e k.val st
  have ran : exec (.status k st) s = .next (s.runAs cl act) :=
    congrArg _ (State.heardAs_eq hrun hk hrange)
  have watch (e : Env) :
      SameWatch ((s.b.quiet.greet e k).modPeer k.val (Peer.announced st)) (act e s.b.quiet) := by
    unfold act
    split
    · exact (Blocks.takeStatus_watch _ _ _ _).trans (.endCalling _ _)
    · exact Blocks.takeStatus_watch _ _ _ _
  obtain ⟨met, -⟩ := MetAfter.ran (k := k) (cl := cl) (g := act) hs rfl (watch _)
  have clash_iff : clash = true ↔ s.cl.node = .ready ∧ k.val < s.cl.cfg.bay.val ∧
      (s.b.peer k.val).window ≠ some (st.base, st.limit) ∧ st.base ≤ s.cl.cfg.limit ∧
      s.cl.cfg.base ≤ st.limit := by
    simp only [clash, State.overlapped, overlap, hrange, Bool.and_eq_true, decide_eq_true_eq, bne_iff_ne,
      Bool.true_and, and_assoc]
  refine ⟨s.runAs cl act, ran, met.peer, met.others, met.fu, ?_, met.lost, met.heardAt, met.mute, ?_⟩
  · show cl.cfg = _
    unfold cl
    split <;> rfl
  · show cl.node = _
    unfold cl
    by_cases h : clash = true
    · rw [if_pos h, if_pos (clash_iff.1 h)]
    · rw [if_neg h, if_neg fun h' => h (clash_iff.2 h')]

end Sys2Proof.Machine
end

section
/-! PROOFS. Silence ages peers (R143, R150 to R152, R124): O42. -/
namespace Sys2Proof.Machine

/-! ### DEST-HELD decided afresh (R47) -/

theorem Blocks.reevaluate_frame (e : Env) (p : Move → Bool) (b : Blocks) :
    (b.reevaluate e p).zc = b.zc ∧ (b.reevaluate e p).si = b.si ∧ (b.reevaluate e p).pd = b.pd ∧
      (b.reevaluate e p).moveList = b.moveList.map fun m =>
        if m.state == .waiting && p m then { m with destHeld := b.mustHold e m } else m := by
  unfold reevaluate
  dsimp only
  split <;> exact ⟨rfl, rfl, rfl, live_updWhere _ _ _⟩

/-- A move that does not wait is not decided afresh. -/
theorem Blocks.mem_reevaluate {e : Env} {p : Move → Bool} {b : Blocks} {tag : Tag} {m : Move}
    (hm : b.move? tag = some m) (hs : m.state ≠ .waiting) :
    (b.reevaluate e p).move? tag = some m ∧ m ∈ (b.reevaluate e p).moveList := by
  obtain ⟨-, -, -, list⟩ := b.reevaluate_frame e p
  let f : Move → Move := fun m =>
    if m.state == .waiting && p m then { m with destHeld := b.mustHold e m } else m
  have same : f m = m := if_neg (by simp [hs])
  have tag_f (x : Move) : (f x).tag = x.tag := by
    unfold f
    split <;> rfl
  have found : (b.reevaluate e p).move? tag = some m := by
    unfold move? at hm ⊢
    rw [list, List.find?_map, show ((fun x : Move => x.tag == tag) ∘ f) = fun x : Move => x.tag == tag from
      funext fun x => by rw [Function.comp_apply, tag_f], hm, Option.map_some]
    exact congrArg some same
  exact ⟨found, (move?_mem _ found).1⟩

/-! ### The waits for a peer that is ABSENT (R124) -/

theorem Blocks.ownerAbsent_mm {e : Env} {b : Blocks} {tag : Tag} {m : Move} (h : b.move? tag = some m) :
    (b.ownerAbsent e tag).mm = (b.modMove tag Move.endWait).mm := by
  unfold ownerAbsent
  rw [h]
  dsimp only
  split
  · rfl
  · split
    · rfl
    · split
      · rw [sendRound_mm, (move?_mem _ h).2]
      · exact ((Delivers.refl.toShelf (e := e)).decideIfThere (e := e)).mm

/-- The record of a move whose owner is lost waits no longer; every other stays as it was. -/
theorem Blocks.move?_ownerLost {e : Env} {b : Blocks} {x m : Move} {tag : Tag}
    (hm : b.move? tag = some m) :
    (b.ownerLost e x).move? tag = some (if tag = x.tag then m.endWait else m) := by
  have ended : (b.modMove x.tag Move.endWait).move? tag = some (if tag = x.tag then m.endWait else m) := by
    split
    next h =>
      rw [← h, b.move?_modMove tag Move.endWait fun _ => rfl, hm]
      rfl
    next h => rw [b.move?_modMove_of_ne Move.endWait (fun _ => rfl) h, hm]
  unfold ownerLost
  split
  · exact ended
  · cases hx : b.move? x.tag with
    | none =>
      have ne : tag ≠ x.tag := fun h => by
        rw [h, hx] at hm
        cases hm
      unfold ownerAbsent
      rw [hx, if_neg ne]
      exact hm
    | some m' => exact (move?_congr (ownerAbsent_mm hx) tag).trans ended

/-- Once the moves of a list have lost their owner, none of them waits for an answer. -/
theorem Blocks.move?_foldl_ownerLost (e : Env) (l : List Move) {tag : Tag} {b : Blocks} {m : Move}
    (hm : b.move? tag = some m) :
    ∃ y, (l.foldl (fun b m => b.ownerLost e m) b).move? tag = some y ∧ y.state = m.state ∧
      ((m.wait = none ∨ ∃ x ∈ l, x.tag = tag) → y.wait = none) := by
  induction l generalizing b m with
  | nil => exact ⟨m, hm, rfl, fun h => h.elim id fun ⟨x, hx, _⟩ => absurd hx List.not_mem_nil⟩
  | cons x l ih =>
    obtain ⟨y, hy, state, wait⟩ := ih (move?_ownerLost (e := e) (x := x) hm)
    refine ⟨y, hy, state.trans ?_, fun h => wait ?_⟩
    · split <;> rfl
    · by_cases here : tag = x.tag
      · exact .inl (by rw [if_pos here]; rfl)
      · rw [if_neg here]
        rcases h with h | ⟨z, hz, tag_z⟩
        · exact .inl h
        · rcases List.mem_cons.1 hz with rfl | hz
          · exact absurd tag_z.symm here
          · exact .inr ⟨z, hz, tag_z⟩

/-- The moves whose carriers wait for a peer's answer, by their vehicles. -/
theorem Blocks.awaitsOwner_of {b : Blocks} {m : Move} {v : Vehicle}
    (hv : m.vehicle.bind b.vehicle? = some v) (hw : m.wait.isSome = true)
    (h : (v.state = .toExit ∧ v.clearance = false) ∨ v.state = .faulted ∨ v.relearn = true) :
    b.awaitsOwner m = true := by
  unfold awaitsOwner
  rw [hv, Option.any_some]
  split
  · exact hw
  next hn =>
    obtain ⟨relearn, faulted⟩ : v.relearn = false ∧ v.state ≠ .faulted := by simpa using hn
    rcases h with ⟨exit, clear⟩ | h | h
    · simp [exit, clear]
    · exact absurd h faulted
    · rw [relearn] at h
      cases h

/-! ### Peers that grow STALE (R151, R152) -/

/-- The entry of a peer that has become STALE. -/
def Peer.staled (now : Time) (p : Peer) : Peer :=
  { p with presence := .stale, staleSince := some now, changed := true }

/-- What aging peers leaves alone. -/
structure Ages (b c : Blocks) : Prop where
  inbound : c.zc.inbound = b.zc.inbound
  fu : c.fu = b.fu
  ti : c.ti = { b.ti with queue := c.ti.queue }
  follow : c.agenda.follow = b.agenda.follow

theorem Ages.of_turns {b d c : Blocks} (h : Turns d c) (hz : d.zc = b.zc) (hf : d.fu = b.fu)
    (ht : d.ti = b.ti) (ha : d.agenda = b.agenda) : Ages b c :=
  ⟨h.inbound.trans (congrArg _ hz), h.fu.trans hf, h.ti.trans (by rw [ht]),
    h.follow.trans (congrArg _ ha)⟩

theorem Ages.trans {b c d : Blocks} (h : Ages b c) (h' : Ages c d) : Ages b d :=
  ⟨h'.inbound.trans h.inbound, h'.fu.trans h.fu, h'.ti.trans (by rw [h.ti]), h'.follow.trans h.follow⟩

/-- An entry that differs from that of an unknown peer stands in the table. -/
theorem Blocks.lt_of_peer {b : Blocks} {k : Nat} (h : b.peer k ≠ Peer.unknown) : k < b.pd.peers.length := by
  by_contra hk
  refine h ?_
  unfold peer
  rw [List.getElem?_eq_none (Nat.le_of_not_lt hk)]
  rfl

theorem Blocks.setPresence_stale {e : Env} {k : Bay} {b : Blocks} (hk : b.peer k.val ≠ Peer.unknown) :
    Ages b (b.setPresence e k .stale) ∧
      ∀ j, (b.setPresence e k .stale).peer j =
        if j = k.val then (b.peer j).staled e.now else b.peer j := by
  obtain ⟨d, set, fu, ti, agenda, -, -, zc, -, peer⟩ :=
    setPresence_spec (e := e) (p := .stale) (lt_of_peer hk)
  rw [set]
  exact ⟨.of_turns Turns.refl.reevaluateBay zc fu ti agenda,
    fun j => (Turns.refl.reevaluateBay (e := e)).peer j |>.trans (peer j)⟩

/-- Every PRESENT peer of a list has become STALE, but the own bay. -/
theorem Blocks.foldl_stale (e : Env) (l : List Bay) (b : Blocks) :
    let c := l.foldl (fun b k =>
      if (b.peer k.val).presence = .present ∧ k ≠ e.cfg.bay then b.setPresence e k .stale else b) b
    Ages b c ∧ ∀ k : Bay, c.peer k.val =
      if k ∈ l ∧ (b.peer k.val).presence = .present ∧ k ≠ e.cfg.bay then (b.peer k.val).staled e.now
      else b.peer k.val := by
  induction l generalizing b with
  | nil => exact ⟨⟨rfl, rfl, rfl, rfl⟩, fun k => (if_neg fun h => absurd h.1 List.not_mem_nil).symm⟩
  | cons x l ih =>
    rw [List.foldl_cons]
    by_cases hx : (b.peer x.val).presence = .present ∧ x ≠ e.cfg.bay
    · rw [if_pos hx]
      have known : b.peer x.val ≠ Peer.unknown := fun h => by
        rw [h] at hx
        exact absurd hx.1 (by decide)
      obtain ⟨ages, peer⟩ := setPresence_stale (e := e) known
      obtain ⟨ages', peer'⟩ := ih (b.setPresence e x .stale)
      refine ⟨ages.trans ages', fun k => ?_⟩
      rw [peer', peer]
      by_cases hk : k = x
      · rw [hk, if_pos rfl, if_neg (by simp [Peer.staled]), if_pos ⟨List.mem_cons_self, hx⟩]
      · rw [if_neg fun h => hk (Fin.ext h)]
        exact if_congr (and_congr_left' (by simp [hk])) rfl rfl
    · rw [if_neg hx]
      obtain ⟨ages', peer'⟩ := ih b
      refine ⟨ages', fun k => (peer' k).trans ?_⟩
      by_cases hk : k = x
      · rw [hk, if_neg fun h => hx h.2, if_neg fun h => hx h.2]
      · exact if_congr (and_congr_left' (by simp [hk])) rfl rfl

/-- Every PRESENT peer has become STALE, but the own bay. -/
theorem Blocks.staleAll_spec (e : Env) (b : Blocks) :
    Ages b (b.staleAll e) ∧ ∀ k : Bay, (b.staleAll e).peer k.val =
      if (b.peer k.val).presence = .present ∧ k ≠ e.cfg.bay then (b.peer k.val).staled e.now
      else b.peer k.val := by
  obtain ⟨ages, peer⟩ := b.foldl_stale e (List.finRange 32)
  unfold staleAll
  refine ⟨ages, fun k => (peer k).trans ?_⟩
  exact if_congr (and_iff_right (List.mem_finRange k)) rfl rfl

/-! ### The end of such a command -/

/-- Turning the carriers of a lost owner gives occasion for park requests alone. -/
theorem Blocks.ownerLost_agenda (e : Env) (m : Move) (b : Blocks) :
    (b.ownerLost e m).agenda = { b.agenda with park := (b.ownerLost e m).agenda.park } := by
  unfold ownerLost
  split
  · rfl
  · unfold ownerAbsent
    split
    · rfl
    · split
      · rfl
      · split
        · rfl
        · split
          · exact (Delivers.refl.sendGoto (e := e)).agenda
          · exact ((Delivers.refl.toShelf (e := e)).decideIfThere (e := e)).agenda

theorem Blocks.turnFromAbsent_agenda (e : Env) (k : Nat) (b : Blocks) :
    (b.turnFromAbsent e k).agenda = { b.agenda with park := (b.turnFromAbsent e k).agenda.park } := by
  have folded (l : List Move) (b : Blocks) :
      (l.foldl (fun b m => b.ownerLost e m) b).agenda =
        { b.agenda with park := (l.foldl (fun b m => b.ownerLost e m) b).agenda.park } := by
    induction l generalizing b with
    | nil => rfl
    | cons m l ih =>
      rw [List.foldl_cons, ih]
      rw [ownerLost_agenda]
  exact folded _ _

/-- A peer that is ABSENT holds every move to it, so none of them is made known to be bound (R46, R47). -/
theorem Blocks.reevaluateBay_of_absent {e : Env} {k : Nat} {b : Blocks} (hk : k ≠ e.cfg.bay.val)
    (hp : (b.peer k).presence = .absent) : (b.reevaluateBay e k).agenda = b.agenda := by
  unfold reevaluateBay reevaluate
  dsimp only
  rw [if_neg]
  · rfl
  · rw [Bool.not_eq_true, List.any_eq_false]
    intro m _ h
    simp only [Bool.and_eq_true, beq_iff_eq] at h
    obtain ⟨⟨⟨-, owner⟩, -⟩, free⟩ := h
    unfold mustHold at free
    rw [owner] at free
    simp [hk, hp] at free

/-- Settles O42. -/
theorem silenceAgesPeers : Obligations.SilenceAgesPeers := by
  intro s hrun hr
  refine ⟨fun hlost hsilent => ?_, fun k h hk hpresent hheard hpassed => ?_,
    fun k h hk hstale hsince hpassed => ?_, fun k u hu hpassed => ?_⟩
  · let g : Env → Blocks → Blocks := fun e b =>
      if e.node.running ∧ !b.ti.lost ∧ passed e.now b.ti.heardAt (e.cfg.tSilent * 1000) then
        (b.modTI fun t => { t with lost := true }).staleAll e
      else b
    let c := s.b.quiet.modTI fun t => { t with lost := true }
    have effect : g s.env s.b.quiet = c.staleAll s.env :=
      if_pos ⟨hrun, by simp [hlost], hsilent⟩
    obtain ⟨ages, peer⟩ := c.staleAll_spec s.env
    have calm := State.run_calm (f := g) hr (by
      rw [effect]
      exact ages.follow.trans (congrArg Agenda.follow hr.1))
    rw [effect] at calm
    refine ⟨s.run g, rfl, ?_, fun k hk hp => ?_, fun k hp => ?_, calm.inbound.trans ages.inbound,
      calm.fu.trans ages.fu⟩
    · rw [calm.ti, ages.ti]
      rfl
    · rw [calm.peer]
      exact (peer k).trans (if_pos ⟨hp, hk⟩)
    · rw [calm.peer]
      exact (peer k).trans (if_neg fun h => hp h.1)
  · let g : Env → Blocks → Blocks := fun e b =>
      let p := b.peer k.val
      if e.node.running ∧ k ≠ e.cfg.bay ∧ p.presence = .present ∧
          p.lastHeard.any fun t => passed e.now t p.patience then
        b.setPresence e k .stale
      else b
    have effect : g s.env s.b.quiet = s.b.quiet.setPresence s.env k .stale :=
      if_pos ⟨hrun, hk, hpresent, by
        rw [show s.b.quiet.peer k.val = s.b.peer k.val from rfl, hheard]
        exact hpassed⟩
    obtain ⟨ages, peer⟩ := Blocks.setPresence_stale (e := s.env) (k := k) (b := s.b.quiet) (by
      intro h
      rw [show s.b.peer k.val = Peer.unknown from h] at hpresent
      exact absurd hpresent (by decide))
    have calm := State.run_calm (f := g) hr (by
      rw [effect]
      exact ages.follow.trans (congrArg Agenda.follow hr.1))
    rw [effect] at calm
    refine ⟨s.run g, rfl, ?_, fun j hj => ?_, calm.inbound.trans ages.inbound, calm.fu.trans ages.fu⟩
    · rw [calm.peer, peer, if_pos rfl]
      rfl
    · rw [calm.peer, peer, if_neg hj]
      rfl
  · let g : Env → Blocks → Blocks := fun e b =>
      let p := b.peer k.val
      if e.node.running ∧ k ≠ e.cfg.bay ∧ p.presence = .stale ∧
          p.staleSince.any fun t => passed e.now t (e.cfg.tAbsent * 1000) then
        (b.setPresence e k .absent).turnFromAbsent e k.val
      else b
    have effect : g s.env s.b.quiet = (s.b.quiet.setPresence s.env k .absent).turnFromAbsent s.env k.val :=
      if_pos ⟨hrun, hk, hstale, by
        rw [show s.b.quiet.peer k.val = s.b.peer k.val from rfl, hsince]
        exact hpassed⟩
    obtain ⟨d, set, fu, ti, agenda, -, mm, zc, si, peer⟩ :=
      Blocks.setPresence_spec (e := s.env) (k := k) (p := .absent) (b := s.b.quiet)
        (Blocks.lt_of_peer (by
          intro h
          rw [show s.b.peer k.val = Peer.unknown from h] at hstale
          exact absurd hstale (by decide)))
    rw [set] at effect
    let c := d.reevaluateBay s.env k.val
    have turns : Turns d (c.turnFromAbsent s.env k.val) := Turns.refl.reevaluateBay.turnFromAbsent
    have ages : Ages s.b.quiet (c.turnFromAbsent s.env k.val) := .of_turns turns zc fu ti agenda
    have calm := State.run_calm (f := g) hr (by
      rw [effect]
      exact ages.follow.trans (congrArg Agenda.follow hr.1))
    rw [effect] at calm
    refine ⟨s.run g, rfl, ?_, fun j hj => ?_, calm.inbound.trans ages.inbound, calm.fu.trans ages.fu,
      fun tag m v hm hcarrying howner hv hwait hstate => ?_⟩
    · rw [calm.peer, turns.peer, peer, if_pos rfl]
      rfl
    · rw [calm.peer, turns.peer, peer, if_neg hj]
      rfl
    · obtain ⟨zc_c, si_c, pd_c, -⟩ := d.reevaluate_frame s.env fun m => d.owner s.env m.dest == some k.val
      obtain ⟨found, mem⟩ := Blocks.mem_reevaluate (e := s.env)
        (p := fun m => d.owner s.env m.dest == some k.val) ((Blocks.move?_congr mm tag).trans hm)
        (by rw [hcarrying]; nofun)
      have window (j : Nat) : (c.peer j).window = (s.b.peer j).window := by
        rw [show c.peer j = d.peer j from congrArg (fun p : PD => (p.peers[j]?).getD Peer.unknown) pd_c,
          peer]
        split <;> rfl
      have owner : c.owner s.env m.dest = some k.val := by
        rw [← howner]
        unfold Blocks.owner Peer.serves
        simp only [window, show c.station? m.dest = s.b.station? m.dest from
          Blocks.station?_congr (si_c.trans si) _]
      have awaits : c.awaitsOwner m = true := by
        refine Blocks.awaitsOwner_of ?_ hwait hstate
        rw [← hv, show c.vehicle? = s.b.vehicle? from funext (Blocks.vehicle?_congr (zc_c.trans zc))]
      have listed : m ∈ c.moveList.filter fun m => m.state == .carrying && c.owner s.env m.dest == some k.val &&
          c.awaitsOwner m :=
        List.mem_filter.2 ⟨mem, by simp [hcarrying, owner, awaits]⟩
      obtain ⟨y, hy, state, wait⟩ := Blocks.move?_foldl_ownerLost s.env _ found
      obtain ⟨-, tag_m⟩ := Blocks.move?_mem _ hm
      have no_wait := wait (.inr ⟨m, listed, tag_m⟩)
      have other : k.val ≠ s.env.cfg.bay.val := fun h => hk (Fin.ext h)
      have quiet : c.agenda = Agenda.none := by
        rw [Blocks.reevaluateBay_of_absent other (by rw [peer, if_pos rfl]), agenda]
        exact hr.1
      have park : (c.turnFromAbsent s.env k.val).agenda =
          { Agenda.none with park := (c.turnFromAbsent s.env k.val).agenda.park } := by
        rw [Blocks.turnFromAbsent_agenda, quiet]
      have settled : (s.run g).b = (g s.env s.b.quiet).settle s.env s.b := State.run_rested hr _
      rw [effect] at settled
      obtain ⟨mm', -, -⟩ := Blocks.settle_of_park s.env (c.turnFromAbsent s.env k.val) s.b
        (by rw [park]; rfl) (by rw [park]; rfl) (by rw [park]; rfl)
      rw [← settled] at mm'
      exact ⟨y, (Blocks.move?_congr mm' tag).trans hy, no_wait, state.trans hcarrying⟩
  · let g : Env → Blocks → Blocks := fun e b =>
      if (b.peer k.val).holdUntil.any fun t => passed e.now t 0 then
        (b.modPeer k.val fun p => { p with holdUntil := none }).reevaluateBay e k.val
      else b
    let c := s.b.quiet.modPeer k.val fun p => { p with holdUntil := none }
    have effect : g s.env s.b.quiet = c.reevaluateBay s.env k.val :=
      if_pos (by
        rw [show s.b.quiet.peer k.val = s.b.peer k.val from rfl, hu]
        exact hpassed)
    have turns : Turns c (c.reevaluateBay s.env k.val) := Turns.refl.reevaluateBay
    have calm := State.run_calm (f := g) hr (by
      rw [effect]
      exact turns.follow.trans (congrArg Agenda.follow hr.1))
    rw [effect] at calm
    have bound : k.val < s.b.quiet.pd.peers.length := Blocks.lt_of_peer (by
      intro h
      rw [show s.b.peer k.val = Peer.unknown from h] at hu
      cases hu)
    refine ⟨s.run g, rfl, ?_, fun j hj => ?_, calm.inbound.trans turns.inbound, calm.fu.trans turns.fu⟩
    · rw [calm.peer, turns.peer, Blocks.peer_modPeer _ _ _ bound]
      rfl
    · rw [calm.peer, turns.peer, Blocks.peer_modPeer_of_ne _ _ hj]
      rfl

end Sys2Proof.Machine
end

section
/-! PROOFS. What becomes of a call at the end of its window, and the call pass (R92, R93, R95). -/
namespace Sys2Proof.Machine

/-- A time that lies ahead, by less than half the range of node time, has not passed (R1). -/
theorem passed_after {now : Time} {ms : Nat} (hl : 1 ≤ ms) (hu : ms < 2147483648) :
    passed now (after now ms) 0 = false := by
  have ahead : now - (now + BitVec.ofNat 32 ms) = -BitVec.ofNat 32 ms := by
    bv_omega
  have toNat : (-BitVec.ofNat 32 ms).toNat = 4294967296 - ms := by
    rw [BitVec.toNat_neg, BitVec.toNat_ofNat]
    omega
  unfold passed since after
  rw [ahead, BitVec.toInt_eq_toNat_cond, toNat, if_neg (by omega)]
  simp
  omega

/-! ### The end of a call window (R95) -/

/-- The record of a call that ended without a bid waits for its recall time. -/
theorem Blocks.moveList_noBid (e : Env) (c : CallEntry) (b : Blocks) :
    ∀ n ∈ (b.noBid e c).moveList, n.tag = c.tag →
      n.state = .waiting ∧ n.recallAt = some (after e.now (e.cfg.wRecall * 1000)) := by
  have recalled (d : Blocks) (f : Move → Move)
      (hf : ∀ x, (f x).tag = x.tag ∧ (f x).state = .waiting ∧ (f x).recallAt = x.recallAt)
      (hd : ∀ x ∈ d.moveList, x.tag = c.tag → x.recallAt = some (after e.now (e.cfg.wRecall * 1000))) :
      ∀ n ∈ (d.modMove c.tag f).moveList, n.tag = c.tag →
        n.state = .waiting ∧ n.recallAt = some (after e.now (e.cfg.wRecall * 1000)) := by
    rw [moveList_modMove]
    intro n hn ht
    obtain ⟨x, hx, rfl⟩ := List.mem_map.1 hn
    obtain ⟨tag, state, recallAt⟩ := hf x
    by_cases hxt : (x.tag == c.tag) = true
    · rw [if_pos hxt]
      exact ⟨state, recallAt.trans (hd x hx (by simpa using hxt))⟩
    · rw [if_neg hxt] at ht
      simp [ht] at hxt
  have first : ∀ x ∈ ((b.removeCall c.tag).modMove c.tag fun m =>
      { m with recallAt := some (after e.now (e.cfg.wRecall * 1000)) }).moveList, x.tag = c.tag →
      x.recallAt = some (after e.now (e.cfg.wRecall * 1000)) := by
    rw [moveList_modMove]
    intro x hx ht
    obtain ⟨y, -, rfl⟩ := List.mem_map.1 hx
    by_cases hyt : (y.tag == c.tag) = true
    · rw [if_pos hyt]
    · rw [if_neg hyt] at ht
      simp [ht] at hyt
  unfold noBid enterWaiting
  dsimp only
  split <;> exact recalled _ _ (fun _ => ⟨rfl, rfl, rfl⟩) first

theorem Blocks.noBid_frame (e : Env) (c : CallEntry) (b : Blocks) :
    (b.noBid e c).zc = b.zc ∧ (b.noBid e c).fu = b.fu ∧
      (b.noBid e c).du.calls = b.du.calls.filter (fun x => x.tag != c.tag) ∧
      (b.noBid e c).agenda.follow = b.agenda.follow ∧
      ((b.noBid e c).move? c.tag).isSome = (b.move? c.tag).isSome := by
  obtain ⟨zc, -, du, -, -, fu, -⟩ := ((b.removeCall c.tag).modMove c.tag fun m =>
    { m with recallAt := some (after e.now (e.cfg.wRecall * 1000)) }).enterWaiting_frame e c.tag false
  refine ⟨zc, fu, congrArg DU.calls du, ?_, ?_⟩
  · unfold noBid enterWaiting
    dsimp only
    split <;> rfl
  · unfold noBid
    rw [move?_enterWaiting, Option.isSome_map]
    refine (congrArg Option.isSome ((b.removeCall c.tag).move?_modMove c.tag (fun m =>
      { m with recallAt := some (after e.now (e.cfg.wRecall * 1000)) }) fun _ => rfl)).trans ?_
    rw [Option.isSome_map]
    rfl

/-- Settles O43. -/
theorem callWindowDecides : Obligations.CallWindowDecides := by
  intro s id c hs hc hcalling hdue
  let g : Env → Blocks → Blocks := fun e b =>
    match b.du.calls.find? fun c => c.id == id with
    | none => b
    | some c =>
      if b.callState c = some .calling ∧ passed e.now c.windowEnd 0 then
        match c.best with
        | some best => if e.node.halted then b.noBid e c else b.awardCall e c best
        | none => b.noBid e c
      else b
  have ran : exec (.callWindowEnd id) s = .next (s.run g) := rfl
  have decided : g s.env s.b.quiet = match c.best with
      | some best => if s.cl.node.halted then s.b.quiet.noBid s.env c
          else s.b.quiet.awardCall s.env c best
      | none => s.b.quiet.noBid s.env c := by
    unfold g
    rw [show s.b.quiet.du.calls.find? (fun c => c.id == id) = some c from hc]
    exact if_pos ⟨hcalling, hdue⟩
  have id_c : c.id = id := by simpa using List.find?_some hc
  refine ⟨fun best hb ha hroom => ?_, fun hb hl hu => ?_⟩
  · let r : Record := ⟨none, .award c.id best.bay best.vehicle⟩
    let d := s.b.quiet.place s.env r
    obtain ⟨zc_d, si_d, mm_d, du_d, -, -, -, agenda_d, -, -⟩ := s.b.quiet.place_frame s.env r
    have effect : g s.env s.b.quiet = ((d.modMove c.tag fun m => { m with state := .awarded }).modCalls
        fun l => l.map fun x => if x.id = c.id then
          { x with awardDeadline := some (after s.now s.cl.cfg.wSend) } else x).bump .callsAwarded := by
      rw [decided, hb]
      dsimp only
      rw [if_neg (by simp [(NodeState.sends_of_active ha).1])]
      rfl
    have none_due : (g s.env s.b.quiet).agenda = Agenda.none := by
      rw [effect]
      exact agenda_d.trans hs.2.1
    obtain ⟨zc, si, mm, du, -⟩ := State.run_frame (f := g) hs.2 none_due
    have calm := State.run_calm (f := g) hs.2 (by rw [none_due]; rfl)
    rw [effect] at zc si mm du calm
    have count : s.b.quiet.ti.count < Config.queueSize := by
      have : s.b.ti.count + 1 ≤ Config.queueSize := hroom
      exact this
    have counter : d.counter .callsAwarded = s.b.counter .callsAwarded :=
      Blocks.counter_place r (by decide)
    refine ⟨_, ran, ?_, ?_, ?_, ?_, zc.trans zc_d, si.trans si_d, ?_⟩
    · unfold Blocks.moveState
      rw [Blocks.move?_congr mm c.tag]
      refine (congrArg _ (d.move?_modMove c.tag (fun m => { m with state := .awarded })
        fun _ => rfl)).trans ?_
      rw [Blocks.move?_congr mm_d]
      obtain ⟨m, hm, -⟩ := Option.map_eq_some_iff.1 hcalling
      rw [show s.b.quiet.move? c.tag = some m from hm]
      rfl
    · rw [← id_c]
      exact calm.queue r (s.b.quiet.mem_place s.env (r := r) ha count) rfl
    · rw [du]
      have found : d.du.calls.find? (fun x => x.id == id) = some c := by
        rw [du_d]
        exact hc
      have := find?_map_call (f := fun x => { x with
        awardDeadline := some (after s.now s.cl.cfg.wSend) }) rfl found
      rw [← id_c] at this ⊢
      exact this
    · exact calm.raised hs.1 (by decide) counter (s.b.quiet.counters_length_place s.env r)
    · rw [du]
      exact (congrArg DU.bids du_d :)
  · have effect : g s.env s.b.quiet = s.b.quiet.noBid s.env c := by
      rw [decided, hb]
    obtain ⟨zc, fu, calls, follow, known⟩ := s.b.quiet.noBid_frame s.env c
    have calm := State.run_calm (f := g) hs.2 (by
      rw [effect, follow]
      exact congrArg Agenda.follow hs.2.1)
    rw [effect] at calm
    have waits := s.b.quiet.moveList_noBid s.env c
    have not_eligible : ∀ n ∈ (s.b.quiet.noBid s.env c).moveList, n.tag = c.tag →
        n.eligible s.now = false := by
      intro n hn ht
      unfold Move.eligible
      rw [(waits n hn ht).2]
      have ahead : passed s.env.now (after s.env.now (s.env.cfg.wRecall * 1000)) 0 = false :=
        passed_after (by show 1 ≤ s.cl.cfg.wRecall * 1000; omega)
          (by show s.cl.cfg.wRecall * 1000 < 2147483648; omega)
      have not_due : passed s.now (after s.now (s.cl.cfg.wRecall * 1000)) 0 = false := ahead
      simp [not_due]
    have stands : ((s.b.quiet.noBid s.env c).move? c.tag).isSome = true := by
      rw [known]
      obtain ⟨m, hm, -⟩ := Option.map_eq_some_iff.1 hcalling
      rw [show s.b.quiet.move? c.tag = some m from hm]
      rfl
    obtain ⟨m, hm⟩ := Option.isSome_iff_exists.1 stands
    obtain ⟨mem, tag_m⟩ := Blocks.move?_mem _ hm
    obtain ⟨m', hm', passed⟩ := calm.move?_some hm
    refine ⟨_, ran, fun x hx tag_x => ?_, ⟨m', hm', ?_, ?_⟩, ?_, ?_⟩
    · rcases calm.calls x hx with hx | ⟨n, hn, tag_n, eligible⟩
      · rw [calls] at hx
        simp [tag_x] at hx
      · rw [show n.eligible s.env.now = false from not_eligible n hn (tag_n.trans tag_x)] at eligible
        cases eligible
    · rcases passed.state_cases with state | state | state
      · exact .inl (state.trans (waits m mem tag_m).1)
      · exact .inr state
      · obtain ⟨n, hn, tag_n, calling | eligible⟩ := calm.calling m' (Blocks.move?_mem _ hm').1 state
        · rw [(waits n hn (tag_n.trans (passed.tag.trans tag_m))).1] at calling
          cases calling
        · rw [show n.eligible s.env.now = false from
            not_eligible n hn (tag_n.trans (passed.tag.trans tag_m))] at eligible
          cases eligible
    · obtain ⟨-, -, -, recallAt, -⟩ := passed.keeps
      exact recallAt.trans (waits m mem tag_m).2
    · rw [calm.inbound]
      exact congrArg ZC.inbound zc
    · rw [calm.fu]
      exact fu

/-! ### The call pass (R92, R93) -/

/-- The call that a call pass has opened for a move stands: the move is CALLING, its entry is in the list,
and its CALL waits to be sent. -/
def Blocks.CallOpen (m : Move) (x : CallEntry) (r : Record) (b : Blocks) : Prop :=
  b.moveState m.tag = some .calling ∧ x ∈ b.du.calls ∧ r ∈ b.ti.queue

/-- The entry a call is opened with (R93). -/
def Blocks.openedEntry (e : Env) (m : Move) (b : Blocks) : CallEntry where
  id := b.nextCall
  tag := m.tag
  windowEnd := after e.now e.cfg.wCall
  best := none
  bids := 0
  awardDeadline := none

def Blocks.openedRecord (e : Env) (m : Move) (b : Blocks) : Record :=
  ⟨none, .call b.nextCall m.tag m.cls m.source (m.urgency e.now)⟩

/-- Opening a call changes the move, adds the entry, and places the CALL. -/
theorem Blocks.openCall_spec (e : Env) (m : Move) (b : Blocks) :
    (b.openCall e m).mm = (b.modMove m.tag fun x =>
        { x with state := .calling, callId := some b.nextCall }).mm ∧
      (b.openCall e m).du.calls = b.du.calls ++ [b.openedEntry e m] ∧
      (∀ r ∈ b.ti.queue, r ∈ (b.openCall e m).ti.queue) ∧
      (e.node.active = true → b.ti.count < Config.queueSize →
        b.openedRecord e m ∈ (b.openCall e m).ti.queue) := by
  let d := (b.modMove m.tag fun x => { x with state := .calling, callId := some b.nextCall }).modDU
    fun d => { d with calls := d.calls ++ [b.openedEntry e m], callCounter := b.nextCall + 1 }
  obtain ⟨-, -, mm, du, -⟩ := d.place_frame e (b.openedRecord e m)
  refine ⟨mm, congrArg DU.calls du, fun r hr => ?_, fun ha hc => ?_⟩
  · exact Blocks.mem_place_of_mem e d (r := b.openedRecord e m)
      (by simp [openedRecord, replaces, isStatus, isLink, kindCode]) hr
  · exact Blocks.mem_place e d (r := b.openedRecord e m) ha hc

/-- The state of a move after a call is opened for a move. -/
theorem Blocks.moveState_openCall {e : Env} {m : Move} {b : Blocks} {tag : Tag}
    (h : tag = m.tag ∧ (b.move? tag).isSome = true ∨ b.moveState tag = some .calling) :
    (b.openCall e m).moveState tag = some .calling := by
  unfold moveState
  rw [move?_congr (b.openCall_spec e m).1 tag]
  by_cases same : tag = m.tag
  · rw [same]
    refine (congrArg _ (b.move?_modMove m.tag (fun x =>
      { x with state := .calling, callId := some b.nextCall }) fun _ => rfl)).trans ?_
    have stands : (b.move? m.tag).isSome = true := by
      rw [← same]
      rcases h with ⟨-, h⟩ | h
      · exact h
      · obtain ⟨x, hx, -⟩ := Option.map_eq_some_iff.1 h
        rw [hx]
        rfl
    obtain ⟨x, hx⟩ := Option.isSome_iff_exists.1 stands
    rw [hx]
    rfl
  · refine (congrArg _ (b.move?_modMove_of_ne (tag := m.tag) (fun x =>
      { x with state := .calling, callId := some b.nextCall }) (fun _ => rfl) same)).trans ?_
    rcases h with ⟨h, -⟩ | h
    · exact absurd h same
    · exact h

/-- A call stays open while the pass opens others. -/
theorem Blocks.CallOpen.openCall {m : Move} {x : CallEntry} {r : Record} {b : Blocks}
    (h : b.CallOpen m x r) (e : Env) (n : Move) : (b.openCall e n).CallOpen m x r := by
  obtain ⟨state, entry, waits⟩ := h
  obtain ⟨-, calls, queue, -⟩ := b.openCall_spec e n
  refine ⟨moveState_openCall (.inr state), ?_, queue r waits⟩
  rw [calls]
  exact List.mem_append_left _ entry

theorem Blocks.CallOpen.foldl {m : Move} {x : CallEntry} {r : Record} {b : Blocks} (e : Env)
    (h : b.CallOpen m x r) (l : List Move) :
    (l.foldl (fun b m => if b.mayCall e then b.openCall e m else b) b).CallOpen m x r := by
  induction l generalizing b with
  | nil => exact h
  | cons n l ih =>
    refine ih ?_
    dsimp only
    split
    · exact h.openCall e n
    · exact h

/-- The call pass opens a call for the move that is first in order. -/
theorem Blocks.callPass_open {e : Env} {b : Blocks} {m : Move} {rest : List Move}
    (hm : b.mayCall e = true) (hc : b.ti.count < Config.queueSize)
    (h : sortBy (Move.before e.now) (b.moveList.filter (Move.eligible e.now)) = m :: rest) :
    (b.callPass e).CallOpen m (b.openedEntry e m) (b.openedRecord e m) := by
  have mem : m ∈ b.moveList := by
    have : m ∈ sortBy (Move.before e.now) (b.moveList.filter (Move.eligible e.now)) := by
      rw [h]
      exact List.mem_cons_self
    exact (List.mem_filter.1 ((mem_sortBy _ _).1 this)).1
  have stands : (b.move? m.tag).isSome = true :=
    List.find?_isSome.2 ⟨m, mem, by simp⟩
  have active : e.node.active = true := by
    unfold mayCall at hm
    simp only [Bool.and_eq_true, beq_iff_eq] at hm
    rw [hm.1.1.1.1]
    rfl
  obtain ⟨-, calls, -, placed⟩ := b.openCall_spec e m
  unfold callPass
  rw [h, List.foldl_cons, if_pos hm]
  refine CallOpen.foldl e ⟨moveState_openCall (.inl ⟨rfl, stands⟩), ?_, placed active hc⟩ rest
  rw [calls]
  exact List.mem_append_right _ List.mem_cons_self

/-- Settles O44. -/
theorem callPassOpensCall : Obligations.CallPassOpensCall := by
  intro s m rest hr hroom hmay hsorted
  let b := s.b.quiet.wantCall
  have agenda : s.b.quiet.agenda = Agenda.none := hr.1
  have idle : b.agenda.follow = false ∧ b.agenda.bind = false ∧ b.agenda.park = false := by
    refine ⟨?_, ?_, ?_⟩
    · exact congrArg Agenda.follow agenda
    · exact congrArg Agenda.bind agenda
    · exact congrArg Agenda.park agenda
  obtain ⟨follow, bind, park⟩ := idle
  have ran : exec .recallTimePassed s = .next (s.run fun _ b => b.wantCall) := rfl
  have after : (s.run fun _ b => b.wantCall).b = b.settle s.env s.b := State.run_rested hr _
  have count : b.ti.count < Config.queueSize := by
    have : s.b.ti.count + 1 ≤ Config.queueSize := hroom
    exact this
  have opened := Blocks.callPass_open (e := s.env) (b := b) hmay count hsorted
  have passed : b.passes s.env = { b.callPass s.env with agenda := Agenda.none } := by
    unfold Blocks.passes Blocks.bindPhase Blocks.parkPhase Blocks.callPhase
    rw [Blocks.followPhase_of_not_follow follow, bind]
    simp only [Bool.false_and, Bool.false_eq_true, if_false]
    rw [park]
    rfl
  have calm : Calm s.env (b.passes s.env) (b.settle s.env s.b) := by
    rw [← Blocks.settle_passes]
    exact Calm.refl.settle (Blocks.followPhase_of_not_follow rfl)
  obtain ⟨zc, si⟩ := b.settle_of_call s.env s.b follow bind park
  obtain ⟨-, -, mm, -, -, -, -, du⟩ := Blocks.settle_frame s.env (b.passes s.env) s.b rfl
  rw [Blocks.settle_passes] at mm du
  rw [passed] at mm du calm
  obtain ⟨state, entry, waits⟩ := opened
  have called := b.passes_of_call s.env follow bind park
  refine ⟨_, ran, ?_⟩
  simp only [State.queued]
  rw [after]
  refine ⟨?_, ⟨b.openedEntry s.env m, ?_, rfl, rfl, rfl, rfl, rfl⟩, calm.queue _ waits rfl, zc, si, ?_⟩
  · unfold Blocks.moveState
    rw [Blocks.move?_congr mm m.tag]
    exact state
  · rw [du]
    exact entry
  · rw [calm.bids]
    have := called.bids
    rw [passed] at this
    exact this

end Sys2Proof.Machine
end

section
/-! PROOFS. Timers that choose the first in an order: the lender of an ask (R107), the parking segment (R87). -/
namespace Sys2Proof.Machine

/-! ### The first in an order -/

/-- Nothing comes before the first element, where what does not come before is transitive. -/
theorem firstBy_first {α : Type} {lt : α → α → Bool} (irrefl : ∀ x, lt x x = false)
    (trans : ∀ x y z, lt x y = false → lt y z = false → lt x z = false) {l : List α} {a : α}
    (asymm : ∀ x y, lt x y = true → lt y x = false)
    (h : firstBy lt l = some a) : ∀ x ∈ l, lt x a = false := by
  induction l generalizing a with
  | nil => cases h
  | cons c l ih =>
    unfold firstBy at h
    intro x hx
    split at h
    next hn =>
      obtain rfl := (firstBy_eq_none _ _).1 hn
      cases h
      rw [List.mem_singleton.1 hx]
      exact irrefl _
    next d hd =>
      have tail := ih hd
      split at h
      next before =>
        cases h
        rcases List.mem_cons.1 hx with rfl | hx
        · exact asymm _ _ before
        · exact tail x hx
      next not_before =>
        cases h
        rcases List.mem_cons.1 hx with rfl | hx
        · exact irrefl _
        · exact trans x d _ (tail x hx) (by simpa using not_before)

/-- The first of a list of estimates has the least of them (R74). -/
theorem firstBy_leastFirst {l : List (Nat × Nat)} {a : Nat × Nat} (h : firstBy leastFirst l = some a) :
    ∀ x ∈ l, a.1 ≤ x.1 := by
  have before (x y : Nat × Nat) : leastFirst x y = false ↔ y.1 ≤ x.1 ∧ (x.1 = y.1 → y.2 ≤ x.2) := by
    simp [leastFirst]
  intro x hx
  refine ((before x a).1 (firstBy_first (fun x => ?_) (fun x y z hxy hyz => ?_) (fun x y hxy => ?_) h
    x hx)).1
  · simp [before]
  · rw [before] at *
    omega
  · rw [before]
    simp only [leastFirst, Bool.or_eq_true, decide_eq_true_eq, Bool.and_eq_true, beq_iff_eq] at hxy
    omega

/-- The place of least estimate, of those that `p` names: it is one of them, and no other has a lesser
estimate, one without an estimate being counted as the greatest (R2, R74). -/
theorem firstBy_estimate {α : Type} {est : α → Option Nat} {key : α → Nat} {l : List α} {n : Nat}
    (hb : ∀ a k, est a = some k → k ≤ 65535)
    (h : (firstBy leastFirst (l.filterMap fun a => (est a).map fun k => (k, key a))).map Prod.snd =
      some n) :
    ∃ a ∈ l, key a = n ∧ ∀ x ∈ l, (est a).getD 65535 ≤ (est x).getD 65535 := by
  obtain ⟨⟨k, n⟩, hf, rfl⟩ := Option.map_eq_some_iff.1 h
  obtain ⟨a, ha, hka⟩ := List.mem_filterMap.1 (firstBy_mem _ _ hf)
  obtain ⟨k', hk, hka⟩ := Option.map_eq_some_iff.1 hka
  cases hka
  refine ⟨a, ha, rfl, fun x hx => ?_⟩
  rw [hk]
  cases hxk : est x with
  | none => exact hb a k hk
  | some j =>
    exact firstBy_leastFirst hf (j, key x) (List.mem_filterMap.2 ⟨x, hx, by rw [hxk]; rfl⟩)

/-- An estimate is a sum that stops at 65535 (R2, R67). -/
theorem Blocks.estimateOf_le {e : Env} {b : Blocks} {v : Vehicle} {g : Goal} {n : Nat}
    (h : b.estimateOf e v g = some n) : n ≤ 65535 := by
  have stops (l : List Nat) {a : Nat} (ha : a ≤ 65535) : l.foldl (fun a x => sat16 (a + x)) a ≤ 65535 := by
    induction l generalizing a with
    | nil => exact ha
    | cons x l ih => exact ih (Nat.min_le_right _ _)
  unfold estimateOf at h
  split at h
  · cases h
  · obtain ⟨p, -, rfl⟩ := Option.map_eq_some_iff.1 h
    exact stops _ (Nat.zero_le _)

/-! ### Asking for vehicles (R106, R107) -/

/-- The lender is a peer that lends, and none that lends announces more idle vehicles (R107). -/
theorem Blocks.lender_spec {e : Env} {b : Blocks} {k : Nat} (h : b.lender e = some k) :
    b.lends e k = true ∧ ∀ j, j < e.cfg.nBays → b.lends e j = true → (b.peer j).idle ≤ (b.peer k).idle := by
  refine ⟨(List.mem_filter.1 (firstBy_mem _ _ h)).2, fun j hj hl => ?_⟩
  have := firstBy_first (fun x => by simp)
    (fun x y z hxy hyz => by simp only [decide_eq_false_iff_not] at *; omega)
    (fun x y hxy => by simp only [decide_eq_true_eq, decide_eq_false_iff_not] at *; omega) h
    j (List.mem_filter.2 ⟨List.mem_range.2 hj, hl⟩)
  simpa using this

/-- Settles O45. -/
theorem starvationAsksLender : Obligations.StarvationAsksLender := by
  intro s u n k hs hroom hnode hrec hlink hask hstarve hdue hlender hn hpos
  let g : Env → Blocks → Blocks := fun e b =>
    if b.du.ask.isNone ∧ b.du.starve.any fun t => passed e.now t (e.cfg.tStarve * 1000) then
      if b.mayAsk e then b.askAttempt e else b.modDU fun d => { d with starve := some e.now }
    else b
  have ran : exec .starveExpiry s = .next (s.run g) := rfl
  let c := s.b.quiet.modDU fun d =>
    { d with
      ask := some {
        id := s.b.du.askCounter
        lender := k
        count := n
        deadline := after s.now (s.cl.cfg.wAsk * 100) }
      askCounter := s.b.du.askCounter + 1 }
  let r : Record := ⟨some k, .ask s.b.du.askCounter n⟩
  have effect : g s.env s.b.quiet = (c.place s.env r).bump .loansAsked := by
    have due : s.b.quiet.du.ask.isNone = true ∧
        (s.b.quiet.du.starve.any fun t => passed s.env.now t (s.env.cfg.tStarve * 1000)) = true := by
      refine ⟨?_, ?_⟩
      · show s.b.du.ask.isNone = true
        rw [hask]
        rfl
      · show s.b.du.starve.any _ = true
        rw [hstarve]
        exact hdue
    have may : s.b.quiet.mayAsk s.env = true := by
      simp only [Blocks.mayAsk, Bool.and_eq_true, beq_iff_eq, bne_iff_ne]
      exact ⟨⟨hnode, hrec⟩, hlink⟩
    have count : s.b.quiet.askCount s.env = n := hn.symm
    show (if _ then _ else _) = _
    rw [if_pos due, if_pos may]
    unfold Blocks.askAttempt
    rw [show s.b.quiet.lender s.env = some k from hlender]
    dsimp only
    rw [count, if_neg (by omega)]
    rfl
  obtain ⟨zc_c, si_c, mm_c, du_c, -, -, -, agenda_c, -⟩ := c.place_frame s.env r
  have none_due : (g s.env s.b.quiet).agenda = Agenda.none := by
    rw [effect]
    exact agenda_c.trans hs.2.1
  have calm := State.run_calm (f := g) hs.2 (by rw [none_due]; rfl)
  obtain ⟨zc, si, mm, du, -⟩ := State.run_frame (f := g) hs.2 none_due
  rw [effect] at calm zc si mm du
  have active : s.env.node.active = true := by
    rw [show s.env.node = .ready from hnode]
    rfl
  have count_lt : c.ti.count < Config.queueSize := by
    have : s.b.ti.count + 1 ≤ Config.queueSize := hroom
    exact this
  obtain ⟨lends, most⟩ := Blocks.lender_spec hlender
  simp only [Blocks.lends, Bool.and_eq_true, beq_iff_eq, Option.isNone_iff_eq_none] at lends
  obtain ⟨⟨⟨⟨⟨⟨-, presence⟩, node⟩, -⟩, link⟩, hold⟩, -⟩ := lends
  refine ⟨_, ran, ?_, ?_, calm.queue r (c.mem_place s.env (r := r) active count_lt) rfl, ?_, presence, node,
    link, hold, most, ⟨zc.trans zc_c, si.trans si_c, mm.trans mm_c⟩, ?_, ?_⟩
  · rw [calm.ask]
    exact (congrArg DU.ask du_c :)
  · rw [calm.askCounter]
    exact (congrArg DU.askCounter du_c :)
  · exact calm.raised hs.1 (by decide) (Blocks.counter_place r (by decide))
      (c.counters_length_place s.env r)
  · rw [du]
    exact (congrArg DU.calls du_c :)
  · rw [du]
    exact (congrArg DU.bids du_c :)

/-! ### Park requests (R86, R87) -/

/-- What differs in the starvation start alone holds the same lists. -/
theorem Blocks.sameBooks_of_starve {b c : Blocks} {x : Option Time} (h : c.du = { b.du with starve := x }) :
    SameBooks b c := by
  unfold SameBooks
  rw [h]
  exact ⟨rfl, rfl, rfl, rfl, rfl⟩

/-- Settles O48. -/
theorem dueVehicleParks : Obligations.DueVehicleParks := by
  intro s v p hnode hr hv hidle hbound hrelearn hbid htarget hdue hp
  let g : Env → Blocks → Blocks := fun e b => if e.node.parks then b.parkOne e v.id else b
  have ran : exec (.idleParkDue v.id) s = .next (s.run g) := rfl
  have parks : s.env.node.parks = true ∧ s.env.node ≠ .haltedDuplicate := by
    rcases hnode with h | h <;>
    · rw [show s.env.node = _ from h]
      exact ⟨rfl, by simp⟩
  have effect : g s.env s.b.quiet =
      (s.b.quiet.modVehicle v.id (Vehicle.commanded (parkJob p))).emitZone (.goto v.id (parkJob p)) := by
    have due : s.b.quiet.parkDue s.env v = true := by
      have bid : s.b.quiet.bidNames v.id = false := hbid
      have passed : passed s.env.now v.idleSince (s.env.cfg.tIdlePark * 1000) = true := hdue
      simp only [Blocks.parkDue, Blocks.candidate, Vehicle.free, hidle, hbound, hrelearn, bid, htarget,
        passed]
      rfl
    show (if s.env.node.parks = true then _ else _) = _
    rw [if_pos parks.1]
    unfold Blocks.parkOne
    rw [show s.b.quiet.vehicle? v.id = some v from hv]
    dsimp only
    rw [if_pos due, show s.b.quiet.parkingFor s.env v = some p from hp]
    dsimp only
    unfold Blocks.sendGoto
    rw [if_neg parks.2, show s.b.quiet.vehicle? v.id = some v from hv]
    simp [htarget]
  have none_due : (g s.env s.b.quiet).agenda = Agenda.none := by
    rw [effect]
    exact hr.1
  obtain ⟨zc, si, mm, du, out⟩ := State.run_frame (f := g) hr none_due
  rw [effect] at zc si mm du out
  obtain ⟨q, hq, rfl, least⟩ := firstBy_estimate (est := fun q => s.b.estimateOf s.env v (.seg q))
    (key := id) (fun _ _ h => Blocks.estimateOf_le h) hp
  have vehicle : s.b.quiet.vehicle? v.id = some v := hv
  refine ⟨_, ran, ⟨Vehicle.commanded (parkJob q) v, ?_, hidle, rfl, rfl⟩, ?_, ?_, fun k hk hroom => ?_,
    fun x hx => ?_, ?_, mm, si, ?_⟩
  · rw [Blocks.vehicle?_congr zc]
    refine (s.b.quiet.vehicle?_modVehicle v.id (Vehicle.commanded (parkJob q)) fun _ => rfl).trans ?_
    rw [vehicle]
    rfl
  · rw [out]
    rfl
  · simpa using (List.mem_filter.1 hq).2
  · exact least k (List.mem_filter.2 ⟨List.mem_range.2 hk, by simpa using hroom⟩)
  · rw [Blocks.vehicle?_congr zc]
    exact s.b.quiet.vehicle?_modVehicle_of_ne (Vehicle.commanded (parkJob q)) (fun _ => rfl) hx
  · rw [zc]
    rfl
  · exact Blocks.sameBooks_of_starve du

end Sys2Proof.Machine
end

section
/-! PROOFS. What ends, strands or suspends a move (R46 to R48, R53 to R56, R80, R81, R89, R99): the move of
one tag alone changes, vehicles are unbound and left, deliveries are dropped; `Closes` says what stays. -/
namespace Sys2Proof.Machine

/-- Setting a flag of the node's own leaves the others (R172). -/
theorem Blocks.flag_setFlag_own {b : Blocks} {f : Flag} (hf : ∀ k, f ≠ .changed k) (g : Flag) :
    (b.setFlag f).flag g = (decide (g = f) || b.flag g) := by
  cases f with
  | changed k => exact absurd rfl (hf k)
  | _ => cases g <;> rfl

/-- What a vehicle keeps whose move ends. -/
def Vehicle.released (v v' : Vehicle) : Prop :=
  (v'.bound = v.bound ∨ v'.bound = none) ∧
    v' = { v with state := v'.state, bound := v'.bound, arrival := v'.arrival, clearance := v'.clearance
                  idleSince := v'.idleSince, job := v'.job, echo := v'.echo, jobDone := v'.jobDone
                  given := v'.given, phase := v'.phase, reserved := v'.reserved }

theorem Vehicle.released.refl (v : Vehicle) : v.released v := ⟨.inl rfl, rfl⟩

theorem Vehicle.released.trans {v w u : Vehicle} (h : v.released w) (h' : w.released u) : v.released u := by
  refine ⟨?_, ?_⟩
  · rcases h'.1 with bound | bound
    · rw [bound]
      exact h.1
    · exact .inr bound
  · rw [h'.2, h.2]

/-- A record of the tag is a record of the tag still; any other is as it was. -/
def Move.closed (tag : Tag) (m m' : Move) : Prop := m' = m ∨ (m.tag = tag ∧ m'.tag = tag)

theorem Move.closed.trans {tag : Tag} {m n p : Move} (h : m.closed tag n) (h' : n.closed tag p) :
    m.closed tag p := by
  rcases h with rfl | ⟨m_tag, n_tag⟩
  · exact h'
  · rcases h' with rfl | ⟨-, p_tag⟩
    · exact .inr ⟨m_tag, n_tag⟩
    · exact .inr ⟨m_tag, p_tag⟩

/-- What the operations that end the work for one move leave alone. -/
structure Closes (tag : Tag) (b c : Blocks) : Prop where
  counter : ∀ k : Counter, k.index ∉ passCounters → c.counter k = b.counter k
  width : c.sp.counters.length = b.sp.counters.length
  follow : c.agenda.follow = b.agenda.follow
  service : c.out.service = b.out.service
  station : c.out.station = b.out.station
  seqCounter : c.mm.seqCounter = b.mm.seqCounter
  segments : c.zc.segments = b.zc.segments
  linkReset : c.si.linkReset = b.si.linkReset
  moves : List.Forall₂ (Move.closed tag) b.moveList c.moveList
  stations : List.Forall₂ Station.delivered b.stationList c.stationList
  vehicles : List.Forall₂ Vehicle.released b.vehicles c.vehicles
  calls : ∀ x ∈ c.du.calls, x ∈ b.du.calls
  flag : ∀ f, b.flag f = true → c.flag f = true

namespace Closes
variable {tag : Tag} {e : Env} {b c d : Blocks}

theorem refl : Closes tag b b where
  counter _ _ := rfl
  width := rfl
  follow := rfl
  service := rfl
  station := rfl
  seqCounter := rfl
  segments := rfl
  linkReset := rfl
  moves := List.forall₂_same.2 fun _ _ => .inl rfl
  stations := List.forall₂_same.2 fun s _ => .refl s
  vehicles := List.forall₂_same.2 fun v _ => .refl v
  calls _ hx := hx
  flag _ hf := hf

theorem delivers (h : Closes tag b c) (hd : Delivers c d) : Closes tag b d where
  counter k hk := (hd.counter k).trans (h.counter k hk)
  width := (congrArg (fun x : SP => x.counters.length) hd.sp).trans h.width
  follow := hd.follow.trans h.follow
  service := hd.service.trans h.service
  station := hd.station.trans h.station
  seqCounter := (congrArg MM.seqCounter hd.mm).trans h.seqCounter
  segments := hd.segments.trans h.segments
  linkReset := hd.linkReset.trans h.linkReset
  moves := by
    rw [hd.moveList]
    exact h.moves
  stations := forall₂_trans Station.delivered.trans h.stations hd.stations
  vehicles := forall₂_trans Vehicle.released.trans h.vehicles
    (hd.vehicles.imp fun v v' hv => ⟨.inl (by rw [hv.2]), by rw [hv.2]⟩)
  calls x hx := h.calls x (by rwa [hd.du] at hx)
  flag f hf := by
    refine Eq.trans ?_ (h.flag f hf)
    cases f <;> simp only [Blocks.flag, Blocks.peer, hd.sp, hd.pd]

/-! ### The elementary changes -/

theorem modVehicle {id : Nat} {f : Vehicle → Vehicle} (h : Closes tag b c)
    (hf : ∀ v : Vehicle, v.released (f v)) : Closes tag b (c.modVehicle id f) :=
  { h with
    vehicles := by
      rw [Blocks.vehicles_modVehicle, List.forall₂_map_right_iff]
      refine h.vehicles.imp fun v v' hv => ?_
      split
      · exact hv.trans (hf v')
      · exact hv }

theorem modMove {f : Move → Move} (h : Closes tag b c) (hf : ∀ m : Move, (f m).tag = m.tag) :
    Closes tag b (c.modMove tag f) :=
  { h with
    moves := by
      rw [Blocks.moveList_modMove, List.forall₂_map_right_iff]
      refine h.moves.imp fun m m' hm => ?_
      split
      next ht =>
        have m'_tag : m'.tag = tag := by simpa using ht
        exact hm.trans (.inr ⟨m'_tag, (hf m').trans m'_tag⟩)
      next => exact hm }

theorem wantBind (h : Closes tag b c) : Closes tag b c.wantBind := { h with }
theorem wantCall (h : Closes tag b c) : Closes tag b c.wantCall := { h with }
theorem wantPass {id : Nat} (h : Closes tag b c) : Closes tag b (c.wantPass id) := { h with }
theorem emitZone {m : ZoneMsg} (h : Closes tag b c) : Closes tag b (c.emitZone m) := { h with }

theorem setFlag {f : Flag} (h : Closes tag b c) (hf : ∀ k, f ≠ .changed k := by simp) :
    Closes tag b (c.setFlag f) := by
  have set : ∀ g, b.flag g = true → (c.setFlag f).flag g = true := fun g hg => by
    rw [Blocks.flag_setFlag_own hf, h.flag g hg, Bool.or_true]
  cases f <;> exact { h with flag := set }

theorem bump {k : Counter} (h : Closes tag b c) (hk : k.index ∈ passCounters) : Closes tag b (c.bump k) :=
  { h with
    counter := fun j hj =>
      (Blocks.counter_bump_of_ne fun he : j.index = k.index => hj (he ▸ hk)).trans (h.counter j hj)
    width := (Blocks.length_counters_bumpBy _ _ _).trans h.width }

theorem place {r : Record} (h : Closes tag b c) : Closes tag b (c.place e r) := by
  rcases c.place_cases e r with ⟨-, hp⟩ | ⟨-, -, hp⟩ | ⟨-, -, -, hp⟩ | ⟨-, -, -, hp⟩ <;> rw [hp]
  · exact h
  · exact { h with }
  · exact (h.bump (by decide)).setFlag
  · exact { h with }

theorem foldl {α : Type} {l : List α} {f : Blocks → α → Blocks} (h : Closes tag b c)
    (hf : ∀ {c : Blocks} (x : α), Closes tag b c → Closes tag b (f c x)) :
    Closes tag b (l.foldl f c) := by
  induction l generalizing c with
  | nil => exact h
  | cons x l ih => exact ih (hf x h)

/-! ### The operations -/

theorem leaveQueue {id : Nat} (h : Closes tag b c) : Closes tag b (c.leaveQueue id) :=
  h.delivers Delivers.refl.leaveQueue

theorem dropDelivery {t : Tag} (h : Closes tag b c) : Closes tag b (c.dropDelivery e t) :=
  h.delivers Delivers.refl.dropDelivery

theorem unbind {id : Nat} (h : Closes tag b c) : Closes tag b (c.unbind id) :=
  h.modVehicle fun _ => ⟨.inr rfl, rfl⟩

theorem makeIdle {id : Nat} (h : Closes tag b c) : Closes tag b (c.makeIdle e id) :=
  wantBind (h.modVehicle fun _ => ⟨.inl (by exact rfl), by exact rfl⟩)

theorem holdForFloor {id : Nat} (h : Closes tag b c) : Closes tag b (c.holdForFloor id) :=
  h.leaveQueue.modVehicle fun _ => ⟨.inl rfl, rfl⟩

theorem releaseVehicle {id : Nat} (h : Closes tag b c) : Closes tag b (c.releaseVehicle e tag id) := by
  unfold Blocks.releaseVehicle
  split
  · exact h
  · split
    · exact h
    · dsimp only
      split
      · exact h.unbind
      · split
        · exact h.unbind.holdForFloor
        · split
          · exact h.unbind
          · exact h.unbind
          · exact h.unbind.makeIdle.wantPass
          · exact h.unbind.makeIdle.wantPass
          · exact h.unbind.leaveQueue.makeIdle

theorem removeCall {t : Tag} (h : Closes tag b c) : Closes tag b (c.removeCall t) :=
  wantCall { h with calls := fun x hx => h.calls x (List.mem_filter.1 hx).1 }

theorem endCall {t : Tag} (h : Closes tag b c) : Closes tag b (c.endCall e t) := by
  unfold Blocks.endCall
  split
  · exact h
  · exact h.removeCall.place.bump (by decide)

theorem enterWaiting {again : Bool} (h : Closes tag b c) : Closes tag b (c.enterWaiting e tag again) := by
  unfold Blocks.enterWaiting
  dsimp only
  split
  · exact wantBind (h.modMove fun _ => by exact rfl)
  · exact h.modMove fun _ => rfl

theorem sendDone {t : Tag} {id : Nat} {o : DoneOutcome} (h : Closes tag b c) :
    Closes tag b (c.sendDone e t id o) := by
  unfold Blocks.sendDone
  split
  · exact h
  · exact h.place

theorem releaseBids {p : BidEntry → Bool} (h : Closes tag b c) : Closes tag b (c.releaseBids p) := by
  unfold Blocks.releaseBids
  split
  · refine { h with vehicles := ?_ }
    show List.Forall₂ Vehicle.released b.vehicles (live (updWhere _ _ c.zc.roster))
    rw [live_updWhere, List.forall₂_map_right_iff]
    refine h.vehicles.imp fun v v' hv => ?_
    split
    · exact hv.trans ⟨.inl rfl, rfl⟩
    · exact hv
  · exact h

theorem becomeFaulted {id : Nat} (h : Closes tag b c) : Closes tag b (c.becomeFaulted id) :=
  releaseBids (h.leaveQueue.modVehicle fun _ => ⟨.inl rfl, rfl⟩)

theorem unbindSpoiled {v : Vehicle} (h : Closes tag b c) : Closes tag b (c.unbindSpoiled e v) := by
  unfold Blocks.unbindSpoiled
  dsimp only
  split
  · exact h.unbind
  · split
    · exact h.unbind.becomeFaulted.modVehicle fun _ => ⟨.inl rfl, rfl⟩
    · split
      · exact h.unbind
      · exact h.unbind.leaveQueue.makeIdle.wantPass

theorem unbindAll {p : Tag → Bool} (h : Closes tag b c) : Closes tag b (c.unbindAll e p) :=
  h.foldl fun _ h => h.unbindSpoiled

theorem inboundToLoan {t : Tag} (h : Closes tag b c) : Closes tag b (c.inboundToLoan t) := { h with }
theorem modFU {f : FU → FU} (h : Closes tag b c) : Closes tag b (c.modFU f) := { h with }
theorem draw (h : Closes tag b c) : Closes tag b c.draw := { h with }

theorem strand (h : Closes tag b c) : Closes tag b (c.strand e tag) := by
  unfold Blocks.strand
  split
  · exact h
  · have stranded := (h.modMove (f := fun x =>
      { x with
        state := .stranded
        endMethod := some .lost
        vehicle := none
        callId := none
        wait := none
        checkHold := false }) fun _ => rfl).dropDelivery (e := e) (t := tag)
    dsimp only
    split
    · exact stranded
    · split
      · exact stranded
      · split
        · exact stranded.unbind.holdForFloor
        · exact stranded.unbind

theorem missingEffects {i : Inbound} (h : Closes tag b c) (hi : ∀ t, i.tag = some t → t = tag) :
    Closes tag b (c.missingEffects e i) := by
  unfold Blocks.missingEffects
  split
  next t _ ht =>
    obtain rfl := hi t ht
    split
    · exact h.enterWaiting
    · exact h
  next t _ ht =>
    obtain rfl := hi t ht
    split
    · dsimp only
      split
      · exact h.dropDelivery.strand
      · exact h.dropDelivery
    · exact h.place.dropDelivery
  next => exact h

/-! ### What is read off -/

theorem move?_of_ne (h : Closes tag b c) {x : Tag} (hx : x ≠ tag) : c.move? x = b.move? x := by
  unfold Blocks.move?
  have same : ∀ m m' : Move, m.closed tag m' → (m'.tag == x) = (m.tag == x) := by
    rintro m m' (rfl | ⟨m_tag, m'_tag⟩)
    · rfl
    · rw [m_tag, m'_tag]
  rcases find?_of_forall₂ (p := fun m => m.tag == x) h.moves same with ⟨hb, hc⟩ | ⟨m, m', hb, hc, closed⟩
  · rw [hb, hc]
  · rw [hb, hc]
    rcases closed with rfl | ⟨m_tag, -⟩
    · rfl
    · have : m.tag = x := by simpa using List.find?_some hb
      exact absurd (this.symm.trans m_tag) hx

theorem vehicle?_cases (h : Closes tag b c) (id : Nat) :
    (b.vehicle? id = none ∧ c.vehicle? id = none) ∨
      ∃ v v', b.vehicle? id = some v ∧ c.vehicle? id = some v' ∧ v.released v' :=
  find?_of_forall₂ h.vehicles fun _ _ hv => by rw [hv.2]

theorem not_due (h : Closes tag b c) (hb : ∀ x ∈ b.stationList, x.followOnDue = false) :
    ∀ x ∈ c.stationList, x.followOnDue = false := by
  intro x hx
  obtain ⟨s, hs, delivered⟩ := Calm.exists_of_mem_right h.stations hx
  exact delivered.1 (hb s hs)

end Closes
end Sys2Proof.Machine
end

section
/-! PROOFS. Inbound entries that are late or missing (R111, R112), and the age review (R72). -/
namespace Sys2Proof.Machine

/-! ### The Inbound List -/

theorem Blocks.inbound?_map {b : Blocks} {f : Inbound → Inbound} (hf : ∀ i, (f i).vehicle = i.vehicle)
    (id : Nat) : (b.modInbound fun l => l.map f).inbound? id = (b.inbound? id).map f := by
  unfold inbound? modInbound
  rw [List.find?_map]
  congr 2
  funext i
  rw [Function.comp_apply, hf]

/-- Of the entries, those of the vehicle alone are removed. -/
theorem Blocks.inbound?_dropInbound (b : Blocks) (id x : Nat) :
    (b.dropInbound id).inbound? x = if x = id then none else b.inbound? x := by
  show (b.zc.inbound.filter fun i => i.vehicle != id).find? (fun i => i.vehicle == x) = _
  unfold inbound?
  rw [List.find?_filter]
  by_cases hx : x = id
  · rw [if_pos hx, List.find?_eq_none]
    intro i _
    simp [hx]
  · rw [if_neg hx]
    congr 1
    funext i
    by_cases hi : i.vehicle = x
    · simp [hi, hx]
    · simp [hi]

/-- The effects of a removal as MISSING leave the Inbound List alone. -/
theorem Blocks.missingEffects_inbound (e : Env) (i : Inbound) (b : Blocks) :
    (b.missingEffects e i).zc.inbound = b.zc.inbound :=
  (Evolves.missingEffects (K := fun p => p ≠ .inbound) (by simp) .refl).inbound_eq (by simp)

/-- Settles O47. -/
theorem inboundGoesLateThenMissing : Obligations.InboundGoesLateThenMissing := by
  intro s id i hs hi
  refine ⟨fun hlate hdue => ?_, fun hdue => ?_⟩
  · let g : Env → Blocks → Blocks := fun e b =>
      match b.inbound? id with
      | none => b
      | some i =>
        if !i.late ∧ passed e.now i.expected (e.cfg.slackIn * 1000) then
          (b.modInbound fun l => l.map fun x =>
            if x.vehicle = id then { x with late := true } else x).bump .lateEntries
        else b
    let late : Inbound → Inbound := fun x => if x.vehicle = id then { x with late := true } else x
    have ran : exec (.inboundLate id []) s = .next (s.run g) :=
      congrArg _ (State.runFailing_nil [.inbound] g s)
    have effect : g s.env s.b.quiet = (s.b.quiet.modInbound fun l => l.map late).bump .lateEntries := by
      unfold g
      rw [show s.b.quiet.inbound? id = some i from hi]
      dsimp only
      exact if_pos ⟨by rw [hlate]; rfl, hdue⟩
    have none_due : (g s.env s.b.quiet).agenda = Agenda.none := by
      rw [effect]
      exact hs.2.1
    have calm := State.run_calm (f := g) hs.2 (by rw [none_due]; rfl)
    obtain ⟨zc, si, mm, du, -⟩ := State.run_frame (f := g) hs.2 none_due
    rw [effect] at calm zc si mm du
    have entries (v : Nat) : (s.run g).b.inbound? v = (s.b.inbound? v).map late := by
      rw [Blocks.inbound?_congr zc]
      refine s.b.quiet.inbound?_map (f := late) (fun x => ?_) v
      unfold late
      split <;> rfl
    have vehicle_i : i.vehicle = id := by simpa using List.find?_some hi
    refine ⟨_, ran, ?_, calm.raised hs.1 (by decide) rfl rfl, fun v hv => ?_, ?_, mm, si,
      Blocks.sameBooks_of_starve du⟩
    · rw [entries, hi]
      exact congrArg some (if_pos vehicle_i)
    · rw [entries]
      cases hx : s.b.inbound? v with
      | none => rfl
      | some x =>
        have vehicle_x : x.vehicle = v := by simpa using List.find?_some hx
        exact congrArg some (if_neg (by rw [vehicle_x]; exact hv))
    · rw [zc]
      rfl
  · let g : Env → Blocks → Blocks := fun e b =>
      match b.inbound? id with
      | none => b
      | some i =>
        if passed e.now i.expected (3 * e.cfg.slackIn * 1000) then
          (b.removeInbound e id).bump .missingEntries
        else b
    let d := s.b.quiet.dropInbound id
    have ran : exec (.inboundMissing id) s = .next (s.run g) := rfl
    have effect : g s.env s.b.quiet = (d.missingEffects s.env i).bump .missingEntries := by
      have found : s.b.quiet.inbound? id = some i := hi
      unfold g Blocks.removeInbound
      simp only [found]
      exact if_pos hdue
    have closes : Closes (i.tag.getD ⟨0, 0⟩) d (d.missingEffects s.env i) :=
      Closes.refl.missingEffects fun t ht => by rw [ht]; rfl
    have calm := State.run_calm (f := g) hs.2 (by
      rw [effect]
      exact closes.follow.trans (congrArg Agenda.follow hs.2.1))
    rw [effect] at calm
    have entries (v : Nat) : (s.run g).b.inbound? v = if v = id then none else s.b.inbound? v := by
      rw [calm.inbound?]
      unfold Blocks.inbound?
      show ((d.missingEffects s.env i).zc.inbound.find? _) = _
      rw [d.missingEffects_inbound]
      exact s.b.quiet.inbound?_dropInbound id v
    refine ⟨_, ran, ?_, calm.raised hs.1 (by decide) (closes.counter _ (by decide)) closes.width,
      fun v hv => ?_, fun tag hk ht hsrc hactive hroom => ?_⟩
    · rw [entries, if_pos rfl]
    · rw [entries, if_neg hv]
    · let r : Record := ⟨some i.source, .done tag i.vehicle .missing⟩
      have vehicle_i : i.vehicle = id := by simpa using List.find?_some hi
      have sent : d.missingEffects s.env i = (d.place s.env r).dropDelivery s.env tag := by
        unfold Blocks.missingEffects
        rw [hk, ht]
        exact if_neg hsrc
      have count : d.ti.count < Config.queueSize := by
        have : s.b.ti.count + 1 ≤ Config.queueSize := hroom
        exact this
      rw [← vehicle_i]
      refine calm.queue r ?_ rfl
      rw [sent]
      show r ∈ ((d.place s.env r).dropDelivery s.env tag).ti.queue
      rw [Delivers.refl.dropDelivery.ti]
      exact d.mem_place s.env hactive count

end Sys2Proof.Machine
end

section
/-! PROOFS. The age review, and the failed bits that it finds in the Move Table (R63, R72, R167): O49. -/
namespace Sys2Proof.Machine

/-! ### Failed bits that a command brings -/

/-- A command that reads the table of the one failed bit it brings takes it first. -/
theorem State.runFailing_one (s : State) {read : List ParityTable} {p : ParityError}
    (h : read.contains p.table = true) (f : Env → Blocks → Blocks) :
    s.runFailing read [p] f = s.run fun e b => f e (b.parityError e p) := by
  unfold runFailing
  have mem : p.table ∈ read := by simpa using h
  have keep : [p].filter (fun q => read.contains q.table) = [p] := by simp [List.filter, mem]
  have skip : [p].filter (fun q => !read.contains q.table) = [] := by simp [List.filter, mem]
  rw [keep, skip]
  simp only [List.append_nil]
  rfl

/-- In NORMAL an urgent fault of kind MEMORY starts recovery (R161). -/
theorem Blocks.memoryFault_of_normal {e : Env} {b : Blocks} (h : b.fu.recovery = .normal)
    (tag : Option Tag) : b.memoryFault e tag = (b.setFlag .memory).modFU fun x =>
      { x with
        recovery := .recovering
        first := some ⟨.memory, none, tag, tag.map fun _ => .lost, e.now⟩
        watch := some ⟨none, after e.now (e.cfg.tRec * 1000)⟩ } := by
  have normal : (b.setFlag .memory).fu.recovery = .normal := h
  unfold memoryFault recoveryStep
  rw [normal]

/-! ### Vehicles whose move has been spoiled (R167) -/

/-- Unbinding leaves the moves, the calls and the answers to the stations alone. -/
structure Unbinds (b c : Blocks) : Prop where
  mm : c.mm = b.mm
  calls : c.du.calls = b.du.calls
  bound : List.Forall₂ (fun v v' : Vehicle => v'.id = v.id ∧ (v'.bound = v.bound ∨ v'.bound = none))
    b.vehicles c.vehicles

namespace Unbinds
variable {e : Env} {b c d : Blocks}

theorem refl : Unbinds b b := ⟨rfl, rfl, List.forall₂_same.2 fun _ _ => ⟨rfl, .inl rfl⟩⟩

theorem trans (h : Unbinds b c) (h' : Unbinds c d) : Unbinds b d := by
  refine ⟨h'.mm.trans h.mm, h'.calls.trans h.calls, forall₂_trans ?_ h.bound h'.bound⟩
  rintro x y z ⟨id_y, bound_y⟩ ⟨id_z, bound_z⟩
  refine ⟨id_z.trans id_y, ?_⟩
  rcases bound_z with bound_z | bound_z
  · rw [bound_z]
    exact bound_y
  · exact .inr bound_z

theorem of_closes {tag : Tag} (h : Closes tag b c) (hm : c.mm = b.mm) (hc : c.du.calls = b.du.calls) :
    Unbinds b c :=
  ⟨hm, hc, h.vehicles.imp fun v v' hv => ⟨by rw [hv.2], hv.1⟩⟩

theorem unbindSpoiled (e : Env) (v : Vehicle) (b : Blocks) : Unbinds b (b.unbindSpoiled e v) := by
  refine of_closes (tag := ⟨0, 0⟩) Closes.refl.unbindSpoiled ?_ ?_
  all_goals
    unfold Blocks.unbindSpoiled
    dsimp only
    split
    · rfl
    · split
      · obtain ⟨-, mm, -, -, -, -, -, -, calls, -⟩ := (((b.unbind v.id).leaveQueue v.id).modVehicle v.id
          Vehicle.fault).releaseBids_frame fun x => x.vehicle == v.id
        first | exact mm | exact calls
      · split <;> rfl

theorem unbindAll (e : Env) (p : Tag → Bool) (b : Blocks) : Unbinds b (b.unbindAll e p) := by
  have folded (l : List Vehicle) {c : Blocks} (h : Unbinds b c) :
      Unbinds b (l.foldl (fun b v => b.unbindSpoiled e v) c) := by
    induction l generalizing c with
    | nil => exact h
    | cons v l ih => exact ih (h.trans (unbindSpoiled e v c))
  exact folded _ refl

end Unbinds

/-- The vehicle that is unbound is bound to no tag. -/
theorem Blocks.bound_unbindSpoiled (e : Env) (v : Vehicle) (b : Blocks) :
    ∀ w ∈ (b.unbindSpoiled e v).vehicles, w.id = v.id → w.bound = none := by
  have unbound : ∀ w ∈ (b.unbind v.id).vehicles, w.id = v.id → w.bound = none := by
    unfold unbind
    rw [vehicles_modVehicle]
    intro w hw hid
    obtain ⟨x, -, rfl⟩ := List.mem_map.1 hw
    by_cases hx : (x.id == v.id) = true
    · rw [if_pos hx]
    · rw [if_neg hx] at hid
      exact absurd (beq_iff_eq.2 hid) hx
  have kept {d : Blocks} (h : Closes ⟨0, 0⟩ (b.unbind v.id) d) :
      ∀ w ∈ d.vehicles, w.id = v.id → w.bound = none := by
    intro w hw hid
    obtain ⟨x, hx, released⟩ := Calm.exists_of_mem_right h.vehicles hw
    have x_none := unbound x hx (by rw [← hid, released.2])
    rcases released.1 with same | none
    · exact same.trans x_none
    · exact none
  unfold unbindSpoiled
  dsimp only
  split
  · exact unbound
  · split
    · exact kept (Closes.refl.becomeFaulted.modVehicle fun _ => ⟨.inl rfl, rfl⟩)
    · split
      · exact unbound
      · exact kept Closes.refl.leaveQueue.makeIdle.wantPass

/-- No vehicle stays bound to a tag that `p` names. -/
theorem Blocks.bound_unbindAll (e : Env) (p : Tag → Bool) (b : Blocks) :
    ∀ w ∈ (b.unbindAll e p).vehicles, w.bound.any p = false := by
  have folded (l : List Vehicle) {c : Blocks}
      (h : ∀ w ∈ c.vehicles, w.bound.any p = true → ∃ v ∈ l, v.id = w.id) :
      ∀ w ∈ (l.foldl (fun b v => b.unbindSpoiled e v) c).vehicles, w.bound.any p = false := by
    induction l generalizing c with
    | nil =>
      intro w hw
      by_contra bound
      obtain ⟨v, hv, -⟩ := h w hw (by simpa using bound)
      exact absurd hv List.not_mem_nil
    | cons v l ih =>
      refine ih fun w hw bound => ?_
      obtain ⟨x, hx, id_w, bound_w⟩ :=
        Calm.exists_of_mem_right (Unbinds.unbindSpoiled e v c).bound hw
      have other : w.id ≠ v.id := fun same => by
        rw [c.bound_unbindSpoiled e v w hw same] at bound
        cases bound
      rcases bound_w with same | none
      · rw [same] at bound
        obtain ⟨u, hu, id_u⟩ := h x hx bound
        rcases List.mem_cons.1 hu with rfl | hu
        · exact absurd (id_w.trans id_u.symm) other
        · exact ⟨u, hu, id_u.trans id_w.symm⟩
      · rw [none] at bound
        cases bound
  exact folded _ fun w hw bound => ⟨w, List.mem_filter.2 ⟨hw, bound⟩, rfl⟩

/-! ### A record whose body is spoiled (R63, R167) -/

/-- Where the node is in NORMAL, a spoiled body leaves a POISONED record that nothing works for. -/
theorem Blocks.poison_spec {e : Env} {b : Blocks} (m : Move) (hn : b.fu.recovery = .normal) :
    Closes m.tag b (b.poison e m) ∧
    (b.poison e m).moveList = (b.modMove m.tag (Move.poison b.free)).moveList ∧
    (∀ v ∈ (b.poison e m).vehicles, v.bound ≠ some m.tag) ∧
    (∀ x ∈ (b.poison e m).du.calls, x.tag ≠ m.tag) ∧
    (b.poison e m).flag .memory = true ∧
    (b.poison e m).fu = { b.fu with
      recovery := .recovering
      first := some ⟨.memory, none, some m.tag, some .lost, e.now⟩
      watch := some ⟨none, after e.now (e.cfg.tRec * 1000)⟩ } := by
  let b₁ := (b.modMove m.tag (Move.poison b.free)).draw
  let b₂ := b₁.memoryFault e (some m.tag)
  let b₃ := b₂.endCall e m.tag
  let b₄ := b₃.unbindAll e fun t => t == m.tag
  have fault : b₂ = (b₁.setFlag .memory).modFU fun x =>
      { x with
        recovery := .recovering
        first := some ⟨.memory, none, some m.tag, some .lost, e.now⟩
        watch := some ⟨none, after e.now (e.cfg.tRec * 1000)⟩ } :=
    memoryFault_of_normal (b := b₁) hn (some m.tag)
  have poisoned : b.poison e m = (b₄.inboundToLoan m.tag).dropDelivery e m.tag := rfl
  have delivers := Delivers.refl.dropDelivery (e := e) (b := b₄.inboundToLoan m.tag) (tag := m.tag)
  have unbinds := Unbinds.unbindAll e (fun t => t == m.tag) b₃
  obtain ⟨-, -, mm₃, -, fu₃, -⟩ := b₂.endCall_frame e m.tag
  have start : Closes m.tag b b₂ := by
    rw [fault]
    exact ((Closes.refl.modMove (f := Move.poison b.free) fun _ => rfl).draw.setFlag
      (f := .memory)).modFU
  have closes₄ : Closes m.tag b b₄ := start.endCall.unbindAll
  refine ⟨closes₄.inboundToLoan.dropDelivery, ?_, fun v hv => ?_, fun x hx => ?_, ?_, ?_⟩
  · rw [poisoned, delivers.moveList]
    show live b₄.mm.moves = _
    rw [unbinds.mm, mm₃, fault]
    rfl
  · rw [poisoned] at hv
    obtain ⟨w, hw, -, kept⟩ := Calm.exists_of_mem_right delivers.vehicles hv
    have := b₃.bound_unbindAll e (fun t => t == m.tag) w hw
    intro bound
    rw [kept] at bound
    rw [show w.bound = some m.tag from bound] at this
    simp at this
  · have hx : x ∈ b₄.du.calls := by
      rw [poisoned, delivers.du] at hx
      exact hx
    rw [unbinds.calls, b₂.endCall_calls e] at hx
    simpa using (List.mem_filter.1 hx).2
  · have set : b₂.flag .memory = true := by
      rw [fault]
      rfl
    exact (Closes.refl (tag := m.tag)).endCall.unbindAll.inboundToLoan.dropDelivery.flag _ set
  · have fu₄ : b₄.fu = b₃.fu :=
      (Evolves.unbindAll (K := fun p => p ≠ .fault) (by simp) .refl).fu_eq (by simp)
    rw [poisoned, delivers.fu]
    show b₄.fu = _
    rw [fu₄, fu₃, fault]
    rfl

/-! ### A record whose key is spoiled (R167) -/

theorem foldl_mm {α : Type} {f : Blocks → α → Blocks} (hf : ∀ b x, (f b x).mm = b.mm) (l : List α)
    (b : Blocks) : (l.foldl f b).mm = b.mm := by
  induction l generalizing b with
  | nil => rfl
  | cons x l ih => exact (ih (f b x)).trans (hf b x)

/-- Removing the links to a record that is gone leaves the moves alone, and stations but for them. -/
theorem Blocks.dropStaleLinks_spec (e : Env) (b : Blocks) :
    (b.dropStaleLinks e).mm = b.mm ∧ (b.dropStaleLinks e).fu = b.fu ∧
    (∀ k : Counter, k.index ∉ passCounters → (b.dropStaleLinks e).counter k = b.counter k) ∧
    (∀ f, b.flag f = true → (b.dropStaleLinks e).flag f = true) ∧
    (b.dropStaleLinks e).out.station = b.out.station ∧
    ((∀ x ∈ b.stationList, x.followOnDue = false) →
      ∀ x ∈ (b.dropStaleLinks e).stationList, x.followOnDue = false) := by
  let gone := b.stale e
  let b₁ := (b.modStations (updWhere (fun s => s.active.any gone) fun s => { s with active := none })).wantFollow
  let b₂ := b₁.unbindAll e gone
  let b₃ := b₂.modInbound fun l => l.map fun i =>
    if i.kind = .emptyForMove ∧ i.tag.any gone then { i with kind := .loan, tag := none } else i
  let b₄ := ((b₃.du.calls.filter fun c => gone c.tag).map CallEntry.tag).foldl (fun b t => b.endCall e t) b₃
  have dropped : b.dropStaleLinks e = (b₄.stationList.filterMap fun s => s.reservation.bind fun t =>
    if gone t then some s.number else none).foldl (fun b n => b.dropReservation e n) b₄ := rfl
  have closes : Closes ⟨0, 0⟩ b₁ (b.dropStaleLinks e) := by
    rw [dropped]
    have ended : Closes ⟨0, 0⟩ b₁ b₄ :=
      Closes.foldl { (Closes.refl.unbindAll : Closes ⟨0, 0⟩ b₁ b₂) with } fun _ h => h.endCall
    exact ended.delivers (Delivers.refl.foldl fun _ h => h.dropReservation)
  refine ⟨?_, ?_, closes.counter, closes.flag, closes.station, fun none_due => closes.not_due ?_⟩
  · rw [dropped, foldl_mm fun b n => (Delivers.refl.dropReservation (b := b)).mm]
    show b₄.mm = _
    rw [foldl_mm fun b t => (b.endCall_frame e t).2.2.1]
    exact (Unbinds.unbindAll e gone b₁).mm
  · exact (Evolves.dropStaleLinks (K := fun p => p ≠ .fault) (by simp) (by simp) .refl).fu_eq (by simp)
  · show ∀ x ∈ live (updWhere _ _ b.si.stations), _
    rw [live_updWhere]
    intro x hx
    obtain ⟨y, hy, rfl⟩ := List.mem_map.1 hx
    have due := none_due y hy
    split <;> exact due

/-! ### The age review (R72) -/

/-- The review of every record. -/
def Blocks.review (e : Env) (b : Blocks) : Blocks :=
  b.modMoves fun l => l.map (Option.map (Move.review e.now))

theorem Blocks.review_frame (e : Env) (b : Blocks) :
    (b.review e).zc = b.zc ∧ (b.review e).si = b.si ∧ (b.review e).du = b.du ∧ (b.review e).fu = b.fu ∧
      (b.review e).sp = b.sp ∧ (b.review e).out = b.out ∧ (b.review e).agenda = b.agenda ∧
      (b.review e).pd = b.pd := ⟨rfl, rfl, rfl, rfl, rfl, rfl, rfl, rfl⟩

theorem Blocks.counter_review (e : Env) (b : Blocks) (k : Counter) :
    (b.review e).counter k = b.counter k := rfl

theorem Blocks.flag_review (e : Env) (b : Blocks) (f : Flag) : (b.review e).flag f = b.flag f := by
  cases f <;> rfl

theorem Blocks.moveList_review (e : Env) (b : Blocks) :
    (b.review e).moveList = b.moveList.map (Move.review e.now) := by
  show live (b.mm.moves.map (Option.map (Move.review e.now))) = (live b.mm.moves).map _
  unfold live
  rw [List.filterMap_map, List.map_filterMap]
  rfl

/-- The review draws accepted at forward, and changes nothing else. -/
theorem Move.review_eq (now : Time) (m : Move) :
    m.review now = { m with acceptedAt := (m.review now).acceptedAt } := by
  unfold review
  split <;> rfl

theorem Move.review_keeps (now : Time) (m : Move) :
    (m.review now).poisoned = m.poisoned ∧ (m.review now).state = m.state ∧
      (m.review now).endMethod = m.endMethod ∧ (m.review now).vehicle = m.vehicle ∧
      (m.review now).source = m.source := by
  unfold review
  split <;> exact ⟨rfl, rfl, rfl, rfl, rfl⟩

theorem Blocks.move?_review (e : Env) (b : Blocks) (tag : Tag) :
    (b.review e).move? tag = (b.move? tag).map (Move.review e.now) := by
  unfold move?
  rw [moveList_review, List.find?_map]
  congr 2
  funext m
  rw [Function.comp_apply, Move.review_eq]

/-- After the review no record is older than the stop by a second. -/
theorem Move.since_review (now : Time) (m : Move) : since now (m.review now).acceptedAt ≤ 4095999 := by
  unfold review
  split
  next => 
    have back : now - (now - BitVec.ofNat 32 4095000) = BitVec.ofNat 32 4095000 := by bv_omega
    show (now - (now - BitVec.ofNat 32 4095000)).toInt ≤ 4095999
    rw [back]
    decide
  next young =>
    unfold age at young
    omega

/-- A counter that a command has raised once stands one higher, wherever in the command it was raised. -/
theorem State.raised_of_bump {s t : State} {k : Counter} (hs : s.Sized)
    (h : t.b.counter k = (s.b.quiet.bump k).counter k) : Raised k s t := by
  obtain ⟨-, -, -, -, -, -, width, -⟩ := hs
  rw [Raised, h]
  refine Blocks.counter_bump_self ?_
  rw [show s.b.quiet.sp.counters.length = SP.counterCount from width]
  exact Counter.index_lt _

/-- A failed bit of a record in use is taken by its key, or by its body (R167). -/
theorem Blocks.parityError_move {e : Env} {b : Blocks} {i : Nat} {m : Move} (hi : i < 64)
    (hm : b.mm.moves[i]? = some (some m)) (key : Bool) :
    b.parityError e ⟨.move, i, key⟩ =
      if key then (b.bump .parity).loseMove e i else (b.bump .parity).poison e m := by
  have found : (b.mm.moves[i]?).join = some m := congrArg Option.join hm
  unfold parityError
  dsimp only
  rw [if_neg (show ¬ Config.moveSize ≤ i from Nat.not_le.2 hi), found]

/-- Every record of a tag that has been poisoned is no candidate of a pass. -/
theorem Blocks.candidate_of_poisoned {e : Env} {b c : Blocks} {m : Move} {k : Nat}
    (h : c.moveList = (b.modMove m.tag (Move.poison k)).moveList) :
    ∀ n ∈ (c.review e).moveList, n.tag = m.tag → n.candidate = false := by
  rw [moveList_review, h, moveList_modMove]
  intro n hn tag_n
  obtain ⟨x, hx, rfl⟩ := List.mem_map.1 hn
  obtain ⟨y, -, rfl⟩ := List.mem_map.1 hx
  rw [Move.review_eq] at tag_n ⊢
  by_cases hy : (y.tag == m.tag) = true
  · rw [if_pos hy]
    rfl
  · rw [if_neg hy] at tag_n
    exact absurd (beq_iff_eq.2 tag_n) hy

/-- A spoiled body poisons its record (R63, R167). -/
theorem State.ageReview_poisons {s : State} {i : Nat} {m : Move} (hs : s.WellSized) (hi : i < 64)
    (hm : s.b.mm.moves[i]? = some (some m)) (hnodup : (s.b.moveList.map Move.tag).Nodup)
    (hnormal : s.b.fu.recovery = .normal) :
    Answers (.ageReview [⟨.move, i, false⟩]) s fun t =>
      (∃ y, t.b.move? m.tag = some y ∧ y.poisoned = true ∧ y.state = .stranded ∧
        y.endMethod = some .lost ∧ y.vehicle = none ∧ y.source = m.source) ∧
      (∀ v ∈ t.b.vehicles, v.bound ≠ some m.tag) ∧ (∀ c ∈ t.b.du.calls, c.tag ≠ m.tag) ∧
      t.b.flag .memory = true ∧ Raised .parity s t ∧ t.b.fu = { s.b.fu with
        recovery := .recovering
        first := some ⟨.memory, none, some m.tag, some .lost, s.now⟩
        watch := some ⟨none, after s.now (s.cl.cfg.tRec * 1000)⟩ } := by
  let g : Env → Blocks → Blocks := fun e b => (b.parityError e ⟨.move, i, false⟩).review e
  let b₁ := s.b.quiet.bump .parity
  have ran : exec (.ageReview [⟨.move, i, false⟩]) s = .next (s.run g) :=
    congrArg _ (State.runFailing_one s (p := ⟨.move, i, false⟩) rfl Blocks.review)
  have effect : g s.env s.b.quiet = (b₁.poison s.env m).review s.env :=
    congrArg (Blocks.review s.env) (Blocks.parityError_move (b := s.b.quiet) hi hm false)
  obtain ⟨closes, moves, unbound, uncalled, flagged, fault⟩ :=
    Blocks.poison_spec (e := s.env) (b := b₁) m hnormal
  have calm := State.run_calm (f := g) hs.2 (by
    rw [effect]
    exact closes.follow.trans (congrArg Agenda.follow hs.2.1))
  rw [effect] at calm
  have poisoned := Blocks.candidate_of_poisoned (e := s.env) moves
  obtain ⟨zc, -, du, fu, -⟩ := (b₁.poison s.env m).review_frame s.env
  have mem : m ∈ s.b.moveList := List.mem_filterMap.2 ⟨some m, List.mem_of_getElem? hm, rfl⟩
  have found : b₁.move? m.tag = some m := find?_of_mem_of_nodup (key := Move.tag) hnodup mem
  have record : (s.run g).b.move? m.tag = some ((m.poison b₁.free).review s.env.now) := by
    have after : (b₁.poison s.env m).move? m.tag =
        (b₁.modMove m.tag (Move.poison b₁.free)).move? m.tag := by
      unfold Blocks.move?
      rw [moves]
    rw [calm.move?_eq poisoned, Blocks.move?_review, after,
      b₁.move?_modMove m.tag (Move.poison b₁.free) fun _ => rfl, found]
    rfl
  refine ⟨_, ran, ⟨_, record, ?_⟩, fun v hv bound => ?_, fun x hx tag_x => ?_, ?_, ?_, ?_⟩
  · exact Move.review_keeps s.env.now (m.poison b₁.free)
  · rcases calm.bound v hv m.tag bound with ⟨w, hw, bound_w⟩ | ⟨n, hn, tag_n, cand⟩
    · unfold Blocks.vehicles at hw
      rw [zc] at hw
      exact unbound w hw bound_w
    · rw [poisoned n hn tag_n] at cand
      cases cand
  · rcases calm.calls x hx with hx | ⟨n, hn, tag_n, eligible⟩
    · rw [du] at hx
      exact uncalled x hx tag_x
    · have := (Move.candidate_of_eligible eligible).2
      rw [poisoned n hn (tag_n.trans tag_x)] at this
      cases this
  · rw [calm.flag _ (by simp), Blocks.flag_review]
    exact flagged
  · refine State.raised_of_bump hs.1 ((calm.counter _ (by decide)).trans ?_)
    rw [Blocks.counter_review]
    exact closes.counter _ (by decide)
  · rw [calm.fu, fu, fault]
    rfl

/-- Freeing a slot of the Move Table leaves it free, whatever else becomes of the others. -/
theorem getElem?_none_of_slots {l l' : List (Option Move)} {i : Nat} (hi : i < l.length)
    (h : l'.map Option.isNone = (l.set i none).map Option.isNone) : l'[i]? = some none := by
  have at_i : (l'.map Option.isNone)[i]? = some true := by
    rw [h, List.getElem?_map, List.getElem?_set_self hi]
    rfl
  rw [List.getElem?_map, Option.map_eq_some_iff] at at_i
  obtain ⟨x, hx, none_x⟩ := at_i
  rw [hx, Option.isNone_iff_eq_none.1 none_x]

/-- A spoiled key frees its record (R167). -/
theorem State.ageReview_frees {s : State} {i : Nat} {m : Move} (hs : s.WellSized) (hi : i < 64)
    (hm : s.b.mm.moves[i]? = some (some m)) (hnormal : s.b.fu.recovery = .normal)
    (hdue : ∀ x ∈ s.b.stationList, x.followOnDue = false) :
    Answers (.ageReview [⟨.move, i, true⟩]) s fun t =>
      t.b.mm.moves[i]? = some none ∧ t.b.out.station = [] ∧ t.b.flag .memory = true ∧
      Raised .parity s t ∧ t.b.fu = { s.b.fu with
        recovery := .recovering
        first := some ⟨.memory, none, none, none, s.now⟩
        watch := some ⟨none, after s.now (s.cl.cfg.tRec * 1000)⟩ } := by
  let g : Env → Blocks → Blocks := fun e b => (b.parityError e ⟨.move, i, true⟩).review e
  let b₁ := (s.b.quiet.bump .parity).modMoves fun l => l.set i none
  let b₂ := b₁.memoryFault s.env none
  have ran : exec (.ageReview [⟨.move, i, true⟩]) s = .next (s.run g) :=
    congrArg _ (State.runFailing_one s (p := ⟨.move, i, true⟩) rfl Blocks.review)
  have effect : g s.env s.b.quiet = (b₂.dropStaleLinks s.env).review s.env :=
    congrArg (Blocks.review s.env) (Blocks.parityError_move (b := s.b.quiet) hi hm true)
  have fault : b₂ = (b₁.setFlag .memory).modFU fun x =>
      { x with
        recovery := .recovering
        first := some ⟨.memory, none, none, none, s.env.now⟩
        watch := some ⟨none, after s.env.now (s.env.cfg.tRec * 1000)⟩ } :=
    Blocks.memoryFault_of_normal (b := b₁) hnormal none
  obtain ⟨mm, fu, counter, flag, station, due⟩ := b₂.dropStaleLinks_spec s.env
  obtain ⟨-, si_r, -, fu_r, -, out_r, -⟩ := (b₂.dropStaleLinks s.env).review_frame s.env
  have none_due : ∀ x ∈ (g s.env s.b.quiet).stationList, x.followOnDue = false := by
    rw [effect]
    unfold Blocks.stationList
    rw [si_r]
    refine due ?_
    rw [fault]
    exact hdue
  have calm := State.run_calm_of_not_due (f := g) hs.2 none_due
  rw [effect] at calm
  obtain ⟨⟨-, size, -⟩, -⟩ := id hs
  refine ⟨_, ran, ?_, ?_, ?_, ?_, ?_⟩
  · refine getElem?_none_of_slots (l := s.b.mm.moves) (by rw [size]; exact hi) (calm.slots.trans ?_)
    show (((b₂.dropStaleLinks s.env).mm.moves.map _).map _) = _
    rw [List.map_map, mm, fault]
    refine List.map_congr_left fun x _ => ?_
    cases x <;> rfl
  · rw [calm.station, out_r, station, fault]
    rfl
  · rw [calm.flag _ (by simp), Blocks.flag_review]
    refine flag _ ?_
    rw [fault]
    rfl
  · refine State.raised_of_bump hs.1 ((calm.counter _ (by decide)).trans ?_)
    rw [Blocks.counter_review, counter _ (by decide), fault]
    rfl
  · rw [calm.fu, fu_r, fu, fault]
    rfl

/-- Settles O49. -/
theorem ageReviewStopsAge : Obligations.AgeReviewStopsAge := by
  intro s
  refine ⟨fun m => ?_, fun hr => ?_, fun i m hs hi hm hnodup hnormal => ⟨?_, fun hdue => ?_⟩⟩
  · unfold Move.age
    omega
  · have ran : exec (.ageReview []) s = .next (s.run Blocks.review) :=
      congrArg _ (State.runFailing_nil [.move] Blocks.review s)
    have none_due : (Blocks.review s.env s.b.quiet).agenda = Agenda.none := hr.1
    have calm := State.run_calm (f := Blocks.review) hr (by rw [none_due]; rfl)
    obtain ⟨zc, si, mm, du, -⟩ := State.run_frame (f := Blocks.review) hr none_due
    refine ⟨_, ran, fun tag => ?_, fun m hm => ?_, zc, si, Blocks.sameBooks_of_starve du, calm.fu⟩
    · rw [Blocks.move?_congr mm, Blocks.move?_review]
      rfl
    · have hm : m ∈ (s.b.quiet.review s.env).moveList := by
        unfold Blocks.moveList at hm ⊢
        rwa [mm] at hm
      rw [Blocks.moveList_review] at hm
      obtain ⟨x, -, rfl⟩ := List.mem_map.1 hm
      exact Move.since_review s.now x
  · obtain ⟨t, ran, record, unbound, uncalled, flagged, raised, fault⟩ :=
      State.ageReview_poisons hs hi hm hnodup hnormal
    exact ⟨t, ran, record, unbound, uncalled, flagged, raised, by rw [fault], by rw [fault], by rw [fault]⟩
  · obtain ⟨t, ran, free, quiet, flagged, raised, fault⟩ :=
      State.ageReview_frees hs hi hm hnormal hdue
    exact ⟨t, ran, free, quiet, flagged, raised, by rw [fault], by rw [fault], by rw [fault]⟩

end Sys2Proof.Machine
end

section
/-! PROOFS. Moves that are freed, cancelled and accepted (R41, R43, R44, R56, R58): O18, O19. -/
namespace Sys2Proof.Machine

/-! ### Freeing (R56) -/

/-- What freeing leaves, before the record itself goes: nothing names the move any more. -/
structure Unnamed (tag : Tag) (b d : Blocks) : Prop where
  closes : Closes tag (b.clearActive tag) d
  calls : ∀ x ∈ d.du.calls, x.tag ≠ tag
  active : ∀ x ∈ d.stationList, x.active ≠ some tag

theorem Blocks.active_clearActive (b : Blocks) (tag : Tag) :
    ∀ x ∈ (b.clearActive tag).stationList, x.active ≠ some tag := by
  show ∀ x ∈ live (updWhere _ _ b.si.stations), _
  rw [live_updWhere]
  intro x hx
  obtain ⟨y, -, rfl⟩ := List.mem_map.1 hx
  by_cases hy : (y.active == some tag) = true
  · rw [if_pos hy]
    simp
  · rw [if_neg hy]
    simpa using hy

/-- The steps of freeing, up to the record (R56). -/
def Blocks.unname (e : Env) (m : Move) (tag : Tag) (b : Blocks) : Blocks :=
  let b := (b.clearActive tag).dropDelivery e tag
  let b := match m.vehicle with
    | some id => b.releaseVehicle e tag id
    | none => b
  (b.endCall e tag).inboundToLoan tag

theorem Blocks.unnamed_unname (e : Env) (m : Move) (tag : Tag) (b : Blocks) :
    Unnamed tag b (b.unname e m tag) := by
  let b₁ := (b.clearActive tag).dropDelivery e tag
  let b₂ := match m.vehicle with
    | some id => b₁.releaseVehicle e tag id
    | none => b₁
  have released : Closes tag (b.clearActive tag) b₂ := by
    unfold b₂
    split
    · exact Closes.refl.dropDelivery.releaseVehicle
    · exact Closes.refl.dropDelivery
  have closes : Closes tag (b.clearActive tag) (b.unname e m tag) := released.endCall.inboundToLoan
  refine ⟨closes, fun x hx => ?_, fun x hx => ?_⟩
  · have hx : x ∈ (b₂.endCall e tag).du.calls := hx
    rw [b₂.endCall_calls e] at hx
    simpa using (List.mem_filter.1 hx).2
  · obtain ⟨y, hy, delivered⟩ := Calm.exists_of_mem_right closes.stations hx
    rw [delivered.2]
    exact b.active_clearActive tag y hy

/-- Freeing takes the record away once nothing names it, and says so (R56). -/
theorem Blocks.freeMove_eq {e : Env} {b : Blocks} {tag : Tag} {m : Move} (h : b.move? tag = some m)
    (o : MoveOutcome) : b.freeMove e tag o =
      (((b.unname e m tag).modMoves (freeWhere fun x => x.tag == tag)).emitStation
        (.moveDone tag o)).countFreed e m o := by
  unfold freeMove
  rw [h]
  rfl

/-- Where no follow-on is due, none comes to be due by clearing an active-source tag. -/
theorem Blocks.not_due_clearActive {b : Blocks} (tag : Tag)
    (h : ∀ x ∈ b.stationList, x.followOnDue = false) :
    ∀ x ∈ (b.clearActive tag).stationList, x.followOnDue = false := by
  show ∀ x ∈ live (updWhere _ _ b.si.stations), _
  rw [live_updWhere]
  intro x hx
  obtain ⟨y, hy, rfl⟩ := List.mem_map.1 hx
  have due := h y hy
  split <;> exact due

/-- A command that frees a move, with an outcome that one counter counts, and does no more. -/
theorem State.run_freeMove {s : State} {g : Env → Blocks → Blocks} {tag : Tag} {m : Move}
    {o : MoveOutcome} {k : Counter} {r : Option Reply} (hs : s.WellSized) (hm : s.b.move? tag = some m)
    (hg : g s.env s.b.quiet =
      ({ s.b.quiet.freeMove s.env tag o with
        out := { (s.b.quiet.freeMove s.env tag o).out with service := r } } : Blocks))
    (ho : ∀ d : Blocks, d.countFreed s.env m o = d.bump k) (hk : k.index ∉ passCounters)
    (hdue : ∀ x ∈ s.b.stationList, x.followOnDue = false) :
    let t := s.run g
    Calm s.env (g s.env s.b.quiet) t.b ∧
    t.b.out.station = [.moveDone tag o] ∧ t.b.out.service = r ∧ t.b.move? tag = none ∧
    (∀ c ∈ t.b.du.calls, c.tag ≠ tag) ∧ (∀ x ∈ t.b.stationList, x.active ≠ some tag) ∧
    Raised k s t ∧
    (∀ other, other ≠ tag →
      (t.b.move? other).map Move.terms = (s.b.move? other).map Move.terms) ∧
    ∀ id, (g s.env s.b.quiet).vehicle? id = (s.b.quiet.unname s.env m tag).vehicle? id := by
  let d := s.b.quiet.unname s.env m tag
  obtain ⟨closes, calls, active⟩ := s.b.quiet.unnamed_unname s.env m tag
  let f := (d.modMoves (freeWhere fun x => x.tag == tag)).emitStation (.moveDone tag o)
  have effect : g s.env s.b.quiet =
      ({ f.bump k with out := { f.out with service := r } } : Blocks) := by
    rw [hg, Blocks.freeMove_eq (b := s.b.quiet) hm, ho]
    rfl
  have calm := State.run_calm_of_not_due (f := g) hs.2 (by
    rw [effect]
    exact closes.not_due (Blocks.not_due_clearActive tag hdue))
  have gone : (g s.env s.b.quiet).move? tag = none := by
    rw [effect]
    exact d.move?_free tag
  have others (x : Tag) (hx : x ≠ tag) : (g s.env s.b.quiet).move? x = s.b.move? x := by
    rw [effect]
    exact (d.move?_free_of_ne hx).trans (closes.move?_of_ne hx)
  refine ⟨calm, ?_, ?_, calm.move?_none gone, fun c hc => ?_, fun x hx => ?_, ?_, fun other ho => ?_,
    fun id => ?_⟩
  · rw [calm.station, effect]
    show d.out.station ++ [_] = _
    rw [closes.station]
    rfl
  · rw [calm.service, effect]
  · rcases calm.calls c hc with hc | ⟨n, hn, tag_n, -⟩
    · rw [effect] at hc
      exact calls c hc
    · intro tag_c
      have := List.find?_eq_none.1 gone n hn
      simp [tag_n.trans tag_c] at this
  · rw [calm.stationList, effect] at hx
    exact active x hx
  · refine State.raised_of_bump hs.1 ((calm.counter _ hk).trans ?_)
    rw [effect]
    have width : f.sp.counters.length = SP.counterCount := by
      obtain ⟨⟨-, -, -, -, -, -, width, -⟩, -⟩ := hs
      exact closes.width.trans width
    have width' : s.b.quiet.sp.counters.length = SP.counterCount := by
      obtain ⟨⟨-, -, -, -, -, -, width, -⟩, -⟩ := hs
      exact width
    show (f.bump k).counter k = _
    rw [Blocks.counter_bump_self (by rw [width]; exact Counter.index_lt k),
      Blocks.counter_bump_self (by rw [width']; exact Counter.index_lt k)]
    have same : f.counter k = s.b.quiet.counter k := closes.counter k hk
    rw [same]
  · rw [calm.move_terms, others other ho]
  · rw [effect]
    rfl

/-! ### Refusals (R43, R58) -/

/-- A command of the station link that is refused answers so, and counts it. -/
theorem State.run_refuseMove {s : State} {g : Env → Blocks → Blocks} {c : RefusalCode}
    {tag : Option Tag} (hs : s.WellSized) (hg : g s.env s.b.quiet = s.b.quiet.refuseMove c tag) :
    (s.run g).b.out.station = [.refused c tag] ∧ SameBay s.b (s.run g).b ∧
      Raised (.refusal c) s (s.run g) := by
  have none_due : (g s.env s.b.quiet).agenda = Agenda.none := by
    rw [hg]
    exact hs.2.1
  have calm := State.run_calm (f := g) hs.2 (by rw [none_due]; rfl)
  obtain ⟨zc, si, mm, -, out⟩ := State.run_frame (f := g) hs.2 none_due
  rw [hg] at calm zc si mm out
  refine ⟨by rw [out]; rfl, ⟨zc, si, mm⟩, calm.raised hs.1 ?_ rfl rfl⟩
  cases c <;> decide

/-- Settles O19. -/
theorem cancelFreesOrRefuses : Obligations.CancelFreesOrRefuses := by
  intro s tag hrun hs
  let g : Env → Blocks → Blocks := fun e b =>
    if !e.node.running then b
    else
      match (if e.ownTag tag then b.move? tag else none) with
      | none => b.refuseMove .unknownTag (some tag)
      | some m =>
        if m.state.cancellable then b.freeMove e tag .cancelled
        else b.refuseMove .tooLate (some tag)
  have ran : exec (.cancelReq tag) s = .next (s.run g) := rfl
  have running : s.env.node.running = true := hrun
  refine ⟨fun h => ?_, fun m hown hm => ⟨fun hlate => ?_, fun hearly hdue => ?_⟩⟩
  · have effect : g s.env s.b.quiet = s.b.quiet.refuseMove .unknownTag (some tag) := by
      have unknown : (if s.env.ownTag tag then s.b.quiet.move? tag else none) = none := by
        rcases h with foreign | unheld
        · refine if_neg ?_
          simpa [Env.ownTag] using foreign
        · rw [show s.b.quiet.move? tag = none from unheld, ite_self]
      unfold g
      rw [unknown, running]
      rfl
    exact ⟨_, ran, State.run_refuseMove hs effect⟩
  · have effect : g s.env s.b.quiet = s.b.quiet.refuseMove .tooLate (some tag) := by
      have late : m.state.cancellable = false := by
        rcases hlate with h | h | h | h | h <;> rw [h] <;> rfl
      unfold g
      rw [if_pos (show s.env.ownTag tag = true by simpa [Env.ownTag] using hown),
        show s.b.quiet.move? tag = some m from hm, running]
      simp [late]
    exact ⟨_, ran, State.run_refuseMove hs effect⟩
  · have effect : g s.env s.b.quiet = s.b.quiet.freeMove s.env tag .cancelled := by
      have early : m.state.cancellable = true := by
        rcases hearly with h | h | h | h <;> rw [h] <;> rfl
      unfold g
      rw [if_pos (show s.env.ownTag tag = true by simpa [Env.ownTag] using hown),
        show s.b.quiet.move? tag = some m from hm, running]
      simp [early]
    obtain ⟨-, station, -, gone, calls, active, raised, others, -⟩ :=
      State.run_freeMove (r := (s.b.quiet.freeMove s.env tag .cancelled).out.service)
        (k := .cancelled) (o := .cancelled) hs hm effect (fun _ => rfl) (by decide) hdue
    exact ⟨_, ran, station, gone, calls, active, raised, others⟩

end Sys2Proof.Machine
end

section
/-! PROOFS. The acceptance of a move (R41, R43, R44): O18. -/
namespace Sys2Proof.Machine

/-! ### A free entry that is filled -/

/-- A list with a free entry holds fewer entries in use than it is long. -/
theorem length_live_lt {α : Type} {l : List (Option α)} (h : none ∈ l) : (live l).length < l.length := by
  induction l with
  | nil => cases h
  | cons o l ih =>
    cases o with
    | none => exact Nat.lt_succ_of_le (List.length_filterMap_le id l)
    | some x =>
      have mem : none ∈ l := by simpa using h
      exact Nat.succ_lt_succ (ih mem)

/-- What another key finds is as before a free entry was filled. -/
theorem find?_live_putFree {α : Type} {p : α → Bool} {a : α} {l : List (Option α)} (hp : p a = false) :
    (live (putFree a l)).find? p = (live l).find? p := by
  induction l with
  | nil => rfl
  | cons o l ih =>
    cases o with
    | none => exact List.find?_cons_of_neg (by simp [hp])
    | some x =>
      show (x :: live (putFree a l)).find? p = (x :: live l).find? p
      rw [List.find?_cons, List.find?_cons, ih]

/-- The entry that fills a free one is found by a key that no other entry has. -/
theorem find?_live_putFree_self {α : Type} {p : α → Bool} {a : α} {l : List (Option α)} (h : none ∈ l)
    (ha : p a = true) (hp : ∀ x ∈ live l, p x = false) : (live (putFree a l)).find? p = some a := by
  induction l with
  | nil => cases h
  | cons o l ih =>
    cases o with
    | none => exact List.find?_cons_of_pos ha
    | some x =>
      have mem : none ∈ l := by simpa using h
      show (x :: live (putFree a l)).find? p = some a
      rw [List.find?_cons_of_neg (by simp [hp x List.mem_cons_self])]
      exact ih mem fun y hy => hp y (List.mem_cons_of_mem _ hy)

/-! ### The tag of a new move (R41) -/

/-- While a record is free, the sequence number that the next move takes is one that no record holds. -/
theorem Blocks.nextSeq_fresh {b : Blocks} (hs : b.mm.moves.length = Config.moveSize)
    (h : none ∈ b.mm.moves) : ∀ m ∈ b.moveList, m.tag.seq ≠ b.nextSeq := by
  refine (b.nextSeq_spec).resolve_right fun used => ?_
  let next : Nat → Id8 := fun k => b.mm.seqCounter + BitVec.ofNat 8 k
  have distinct : ((List.range 64).map next).Nodup := by
    refine List.Nodup.map_on (fun i hi j hj hij => ?_) List.nodup_range
    have hi := List.mem_range.1 hi
    have hj := List.mem_range.1 hj
    have : BitVec.ofNat 8 i = BitVec.ofNat 8 j := by simpa [next] using hij
    have := congrArg BitVec.toNat this
    simp only [BitVec.toNat_ofNat] at this
    omega
  have held : (List.range 64).map next ⊆ b.moveList.map fun m => m.tag.seq := by
    intro x hx
    obtain ⟨k, hk, rfl⟩ := List.mem_map.1 hx
    obtain ⟨m, hm, he⟩ := used k (List.mem_range.1 hk)
    exact List.mem_map.2 ⟨m, hm, he⟩
  have enough := (distinct.subperm held).length_le
  have few := length_live_lt h
  rw [hs] at few
  simp only [List.length_map, List.length_range] at enough
  exact absurd few (Nat.not_lt.2 enough)

/-! ### Acceptance (R43, R44) -/

/-- A MOVE-REQ that meets none of the faults of R43 passes the checks. -/
theorem State.checkMove_eq_none {s : State} {source dest : Nat} {x : Station} (hn : s.cl.node = .ready)
    (hx : s.b.station? source = some x) (hloaded : x.state = .occupied ∨ x.state = .holding)
    (ha : x.active = none) (hr : s.routed dest) (hd : dest ≠ source) (hfree : none ∈ s.b.mm.moves) :
    s.b.checkMove s.env source dest = none := by
  have free : freeCount s.b.mm.moves ≠ 0 := fun h => freeCount_eq_zero.1 h hfree
  simp only [Blocks.checkMove_of_loaded (e := s.env) dest hn hx hloaded, State.owner_eq_none_iff]
  rw [ha, Option.isSome_none, if_neg Bool.false_ne_true, if_neg (not_or.2 ⟨not_not.2 hr, hd⟩), if_neg free]

/-- What acceptance of a move with a fresh tag leaves (R44). -/
theorem Blocks.acceptMove_spec (e : Env) (m : Move) {b : Blocks} (hfree : none ∈ b.mm.moves)
    (hfresh : ∀ y ∈ b.moveList, y.tag ≠ m.tag) :
    (b.acceptMove e m).move? m.tag = some { m with destHeld := b.mustHold e m } ∧
    (∀ t, t ≠ m.tag → (b.acceptMove e m).move? t = b.move? t) ∧
    (b.acceptMove e m).si = (b.setActive m.source m.tag).si ∧
    (b.acceptMove e m).mm.seqCounter = m.tag.seq + 1 ∧
    (b.acceptMove e m).sp = (b.bump (.accepted m.cls)).sp ∧
    (b.acceptMove e m).out = b.out ∧ (b.acceptMove e m).zc = b.zc ∧
    (b.acceptMove e m).agenda.follow = b.agenda.follow := by
  have moves : (b.acceptMove e m).mm.moves = putFree { m with destHeld := b.mustHold e m } b.mm.moves := by
    unfold acceptMove
    dsimp only
    split <;> rfl
  refine ⟨?_, fun t ht => ?_, ?_⟩
  · unfold move? moveList
    rw [moves]
    exact find?_live_putFree_self hfree (by simp) fun y hy => by simpa using hfresh y hy
  · unfold move? moveList
    rw [moves]
    exact find?_live_putFree (by simpa using Ne.symm ht)
  · unfold acceptMove
    dsimp only
    split <;> exact ⟨rfl, rfl, rfl, rfl, rfl, rfl⟩

/-- Settles O18. -/
theorem moveReqAccepted : Obligations.MoveReqAccepted := by
  intro s source dest cls carrier deadline x hn hs hx hloaded ha hr hd hfree
  let m := s.b.quiet.newMove s.env source dest cls carrier deadline
  let b := s.b.quiet.emitStation (.accepted m.tag)
  let g : Env → Blocks → Blocks := fun e b =>
    if !e.node.running then b
    else
      match b.checkMove e source dest with
      | some c => b.refuseMove c none
      | none =>
        let m := b.newMove e source dest cls carrier deadline
        (b.emitStation (.accepted m.tag)).acceptMove e m
  have ran : exec (.moveReq source dest cls carrier deadline) s = .next (s.run g) := rfl
  have effect : g s.env s.b.quiet = b.acceptMove s.env m := by
    have passed : s.b.quiet.checkMove s.env source dest = none :=
      State.checkMove_eq_none hn hx hloaded ha hr hd hfree
    unfold g
    rw [passed, show s.env.node = .ready from hn]
    rfl
  obtain ⟨⟨-, size, -⟩, -⟩ := id hs
  have fresh : ∀ y ∈ s.b.moveList, y.tag.seq ≠ m.tag.seq := Blocks.nextSeq_fresh size hfree
  obtain ⟨record, others, si, seqCounter, sp, out, zc, follow⟩ := b.acceptMove_spec s.env m hfree
    fun y hy same => fresh y hy (congrArg Tag.seq same)
  rw [← effect] at record others si seqCounter sp out zc follow
  have calm := State.run_calm (f := g) hs.2 (follow.trans (congrArg Agenda.follow hs.2.1))
  obtain ⟨m', hm', passed⟩ := calm.move?_some record
  obtain ⟨terms, retry, -, -, shelfSourced, -⟩ := passed.keeps
  simp only [Move.terms, Prod.mk.injEq] at terms
  obtain ⟨source_eq, dest_eq, cls_eq, carrier_eq, accepted_eq, deadline_eq⟩ := terms
  have station : s.b.quiet.station? source = some x := hx
  refine ⟨_, ran, m.tag, m', ?_, rfl, fresh, ?_, hm', source_eq, dest_eq, cls_eq, accepted_eq, ?_, ?_,
    retry, ?_, ?_, fun other ho => ?_, ?_, ?_⟩
  · rw [calm.station, out]
    rfl
  · rw [calm.seqCounter, seqCounter]
  · rw [carrier_eq]
    show (match carrier with
      | some c => some c
      | none => (s.b.quiet.station? source).bind Station.carrierId) = _
    rw [station]
    cases carrier <;> rfl
  · rw [deadline_eq]
    show (match deadline with
      | some d => clampDeadline d
      | none => classDeadline s.env.cfg cls) = _
    cases deadline with
    | none => rfl
    | some d =>
      simp only [clampDeadline]
      split
      · omega
      · split <;> omega
  · rw [shelfSourced]
    show ((s.b.quiet.station? source).any fun s => s.kind == .shelf) = _
    rw [station]
    exact Bool.eq_iff_iff.2 (by simp)
  · rw [calm.station?, Blocks.station?_congr si]
    refine (congrArg (fun o => Option.bind o Station.active)
      (b.station?_modStation source (fun s => { s with active := some m.tag }) fun _ => rfl)).trans ?_
    rw [show b.station? source = some x from hx]
    rfl
  · rw [calm.move_terms, others other ho]
    rfl
  · refine State.raised_of_bump hs.1 ((calm.counter _ ?_).trans ?_)
    · cases cls <;> decide
    · unfold Blocks.counter
      rw [sp]
      rfl
  · rw [calm.inbound, zc]
    rfl

end Sys2Proof.Machine
end

section
/-! PROOFS. The repairs the service port orders (R165, R171, R173, R174): O53. -/
namespace Sys2Proof.Machine

/-! ### Commands that are taken or refused (R171) -/

/-- With no failed bit waiting, a command that its check refuses answers so, and changes nothing. -/
theorem State.serve_refused {s : State} {reads : Env → Blocks → List ParityTable}
    {check : Env → Blocks → Result} {act : Env → Blocks → Blocks} {x : Result}
    (ha : s.cl.node.active = true) (hr : s.rested) (hc : check s.env s.b = x) (hx : x ≠ .ok)
    (hq : check s.env s.b.quiet = check s.env s.b) :
    (s.serveActive reads check act).b.out.service = some (.result x) ∧
      SameBay s.b (s.serveActive reads check act).b ∧
      SameBooks s.b (s.serveActive reads check act).b ∧
      (s.serveActive reads check act).b.fu = s.b.fu := by
  have none_waits : s.b.spoiledIn (reads s.env s.b) = false := by
    unfold Blocks.spoiledIn
    rw [hr.2]
    rfl
  rcases State.serveActive_cases reads check act s none_waits with ⟨h, -⟩ | ⟨-, -, h⟩ | ⟨-, h, -⟩
  · rw [ha] at h
    cases h
  · rw [h]
    refine ⟨?_, ⟨rfl, rfl, rfl⟩, ⟨rfl, rfl, rfl, rfl, rfl⟩, rfl⟩
    rw [← hc, ← hq]
    rfl
  · exact absurd (hc.symm.trans h) hx

/-- A command that its check lets pass runs its effect, and answers OK. -/
theorem State.serve_taken {s : State} {reads : Env → Blocks → List ParityTable}
    {check : Env → Blocks → Result} {act : Env → Blocks → Blocks}
    (ha : s.cl.node.active = true) (hr : s.rested) (hc : check s.env s.b = .ok)
    (hq : check s.env s.b.quiet = check s.env s.b) :
    ∃ g : Env → Blocks → Blocks, s.serveActive reads check act = s.run g ∧
      g s.env s.b.quiet = (act s.env s.b.quiet).reply (.result .ok) := by
  have none_waits : s.b.spoiledIn (reads s.env s.b) = false := by
    unfold Blocks.spoiledIn
    rw [hr.2]
    rfl
  rcases State.serveActive_cases reads check act s none_waits with ⟨h, -⟩ | ⟨-, h, -⟩ | ⟨-, -, h⟩
  · rw [ha] at h
    cases h
  · exact absurd hc h
  · refine ⟨_, h, ?_⟩
    show (s.b.quiet).serve (check s.env s.b.quiet) (act s.env) = _
    rw [hq, hc]
    rfl

/-! ### Removing a vehicle (R173) -/

/-- The end of a recovery watch leaves the tables alone, and asks no follow-on (R162). -/
theorem Blocks.watchVehicle_frame (id : Nat) (b : Blocks) :
    (b.watchVehicle id).zc = b.zc ∧ (b.watchVehicle id).si = b.si ∧ (b.watchVehicle id).mm = b.mm ∧
      (b.watchVehicle id).du = b.du ∧ (b.watchVehicle id).pd = b.pd ∧ (b.watchVehicle id).ti = b.ti ∧
      (b.watchVehicle id).sp = b.sp ∧ (b.watchVehicle id).out = b.out ∧
      (b.watchVehicle id).agenda.follow = b.agenda.follow := by
  unfold watchVehicle watchDone
  split
  · split <;> exact ⟨rfl, rfl, rfl, rfl, rfl, rfl, rfl, rfl, rfl⟩
  · exact ⟨rfl, rfl, rfl, rfl, rfl, rfl, rfl, rfl, rfl⟩

/-- A removed entry is found no more, and nothing on the Bid List names it. -/
theorem Blocks.removeVehicle_spec (id : Nat) (b : Blocks) :
    (b.removeVehicle id).vehicle? id = none ∧
      (∀ x, x ≠ id → (b.removeVehicle id).vehicle? x = ((b.leaveQueue id).releaseBids
        fun y => y.vehicle == id).vehicle? x) ∧
      (b.removeVehicle id).zc.inbound = b.zc.inbound ∧
      (b.removeVehicle id).du.bids = b.du.bids.filter (fun x => !(x.vehicle == id)) ∧
      (b.removeVehicle id).mm = b.mm ∧ (b.removeVehicle id).si = (b.leaveQueue id).si ∧
      (b.removeVehicle id).agenda.follow = b.agenda.follow ∧
      (b.removeVehicle id).sp = b.sp ∧ (b.removeVehicle id).out = b.out := by
  let b₁ := (b.leaveQueue id).releaseBids fun x => x.vehicle == id
  let b₂ := b₁.modRoster (freeWhere fun v => v.id == id)
  obtain ⟨zc, si, mm, du, -, -, sp, out, follow⟩ := b₂.watchVehicle_frame id
  obtain ⟨si₁, mm₁, -, -, -, sp₁, out₁, -, -, -, inbound₁, -⟩ :=
    (b.leaveQueue id).releaseBids_frame fun x => x.vehicle == id
  refine ⟨?_, fun x hx => ?_, ?_, ?_, mm.trans mm₁, si.trans si₁, follow.trans ?_, sp.trans sp₁,
    out.trans out₁⟩
  · exact (vehicle?_congr zc id).trans (b₁.vehicle?_free id)
  · exact (vehicle?_congr zc x).trans (b₁.vehicle?_free_of_ne hx)
  · exact (congrArg ZC.inbound zc).trans inbound₁
  · exact (congrArg DU.bids du).trans ((b.leaveQueue id).releaseBids_bids _)
  · show b₁.agenda.follow = _
    exact (b.leaveQueue id).releaseBids_follow _

/-- What befalls the move of a vehicle that is removed comes before its entry goes (R54, R173). -/
theorem Blocks.vehicleGone_eq {e : Env} {b : Blocks} {id : Nat} {v : Vehicle}
    (h : b.vehicle? id = some v) :
    ∃ tag d, Closes tag b d ∧ b.vehicleGone e id = d.removeVehicle id := by
  unfold vehicleGone
  rw [h]
  dsimp only
  split
  · refine ⟨⟨0, 0⟩, _, ?_, rfl⟩
    unfold dropCarried
    split
    · split
      · exact Closes.refl.dropDelivery
      · exact .refl
    · exact .refl
  next tag _ =>
    refine ⟨tag, _, ?_, rfl⟩
    split
    · split
      · exact .refl
      · split
        · exact Closes.refl.enterWaiting.modMove fun _ => rfl
        · split
          · exact Closes.refl.strand
          · exact .refl
    · split
      · exact .refl
      · exact Closes.refl.sendDone.dropDelivery

/-- Removal effects leave the Inbound List alone. -/
theorem Blocks.vehicleGone_inbound (e : Env) (id : Nat) (b : Blocks) :
    (b.vehicleGone e id).zc.inbound = b.zc.inbound :=
  (Evolves.vehicleGone (K := fun p => p ≠ .inbound) (by simp) (by simp) .refl).inbound_eq (by simp)

theorem Blocks.onRoster_eq_false {b : Blocks} {id : Nat} : b.onRoster id = false ↔ b.vehicle? id = none := by
  unfold onRoster
  cases b.vehicle? id <;> simp

/-- VEHICLE-OUT removes the entry of a roster vehicle (R173). -/
theorem State.vehicleOut_removes {s : State} {id : Nat} (ha : s.cl.node.active = true) (hr : s.rested)
    (hl : 1 ≤ id) (hu : id ≤ 254) (hon : s.b.onRoster id = true) :
    Answers (.vehicleOut id) s fun t =>
      t.b.out.service = some (.result .ok) ∧ t.b.onRoster id = false ∧
      t.b.zc.inbound = s.b.zc.inbound ∧ (∀ x ∈ t.b.du.bids, x.vehicle ≠ id) := by
  have checks : (if id < 1 ∨ 254 < id then Result.badIndex
      else if s.b.onRoster id then .ok else .wrongState) = .ok := by
    rw [if_neg (by omega), if_pos hon]
  obtain ⟨g, ran, effect⟩ := State.serve_taken
    (reads := fun _ _ => if id < 1 ∨ 254 < id then [] else [.roster])
    (check := fun _ b => if id < 1 ∨ 254 < id then .badIndex
      else if b.onRoster id then .ok else .wrongState)
    (act := fun e b => b.vehicleGone e id) ha hr checks rfl
  obtain ⟨v, hv⟩ : ∃ v, s.b.quiet.vehicle? id = some v := Option.isSome_iff_exists.1 hon
  obtain ⟨tag, d, closes, gone⟩ := Blocks.vehicleGone_eq (e := s.env) hv
  obtain ⟨removed, -, -, bids, -, -, follow, -⟩ := d.removeVehicle_spec id
  have calm := State.run_calm (f := g) hr (by
    rw [effect, gone]
    exact follow.trans (closes.follow.trans (congrArg Agenda.follow hr.1)))
  refine ⟨_, congrArg Host.Outcome.next ran, ?_, ?_, ?_, fun x hx => ?_⟩
  · rw [calm.service, effect]
    rfl
  · rw [calm.onRoster, Blocks.onRoster_eq_false, effect, gone]
    exact removed
  · rw [calm.inbound, effect]
    exact s.b.quiet.vehicleGone_inbound s.env id
  · rw [calm.bids, effect, gone] at hx
    have hx : x ∈ (d.removeVehicle id).du.bids := hx
    rw [bids] at hx
    simpa using (List.mem_filter.1 hx).2

/-! ### Restoring a segment (R165) -/

theorem State.restoreSegment_restores {s : State} {i : Nat} {g : Seg} (ha : s.cl.node.active = true)
    (hr : s.rested) (hi : i ≤ s.cl.cfg.loopLen + 1) (hg : s.b.seg? i = some g) :
    Answers (.restoreSegment i) s fun t =>
      t.b.out.service = some (.result .ok) ∧
      t.b.seg? i = some { g with working := g.configured, degraded := false, faults := 0,
                                 clampRun := 0 } ∧
      (∀ j, j ≠ i → t.b.seg? j = s.b.seg? j) ∧ t.b.mm = s.b.mm ∧ t.b.si = s.b.si ∧
      t.b.fu = s.b.fu := by
  obtain ⟨f, ran, effect⟩ := State.serve_taken (reads := fun _ _ => [])
    (check := fun e _ => if i ≤ e.exitSeg then .ok else .badIndex)
    (act := fun _ b => (b.modSeg i Seg.restore).wantPark) ha hr
    (if_pos (show i ≤ s.env.exitSeg from hi)) rfl
  have calm := State.run_calm (f := f) hr (by
    rw [effect]
    exact congrArg Agenda.follow hr.1)
  have parked : (s.run f).b.mm = (f s.env s.b.quiet).mm := by
    rw [State.run_rested hr]
    refine (Blocks.settle_of_park s.env _ s.b ?_ ?_ ?_).1
    all_goals rw [effect]
    · exact congrArg Agenda.follow hr.1
    · exact congrArg Agenda.bind hr.1
    · exact congrArg Agenda.call hr.1
  have segments (j : Nat) : (s.run f).b.seg? j = (s.b.quiet.modSeg i Seg.restore).seg? j := by
    unfold Blocks.seg?
    rw [calm.segments, effect]
    rfl
  refine ⟨_, congrArg Host.Outcome.next ran, ?_, ?_, fun j hj => ?_, ?_, ?_, ?_⟩
  · rw [calm.service, effect]
    rfl
  · rw [segments, Blocks.seg?_modSeg, show s.b.quiet.seg? i = some g from hg]
    rfl
  · rw [segments, Blocks.seg?_modSeg_of_ne _ _ hj]
    rfl
  · rw [parked, effect]
    rfl
  · rw [calm.si, effect]
    rfl
  · rw [calm.fu, effect]
    rfl

/-! ### Restoring a shelf (R174) -/

/-- An entry of the Station Table after a delivery operation. -/
theorem Delivers.slot {b c : Blocks} (h : Delivers b c) {i : Nat} {x : Station}
    (hx : b.si.stations[i]? = some (some x)) :
    ∃ y, c.si.stations[i]? = some (some y) ∧ x.delivered y := by
  obtain ⟨hi, hx⟩ := List.getElem?_eq_some_iff.1 hx
  have length := h.slots.length_eq
  have rel := List.forall₂_iff_get.1 h.slots |>.2 i hi (length ▸ hi)
  simp only [List.get_eq_getElem, hx] at rel
  have hc : c.si.stations[i]? = some (c.si.stations[i]'(length ▸ hi)) := List.getElem?_eq_getElem _
  cases hy : c.si.stations[i]'(length ▸ hi) with
  | none =>
    rw [hy] at rel
    cases rel
  | some y =>
    rw [hy] at rel hc
    cases rel with
    | some hxy => exact ⟨y, hc, hxy⟩

theorem State.restoreShelf_frees {s : State} {i : Nat} {x : Station} (ha : s.cl.node.active = true)
    (hr : s.rested) (hx : s.b.si.stations[i]? = some (some x)) (hk : x.kind = .shelf)
    (hd : x.state = .disabled) :
    Answers (.restoreShelf i) s fun t =>
      t.b.out.service = some (.result .ok) ∧
      (∃ y, t.b.si.stations[i]? = some (some y) ∧ y.state = .free ∧ y.carrierId = none ∧
        y.finalDest = none ∧ y.hoistFailures = 0) ∧
      t.b.zc.inbound = s.b.zc.inbound := by
  have found : (s.b.si.stations[i]?).join = some x := congrArg Option.join hx
  obtain ⟨g, ran, effect⟩ := State.serve_taken (s := s) (reads := fun _ _ => [])
    (check := fun _ b => b.checkShelf i)
    (act := fun e b => match (b.si.stations[i]?).join with
      | none => b
      | some x => b.freeShelf e x.number) ha hr (by
      unfold Blocks.checkShelf
      rw [found]
      simp [hk, hd]) rfl
  let b₁ := s.b.quiet.modStation x.number Station.freed
  let b₂ := b₁.reevaluateOwn s.env
  have freed : g s.env s.b.quiet = (b₂.offerShelf s.env x.number).reply (.result .ok) := by
    rw [effect, show (s.b.quiet.si.stations[i]?).join = some x from found]
    rfl
  obtain ⟨zc₂, si₂, -⟩ := b₁.reevaluate_frame s.env fun m => s.env.inWindow m.dest
  have delivers := Delivers.refl.offerShelf (e := s.env) (b := b₂) (n := x.number)
  have slot : b₂.si.stations[i]? = some (some x.freed) := by
    rw [show b₂.si = b₁.si from si₂]
    show (s.b.si.stations.map _)[i]? = _
    rw [List.getElem?_map, hx]
    simp
  obtain ⟨y, hy, -, kept⟩ := delivers.slot slot
  have calm := State.run_calm (f := g) hr (by
    rw [freed]
    refine delivers.follow.trans ?_
    exact (Evolves.reevaluate (K := fun p => p ≠ .stations) .refl).follow_eq (by simp) |>.trans
      (congrArg Agenda.follow hr.1))
  refine ⟨_, congrArg Host.Outcome.next ran, ?_, ⟨y, ?_, ?_⟩, ?_⟩
  · rw [calm.service, freed]
    rfl
  · rw [calm.si, freed]
    exact hy
  · rw [kept]
    exact ⟨rfl, rfl, rfl, rfl⟩
  · rw [calm.inbound, freed]
    exact delivers.inbound.trans (congrArg ZC.inbound zc₂)

/-- Settles O53. -/
theorem repairsByService : Obligations.RepairsByService := by
  intro s ha hr
  refine ⟨fun id hl hu => ⟨fun hon => State.vehicleOut_removes ha hr hl hu hon, fun hoff => ?_⟩,
    fun i g hi hg => State.restoreSegment_restores ha hr hi hg, fun i hi => ?_,
    fun i x hx hk hd => State.restoreShelf_frees ha hr hx hk hd, fun i hport => ?_⟩
  · have checks : (if id < 1 ∨ 254 < id then Result.badIndex
        else if s.b.onRoster id then .ok else .wrongState) = .wrongState := by
      rw [if_neg (by omega), hoff]
      rfl
    obtain ⟨service, bay, books, -⟩ := State.serve_refused
      (reads := fun _ _ => if id < 1 ∨ 254 < id then [] else [.roster])
      (check := fun _ b => if id < 1 ∨ 254 < id then .badIndex
        else if b.onRoster id then .ok else .wrongState)
      (act := fun e b => b.vehicleGone e id) ha hr checks (by decide) rfl
    exact ⟨_, rfl, service, bay, books⟩
  · obtain ⟨service, bay, -⟩ := State.serve_refused (reads := fun _ _ => [])
      (check := fun e _ => if i ≤ e.exitSeg then .ok else .badIndex)
      (act := fun _ b => (b.modSeg i Seg.restore).wantPark) ha hr
      (if_neg (show ¬ i ≤ s.env.exitSeg from Nat.not_le.2 hi)) (by decide) rfl
    exact ⟨_, rfl, service, bay⟩
  · have bad : s.b.checkShelf i = .badIndex := by
      unfold Blocks.checkShelf
      cases hx : s.b.si.stations[i]? with
      | none => rfl
      | some o =>
        cases o with
        | none => rfl
        | some x =>
          have := hport x hx
          simp [this]
    obtain ⟨service, bay, -⟩ := State.serve_refused (s := s) (reads := fun _ _ => [])
      (check := fun _ b => b.checkShelf i)
      (act := fun e b => match (b.si.stations[i]?).join with
        | none => b
        | some x => b.freeShelf e x.number) ha hr bad (by decide) rfl
    exact ⟨_, rfl, service, bay⟩

end Sys2Proof.Machine
end

section
/-! PROOFS. RESOLVE of a move (R56, R61 to R63): O52. -/
namespace Sys2Proof.Machine

/-! ### Taken or refused -/

theorem State.resolve_refused {s : State} {tag : Tag} {how : Answer} {x : Result}
    (ha : s.cl.node.active = true) (hr : s.rested) (hc : s.b.checkResolve s.env tag how = x)
    (hx : x ≠ .ok) : Refuses (.resolve tag how) x s := by
  obtain ⟨service, bay, books, -⟩ := State.serve_refused (s := s)
    (reads := fun e b => b.resolveReads e tag) (check := fun e b => b.checkResolve e tag how)
    (act := fun e b => match b.move? tag with
      | none => b
      | some m => if m.state = .stranded then b.resolveStranded e m how else b.resolveSuspended e m how)
    ha hr hc hx rfl
  exact ⟨_, rfl, service, bay, books⟩

theorem State.resolve_taken {s : State} {m : Move} {how : Answer} (ha : s.cl.node.active = true)
    (hr : s.rested) (hc : s.b.checkResolve s.env m.tag how = .ok) (hm : s.b.move? m.tag = some m) :
    ∃ g : Env → Blocks → Blocks, exec (.resolve m.tag how) s = .next (s.run g) ∧
      g s.env s.b.quiet = (if m.state = .stranded then s.b.quiet.resolveStranded s.env m how
        else s.b.quiet.resolveSuspended s.env m how).reply (.result .ok) := by
  obtain ⟨g, ran, effect⟩ := State.serve_taken (s := s)
    (reads := fun e b => b.resolveReads e m.tag) (check := fun e b => b.checkResolve e m.tag how)
    (act := fun e b => match b.move? m.tag with
      | none => b
      | some m => if m.state = .stranded then b.resolveStranded e m how else b.resolveSuspended e m how)
    ha hr hc rfl
  refine ⟨g, congrArg Host.Outcome.next ran, ?_⟩
  rw [effect, show s.b.quiet.move? m.tag = some m from hm]

/-- The check of RESOLVE for a tag that a record of this bay holds (R61). -/
theorem State.checkResolve_of_held {s : State} {m : Move} (hown : m.tag.home = s.cl.cfg.bay.val)
    (hm : s.b.move? m.tag = some m) (how : Answer) :
    (m.state = .stranded → s.b.checkResolve s.env m.tag how = s.b.checkStranded m how) ∧
    (m.state = .suspended → s.b.checkResolve s.env m.tag how = s.b.checkSuspended s.env m how) ∧
    (m.state ≠ .stranded → m.state ≠ .suspended →
      s.b.checkResolve s.env m.tag how = .wrongState) := by
  have own : s.env.ownTag m.tag = true := by simpa [Env.ownTag] using hown
  unfold Blocks.checkResolve
  rw [if_pos own, hm]
  dsimp only
  refine ⟨fun h => by rw [h], fun h => by rw [h], fun h1 h2 => ?_⟩
  split
  · exact absurd ‹_› h1
  · exact absurd ‹_› h2
  · rfl

theorem State.checkResolve_of_unheld {s : State} {tag : Tag}
    (h : tag.home ≠ s.cl.cfg.bay.val ∨ s.b.move? tag = none) (how : Answer) :
    s.b.checkResolve s.env tag how = .badIndex := by
  have unheld : (if s.env.ownTag tag = true then s.b.move? tag else none) = none := by
    rcases h with foreign | unheld
    · exact if_neg (by simpa [Env.ownTag] using foreign)
    · rw [unheld, ite_self]
  unfold Blocks.checkResolve
  rw [unheld]

/-! ### REMOVE (R61) -/

/-- RESOLVE REMOVE frees a move that is STRANDED or SUSPENDED. -/
theorem State.resolve_removes {s : State} {m : Move} (ha : s.cl.node.active = true) (hs : s.WellSized)
    (hown : m.tag.home = s.cl.cfg.bay.val) (hm : s.b.move? m.tag = some m)
    (hstate : m.state = .stranded ∨ m.state = .suspended)
    (hdue : ∀ x ∈ s.b.stationList, x.followOnDue = false) :
    ∃ g : Env → Blocks → Blocks, exec (.resolve m.tag .remove) s = .next (s.run g) ∧
      Calm s.env (g s.env s.b.quiet) (s.run g).b ∧
      (s.run g).b.out.service = some (.result .ok) ∧
      (s.run g).b.out.station = [.moveDone m.tag .removed] ∧ (s.run g).b.move? m.tag = none ∧
      (∀ x ∈ (s.run g).b.stationList, x.active ≠ some m.tag) ∧ Raised .removed s (s.run g) ∧
      (g s.env s.b.quiet).vehicles = (s.b.quiet.unname s.env m m.tag).vehicles := by
  have check : s.b.checkResolve s.env m.tag .remove = .ok := by
    obtain ⟨stranded, suspended, -⟩ := State.checkResolve_of_held hown hm .remove
    exact hstate.elim stranded suspended
  obtain ⟨g, ran, effect⟩ := State.resolve_taken ha hs.2 check hm
  have freed : g s.env s.b.quiet =
      (s.b.quiet.freeMove s.env m.tag .removed).reply (.result .ok) := by
    rw [effect]
    split <;> rfl
  obtain ⟨calm, station, service, gone, -, active, raised, -, -⟩ :=
    State.run_freeMove (g := g) (k := .removed) (o := .removed) (r := some (.result .ok)) hs hm freed
      (fun _ => rfl) (by decide) hdue
  refine ⟨g, ran, calm, service, station, gone, active, raised, ?_⟩
  rw [freed, Blocks.freeMove_eq (b := s.b.quiet) hm]
  rfl

/-- A released vehicle that holds a carrier is left for the floor (R16, R56). -/
theorem Blocks.vehicles_unname_carrier {e : Env} {b : Blocks} {m : Move} {v : Vehicle}
    (hm : m.vehicle = some v.id) (hv : b.vehicle? v.id = some v) (hr : v.relearn = false)
    (hb : v.bound = some m.tag) (hc : v.carrier = true) (hs : v.state ≠ .silent) :
    (∀ w ∈ (b.unname e m m.tag).vehicles, w.id = v.id → w.state = .silent ∨ w.state = .faulted) ∧
    ∃ y, (b.unname e m m.tag).vehicle? v.id = some y ∧ y.state = .faulted ∧ y.bound = none ∧
      y.carrier = true := by
  let b₁ := (b.clearActive m.tag).dropDelivery e m.tag
  have delivers : Delivers (b.clearActive m.tag) b₁ := Delivers.refl.dropDelivery
  obtain ⟨w, hw, kept⟩ : ∃ w, b₁.vehicle? v.id = some w ∧ v.delivered w := by
    rcases delivers.vehicle?_cases v.id with ⟨hn, -⟩ | ⟨u, w, hu, hw, kept⟩
    · rw [show (b.clearActive m.tag).vehicle? v.id = some v from hv] at hn
      cases hn
    · rw [show (b.clearActive m.tag).vehicle? v.id = some v from hv] at hu
      cases hu
      exact ⟨w, hw, kept⟩
  have state_w : w.state ≠ .silent := by
    rcases kept.1 with h | h | h <;> rw [h]
    · exact hs
    · simp
    · simp
  let unbound : Vehicle → Vehicle := fun x => { x with bound := none, arrival := none }
  let floor : Vehicle → Vehicle := fun x =>
    { x with state := if x.state = .silent then .silent else .faulted, clearance := false }
  have released : b₁.releaseVehicle e m.tag v.id =
      ((b₁.modVehicle v.id unbound).leaveQueue v.id).modVehicle v.id floor := by
    unfold releaseVehicle
    rw [hw]
    dsimp only
    rw [if_neg (by rw [kept.2]; simp [hb]), if_neg (by rw [kept.2]; simp [hr]),
      if_pos (by rw [kept.2]; exact hc)]
    rfl
  let b₂ := ((b₁.modVehicle v.id unbound).leaveQueue v.id).modVehicle v.id floor
  have unnamed : b.unname e m m.tag = (b₂.endCall e m.tag).inboundToLoan m.tag := by
    unfold unname
    rw [hm]
    dsimp only
    rw [show ((b.clearActive m.tag).dropDelivery e m.tag).releaseVehicle e m.tag v.id = b₂ from released]
  obtain ⟨zc, -⟩ := b₂.endCall_frame e m.tag
  have vehicles : (b.unname e m m.tag).vehicles = b₂.vehicles := by
    rw [unnamed]
    show live (b₂.endCall e m.tag).zc.roster = _
    rw [zc]
    rfl
  refine ⟨fun x hx hid => ?_, floor (unbound w), ?_, if_neg state_w, rfl, ?_⟩
  · rw [vehicles, vehicles_modVehicle] at hx
    obtain ⟨y, -, rfl⟩ := List.mem_map.1 hx
    by_cases hy : (y.id == v.id) = true
    · rw [if_pos hy]
      show (if y.state = .silent then RosterState.silent else .faulted) = _ ∨ _
      by_cases silent : y.state = .silent
      · exact .inl (if_pos silent)
      · exact .inr (if_neg silent)
    · rw [if_neg hy] at hid
      exact absurd (beq_iff_eq.2 hid) hy
  · unfold vehicle?
    rw [vehicles]
    refine (((b₁.modVehicle v.id unbound).leaveQueue v.id).vehicle?_modVehicle v.id floor
      fun _ => rfl).trans ?_
    show ((b₁.modVehicle v.id unbound).vehicle? v.id).map floor = _
    rw [b₁.vehicle?_modVehicle v.id unbound fun _ => rfl, hw]
    rfl
  · show w.carrier = true
    rw [kept.2]
    exact hc

/-! ### AT-SOURCE and AT-STATION of a STRANDED move (R61) -/

/-- A move that has entered WAITING, as the passes at the command's end leave it. -/
theorem Calm.of_waiting {e : Env} {b c : Blocks} {tag : Tag} {x : Move} (h : Calm e b c)
    (hx : b.move? tag = some x) (hs : x.state = .waiting) :
    ∃ y, c.move? tag = some y ∧ (y.state = .waiting ∨ y.state = .bound ∨ y.state = .calling) ∧
      y.retry = x.retry ∧ y.terms = x.terms ∧ y.shelfSourced = x.shelfSourced := by
  obtain ⟨y, hy, passed⟩ := h.move?_some hx
  obtain ⟨terms, retry, -, -, shelfSourced, -⟩ := passed.keeps
  refine ⟨y, hy, ?_, retry, terms, shelfSourced⟩
  rcases passed.state_cases with h | h | h
  · exact .inl (h.trans hs)
  · exact .inr (.inl h)
  · exact .inr (.inr h)

theorem Blocks.enterWaiting_follow (e : Env) (tag : Tag) (again : Bool) (b : Blocks) :
    (b.enterWaiting e tag again).agenda.follow = b.agenda.follow :=
  (Closes.refl (tag := tag)).enterWaiting.follow

theorem State.resolve_atSource {s : State} {m : Move} {x : Station} (ha : s.cl.node.active = true)
    (hr : s.rested) (hown : m.tag.home = s.cl.cfg.bay.val) (hm : s.b.move? m.tag = some m)
    (hstate : m.state = .stranded) (hp : m.poisoned = false) (hx : s.b.station? m.source = some x)
    (hocc : x.state = .occupied ∨ x.state = .holding) :
    Answers (.resolve m.tag .atSource) s fun t =>
      t.b.out.service = some (.result .ok) ∧
      (∃ y, t.b.move? m.tag = some y ∧
        (y.state = .waiting ∨ y.state = .bound ∨ y.state = .calling) ∧
        y.retry = min (m.retry + 1) 255 ∧ y.terms = m.terms) ∧
      t.b.si = s.b.si ∧ t.b.zc.inbound = s.b.zc.inbound := by
  have check : s.b.checkResolve s.env m.tag .atSource = .ok := by
    rw [(State.checkResolve_of_held hown hm _).1 hstate]
    have occupied : x.occupied = true := by
      rcases hocc with h | h <;> simp [Station.occupied, h]
    simp [Blocks.checkStranded, hp, hx, occupied]
  obtain ⟨g, ran, effect⟩ := State.resolve_taken ha hr check hm
  rw [if_pos hstate] at effect
  let b := s.b.quiet.enterWaiting s.env m.tag true
  have waits : g s.env s.b.quiet = b.reply (.result .ok) := effect
  obtain ⟨zc, si, -⟩ := s.b.quiet.enterWaiting_frame s.env m.tag true
  have calm := State.run_calm (f := g) hr (by
    rw [waits]
    exact (s.b.quiet.enterWaiting_follow s.env m.tag true).trans (congrArg Agenda.follow hr.1))
  rw [waits] at calm
  have found : (b.reply (.result .ok)).move? m.tag = _ :=
    (s.b.quiet.move?_enterWaiting s.env m.tag true).trans
      (congrArg (Option.map _) (show s.b.quiet.move? m.tag = some m from hm))
  obtain ⟨y, hy, state, retry, terms, -⟩ := calm.of_waiting found rfl
  refine ⟨_, ran, ?_, ⟨y, hy, state, retry, terms⟩, ?_, ?_⟩
  · rw [calm.service]
    rfl
  · rw [calm.si]
    exact si
  · rw [calm.inbound]
    exact congrArg ZC.inbound zc

theorem State.resolve_atStation {s : State} {m : Move} {n : Nat} {x : Station}
    (ha : s.cl.node.active = true) (hr : s.rested) (hown : m.tag.home = s.cl.cfg.bay.val)
    (hm : s.b.move? m.tag = some m) (hstate : m.state = .stranded) (hp : m.poisoned = false)
    (hx : s.b.station? n = some x) (hactive : x.active = none) (hn : n ≠ m.dest)
    (hocc : x.state = .occupied ∨ x.state = .holding)
    (hdue : ∀ y ∈ s.b.stationList, y.followOnDue = false) :
    Answers (.resolve m.tag (.atStation n)) s fun t =>
      t.b.out.service = some (.result .ok) ∧
      (∃ y, t.b.move? m.tag = some y ∧
        (y.state = .waiting ∨ y.state = .bound ∨ y.state = .calling) ∧ y.source = n ∧
        y.shelfSourced = (x.kind == .shelf) ∧ y.retry = min (m.retry + 1) 255 ∧
        y.dest = m.dest ∧ y.cls = m.cls ∧ y.carrierId = m.carrierId ∧
        y.acceptedAt = m.acceptedAt ∧ y.deadline = m.deadline) ∧
      (t.b.station? n).bind Station.active = some m.tag ∧
      (∀ y ∈ t.b.stationList, y.active = some m.tag → y.number = n) ∧
      t.b.zc.inbound = s.b.zc.inbound := by
  have check : s.b.checkResolve s.env m.tag (.atStation n) = .ok := by
    rw [(State.checkResolve_of_held hown hm _).1 hstate]
    have occupied : x.occupied = true := by
      rcases hocc with h | h <;> simp [Station.occupied, h]
    simp [Blocks.checkStranded, hp, hx, occupied, hactive, hn]
  obtain ⟨g, ran, effect⟩ := State.resolve_taken ha hr check hm
  rw [if_pos hstate] at effect
  let b₁ := s.b.quiet.clearActive m.tag
  let b₂ := b₁.setActive n m.tag
  let moved : Move → Move := fun z =>
    { z with source := n, shelfSourced := (b₂.station? n).any fun s => s.kind == .shelf }
  let b₃ := b₂.modMove m.tag moved
  let b₄ := b₃.enterWaiting s.env m.tag true
  have waits : g s.env s.b.quiet = b₄.reply (.result .ok) := effect
  obtain ⟨zc, si, -⟩ := b₃.enterWaiting_frame s.env m.tag true
  have stations : b₂.stationList = b₁.stationList.map fun s =>
      if s.number == n then { s with active := some m.tag } else s := live_updWhere _ _ _
  have not_due : ∀ y ∈ b₄.stationList, y.followOnDue = false := by
    unfold Blocks.stationList
    rw [si]
    show ∀ y ∈ b₂.stationList, _
    rw [stations]
    intro y hy
    obtain ⟨z, hz, rfl⟩ := List.mem_map.1 hy
    have := Blocks.not_due_clearActive m.tag (b := s.b.quiet) hdue z hz
    split <;> exact this
  have calm := State.run_calm_of_not_due (f := g) hr (by rw [waits]; exact not_due)
  rw [waits] at calm
  have at_n : b₁.station? n = some { x with active := none } ∨ b₁.station? n = some x := by
    let clear : Station → Station := fun s =>
      if s.active == some m.tag then { s with active := none } else s
    have cleared : b₁.station? n = (s.b.station? n).map clear := by
      show (live (updWhere _ _ s.b.si.stations)).find? _ = _
      rw [live_updWhere, List.find?_map]
      refine congrArg (fun p => Option.map clear (List.find? p s.b.stationList)) (funext fun y => ?_)
      rw [Function.comp_apply]
      split <;> rfl
    rw [cleared, hx, Option.map_some]
    refine (ite_eq_or_eq (P := (x.active == some m.tag) = true)
      ({ x with active := none } : Station) x).imp ?_ ?_ <;> exact fun h => congrArg some h
  have kind_n : ((b₂.station? n).any fun s => s.kind == .shelf) = (x.kind == .shelf) := by
    have := b₁.station?_modStation n (fun s => { s with active := some m.tag }) fun _ => rfl
    rw [show b₂.station? n = _ from this]
    rcases at_n with h | h <;> rw [h] <;> rfl
  have found : (b₄.reply (.result .ok)).move? m.tag = _ :=
    (b₃.move?_enterWaiting s.env m.tag true).trans
      (congrArg (Option.map _) ((b₂.move?_modMove m.tag moved fun _ => rfl).trans
        (congrArg (Option.map moved) (show b₂.move? m.tag = some m from hm))))
  obtain ⟨y, hy, state, retry, terms, shelf⟩ := calm.of_waiting found rfl
  simp only [Move.terms, Prod.mk.injEq] at terms
  obtain ⟨source, dest, cls, carrier, accepted, deadline⟩ := terms
  have station_list : (s.run g).b.stationList = b₂.stationList := by
    rw [calm.stationList]
    show live b₄.si.stations = _
    rw [si]
    rfl
  refine ⟨_, ran, ?_, ⟨y, hy, state, source, shelf.trans kind_n, retry, dest, cls, carrier, accepted,
    deadline⟩, ?_, fun z hz hza => ?_, ?_⟩
  · rw [calm.service]
    rfl
  · unfold Blocks.station?
    rw [station_list]
    show (b₂.station? n).bind _ = _
    rw [show b₂.station? n = _ from
      b₁.station?_modStation n (fun s => { s with active := some m.tag }) fun _ => rfl]
    rcases at_n with h | h <;> rw [h] <;> rfl
  · rw [station_list, stations] at hz
    obtain ⟨u, hu, rfl⟩ := List.mem_map.1 hz
    by_cases hun : (u.number == n) = true
    · rw [if_pos hun]
      simpa using hun
    · rw [if_neg hun] at hza
      exact absurd hza (s.b.quiet.active_clearActive m.tag u hu)
  · rw [calm.inbound]
    exact congrArg ZC.inbound zc

end Sys2Proof.Machine
end

section
/-! PROOFS. RESOLVE of a SUSPENDED move (R62): O52. -/
namespace Sys2Proof.Machine

/-- The records of a tag are CARRYING to one destination, under no check hold. -/
def Blocks.CarriesTo (b : Blocks) (tag : Tag) (n : Nat) : Prop :=
  ∀ x ∈ b.moveList, x.tag = tag → x.dest = n ∧ x.checkHold = false ∧ x.state = .carrying

theorem Turns.carriesTo {b c : Blocks} {tag : Tag} {n : Nat} (h : Turns b c) (hb : b.CarriesTo tag n) :
    c.CarriesTo tag n := by
  intro y hy ht
  obtain ⟨x, hx, turned⟩ := Calm.exists_of_mem_right h.moves hy
  rw [turned] at ht ⊢
  exact hb x hx ht

theorem Blocks.carriesTo_modMove {b : Blocks} {tag : Tag} {n : Nat} {f : Move → Move}
    (hf : ∀ x ∈ b.moveList, x.tag = tag →
      (f x).dest = n ∧ (f x).checkHold = false ∧ (f x).state = .carrying) :
    (b.modMove tag f).CarriesTo tag n := by
  unfold CarriesTo
  rw [moveList_modMove]
  intro y hy ht
  obtain ⟨x, hx, rfl⟩ := List.mem_map.1 hy
  by_cases h : x.tag = tag
  · rw [if_pos (by simpa using h)]
    exact hf x hx h
  · rw [if_neg (by simpa using h)] at ht
    exact absurd ht h

theorem Turns.waitAgain {b c : Blocks} {id : Nat} (h : Turns b c) : Turns b (c.waitAgain id) := by
  have waits := (h.delivers (Delivers.refl.leaveQueue (id := id))).modVehicle (id := id)
    (f := fun v => { v with state := .loadedWait }) fun _ => by exact rfl
  exact { waits with }

/-- The vehicle of a SUSPENDED move, bound to it, is on the roster (R62). -/
theorem Blocks.vehicleHere_eq {b : Blocks} {m : Move} {v : Vehicle} (hn : m.vehicle = some v.id)
    (hv : b.vehicle? v.id = some v) (hb : v.bound = some m.tag) : b.vehicleHere m = some v := by
  simp [vehicleHere, hn, hv, hb]

/-- A SUSPENDED move that was given a new destination goes on with its vehicle (R54, R62). -/
theorem Blocks.resumeMove_spec {e : Env} {b : Blocks} {m : Move} {v : Vehicle}
    (hm : b.move? m.tag = some m) (hs : m.state = .suspended) (hc : m.checkHold = false)
    (hn : m.vehicle = some v.id) (hv : b.vehicle? v.id = some v) (hb : v.bound = some m.tag)
    (hd : m.dest ≠ m.source) :
    Turns (b.modMove m.tag fun x => { x with state := .carrying }) (b.resumeMove e m.tag) := by
  unfold resumeMove
  rw [hm]
  dsimp only
  rw [hn, Option.bind_some, hv]
  dsimp only
  rw [if_neg (by simp [hs, hc, hb])]
  split
  · split
    · exact Turns.refl.deliverHere
    · exact Turns.refl.waitAgain
    · exact Turns.refl.deliverHere
  · exact Turns.refl.sendExit

/-- What RESOLVE writes into the record of a SUSPENDED move that it sends to station `n` (R62). -/
def Move.redirected (m : Move) (n : Nat) (consign : Option Id8) : Move :=
  { m with checkHold := false, dest := n, consignId := consign }

/-- RESOLVE sends the carrier of a SUSPENDED move to another destination: at once, or when its vehicle is
FAULTED no longer. -/
theorem State.resolve_redirects {s : State} {m : Move} {v : Vehicle} {how : Answer} {n : Nat}
    {f : Move → Move} {next : Blocks → Blocks}
    (ha : s.cl.node.active = true) (hr : s.rested)
    (hown : m.tag.home = s.cl.cfg.bay.val) (hm : s.b.move? m.tag = some m) (hs : m.state = .suspended)
    (hv : s.b.vehicle? v.id = some v) (hn : m.vehicle = some v.id) (hrelearn : v.relearn = false)
    (hb : v.bound = some m.tag) (check : s.b.checkSuspended s.env m how = .ok)
    (hf : ∀ x, (f x).tag = x.tag ∧ (f x).dest = n ∧ (f x).checkHold = false ∧ (f x).state = x.state)
    (effect : s.b.quiet.resolveSuspended s.env m how =
      let b := s.b.quiet.modMove m.tag f
      if b.waitsForVehicle m then b else next b)
    (hnext : let b := s.b.quiet.modMove m.tag f
      (next b).agenda.follow = false ∧ (next b).CarriesTo m.tag n ∧
        ∃ y, (next b).move? m.tag = some y) :
    Answers (.resolve m.tag how) s fun t =>
      t.b.out.service = some (.result .ok) ∧
      (∃ y, t.b.move? m.tag = some y ∧ y.dest = n ∧ y.checkHold = false ∧
        y.state = (if v.state = .faulted then .suspended else .carrying) ∧
        (v.state = .faulted → y = f m)) ∧
      (v.state = .faulted → t.b.zc = s.b.zc ∧ t.b.si = s.b.si) := by
  have checked : s.b.checkResolve s.env m.tag how = .ok :=
    ((State.checkResolve_of_held hown hm how).2.1 hs).trans check
  obtain ⟨g, ran, taken⟩ := State.resolve_taken ha hr checked hm
  let b := s.b.quiet.modMove m.tag f
  have waits : b.waitsForVehicle m = (v.state == .faulted) := by
    unfold Blocks.waitsForVehicle
    rw [Blocks.vehicleHere_eq hn (show b.vehicle? v.id = some v from hv) hb, Option.any_some, hrelearn]
    rfl
  rw [if_neg (by rw [hs]; decide), effect] at taken
  dsimp only at taken hnext
  rw [show (s.b.quiet.modMove m.tag f).waitsForVehicle m = _ from waits] at taken
  refine ⟨_, ran, ?_⟩
  by_cases faulted : v.state = .faulted
  · rw [if_pos (by simp [faulted])] at taken
    obtain ⟨zc, si, mm, -, out⟩ := State.run_frame (f := g) hr (by
      rw [taken]
      exact hr.1)
    rw [taken] at zc si mm out
    refine ⟨?_, ⟨f m, ?_, (hf m).2.1, (hf m).2.2.1, ?_, fun _ => rfl⟩, fun _ => ⟨zc, si⟩⟩
    · rw [out]
      rfl
    · rw [Blocks.move?_congr (b := b) mm]
      exact (s.b.quiet.move?_modMove m.tag f fun x => (hf x).1).trans (congrArg (Option.map f) hm)
    · rw [if_pos faulted, (hf m).2.2.2, hs]
  · rw [if_neg (by simp [faulted])] at taken
    obtain ⟨follow, carries, y, hy⟩ := hnext
    have calm := State.run_calm (f := g) hr (by
      rw [taken]
      exact follow)
    rw [taken] at calm
    have same := calm.move?_eq (tag := m.tag) fun x hx ht => by
      obtain ⟨-, -, state⟩ := carries x hx ht
      simp [Move.candidate, state]
    obtain ⟨mem, tag⟩ := Blocks.move?_mem _ hy
    obtain ⟨dest, hold, state⟩ := carries y mem tag
    refine ⟨?_, ⟨y, same.trans hy, dest, hold, ?_, fun h => absurd h faulted⟩, fun h => absurd h faulted⟩
    · rw [calm.service]
      rfl
    · rw [if_neg faulted, state]

/-- RESOLVE AT-SOURCE of a SUSPENDED move: its carrier goes back to its source (R52, R62). -/
theorem State.resolve_sendsBack {s : State} {m : Move} {v : Vehicle}
    (ha : s.cl.node.active = true) (hr : s.rested)
    (hown : m.tag.home = s.cl.cfg.bay.val) (hm : s.b.move? m.tag = some m) (hs : m.state = .suspended)
    (hv : s.b.vehicle? v.id = some v) (hn : m.vehicle = some v.id) (hrelearn : v.relearn = false)
    (hb : v.bound = some m.tag) :
    Answers (.resolve m.tag .atSource) s fun t =>
      t.b.out.service = some (.result .ok) ∧
      (∃ y, t.b.move? m.tag = some y ∧ y.dest = m.source ∧ y.checkHold = false ∧
        y.state = (if v.state = .faulted then .suspended else .carrying)) ∧
      (v.state = .faulted → t.b.zc = s.b.zc ∧ t.b.si = s.b.si) := by
  let f : Move → Move := fun x => { x with checkHold := false, dest := m.source }
  let b := s.b.quiet.modMove m.tag f
  have found : b.move? (f m).tag = some (f m) :=
    (s.b.quiet.move?_modMove m.tag f fun _ => rfl).trans (congrArg (Option.map f) hm)
  obtain ⟨turns, gone⟩ := Blocks.returnMove_spec (e := s.env) found
  obtain ⟨t, ran, service, ⟨y, hy, dest, hold, state, -⟩, frame⟩ :=
    State.resolve_redirects (how := .atSource) (f := f) (n := m.source) (next := fun b => b.returnMove s.env m.tag)
      ha hr hown
      hm hs hv hn hrelearn hb
      (by simp [Blocks.checkSuspended, Blocks.vehicleHere_eq hn hv hb])
      (fun _ => ⟨rfl, rfl, rfl, rfl⟩) rfl
      ⟨turns.follow.trans (congrArg Agenda.follow hr.1),
        turns.carriesTo (Blocks.carriesTo_modMove fun _ _ _ => ⟨rfl, rfl, rfl⟩),
        gone.elim (fun h => ⟨_, h⟩) fun h => ⟨_, h⟩⟩
  exact ⟨t, ran, service, ⟨y, hy, dest, hold, state⟩, frame⟩

/-- RESOLVE AT-STATION of a SUSPENDED move: its carrier goes to the station named (R54, R62). -/
theorem State.resolve_sendsTo {s : State} {m : Move} {v : Vehicle} {n : Nat}
    (ha : s.cl.node.active = true) (hr : s.rested)
    (hown : m.tag.home = s.cl.cfg.bay.val) (hm : s.b.move? m.tag = some m) (hs : m.state = .suspended)
    (hv : s.b.vehicle? v.id = some v) (hn : m.vehicle = some v.id) (hrelearn : v.relearn = false)
    (hb : v.bound = some m.tag) (hrouted : s.routed n) (hne : n ≠ m.source) :
    Answers (.resolve m.tag (.atStation n)) s fun t =>
      t.b.out.service = some (.result .ok) ∧
      (∃ y, t.b.move? m.tag = some y ∧ y.dest = n ∧ y.checkHold = false ∧
        y.state = (if v.state = .faulted then .suspended else .carrying) ∧
        (v.state = .faulted → y.consignId = if s.env.inWindow n then m.consignId else none)) ∧
      (v.state = .faulted → t.b.zc = s.b.zc ∧ t.b.si = s.b.si) := by
  let f : Move → Move := fun x => x.redirected n (if s.env.inWindow n then m.consignId else none)
  let b := s.b.quiet.modMove m.tag f
  have found : b.move? (f m).tag = some (f m) :=
    (s.b.quiet.move?_modMove m.tag f fun _ => rfl).trans (congrArg (Option.map f) hm)
  have turns := Blocks.resumeMove_spec (e := s.env) found hs rfl hn
    (show b.vehicle? v.id = some v from hv) hb hne
  obtain ⟨y, hy, -⟩ := turns.move?_some
    ((b.move?_modMove m.tag (fun x => { x with state := .carrying }) fun _ => rfl).trans
      (congrArg (Option.map _) found))
  have configured : ¬ (s.env.inWindow n = true ∧ (s.b.station? n).isNone = true) := by
    rintro ⟨inside, missing⟩
    rcases hrouted with ⟨-, known⟩ | ⟨outside, -⟩
    · rw [Option.isNone_iff_eq_none.1 missing] at known
      cases known
    · rw [inside] at outside
      cases outside
  have owned : (s.b.owner s.env n).isSome = true :=
    Option.isSome_iff_ne_none.2 fun h => (s.owner_eq_none_iff n).1 h hrouted
  obtain ⟨t, ran, service, ⟨y, hy, dest, hold, state, waits⟩, frame⟩ :=
    State.resolve_redirects (how := .atStation n) (f := f) (n := n) (next := fun b => b.resumeMove s.env m.tag)
      ha hr hown
      hm hs hv hn hrelearn hb
      (by
        unfold Blocks.checkSuspended
        dsimp only
        rw [Blocks.vehicleHere_eq hn hv hb, if_neg (by simp), if_neg configured, if_pos ⟨owned, hne⟩])
      (fun _ => ⟨rfl, rfl, rfl, rfl⟩) rfl
      ⟨turns.follow.trans (congrArg Agenda.follow hr.1),
        turns.carriesTo (Blocks.carriesTo_modMove fun x hx ht => by
          rw [Blocks.moveList_modMove] at hx
          obtain ⟨z, -, rfl⟩ := List.mem_map.1 hx
          by_cases hz : (z.tag == m.tag) = true
          · rw [if_pos hz]
            exact ⟨rfl, rfl, rfl⟩
          · rw [if_neg hz] at ht
            exact absurd (beq_iff_eq.2 ht) hz),
        ⟨y, hy⟩⟩
  exact ⟨t, ran, service, ⟨y, hy, dest, hold, state, fun h => by rw [waits h]; rfl⟩, frame⟩

/-- Settles O52. -/
theorem resolveStranded : Obligations.ResolveStranded := by
  intro s tag ha hs
  have refused {how : Answer} {x : Result} (hc : s.b.checkResolve s.env tag how = x) (hx : x ≠ .ok) :
      Refuses (.resolve tag how) x s := State.resolve_refused ha hs.2 hc hx
  refine ⟨fun unheld how => ?_, fun m hown hm => ?_⟩
  · exact refused (State.checkResolve_of_unheld unheld how) (by decide)
  obtain rfl : m.tag = tag := (Blocks.move?_mem _ hm).2
  have stranded {how : Answer} (h : m.state = .stranded) :
      s.b.checkResolve s.env m.tag how = s.b.checkStranded m how :=
    (State.checkResolve_of_held hown hm how).1 h
  have suspended {how : Answer} (h : m.state = .suspended) :
      s.b.checkResolve s.env m.tag how = s.b.checkSuspended s.env m how :=
    (State.checkResolve_of_held hown hm how).2.1 h
  refine ⟨fun hns hnsu how => ?_, fun h hdue => ?_, fun x h hp hx hocc => ?_,
    fun n x h hp hx hactive hn hocc hdue => ?_, fun n h hp hx => ?_, fun h hbad => ?_,
    fun n x h hx hbad => ?_, fun h hdue => ?_, fun v h hn hv hrelearn hb => ?_, fun h hnone => ?_⟩
  · exact refused ((State.checkResolve_of_held hown hm how).2.2 hns hnsu) (by decide)
  · obtain ⟨g, ran, -, service, station, gone, active, raised, -⟩ :=
      State.resolve_removes ha hs hown hm (.inl h) hdue
    exact ⟨_, ran, service, station, gone, active, raised⟩
  · exact State.resolve_atSource ha hs.2 hown hm h hp hx hocc
  · exact State.resolve_atStation ha hs.2 hown hm h hp hx hactive hn hocc hdue
  · exact refused ((stranded h).trans (by simp [Blocks.checkStranded, hp, hx])) (by decide)
  · refine refused ((stranded h).trans ?_) (x := .wrongState) (by decide)
    rcases hbad with hp | hbad
    · simp [Blocks.checkStranded, hp]
    · have unoccupied : (s.b.station? m.source).any Station.occupied = false := by
        cases hx : s.b.station? m.source with
        | none => rfl
        | some x =>
          obtain ⟨h1, h2⟩ := hbad x hx
          simp [Station.occupied, h1, h2]
      simp [Blocks.checkStranded, unoccupied]
  · refine refused ((stranded h).trans ?_) (x := .wrongState) (by decide)
    by_cases hp : m.poisoned = true
    · simp [Blocks.checkStranded, hp]
    · have refusal : ¬ (x.active.isNone = true ∧ n ≠ m.dest ∧ x.occupied = true) := by
        rintro ⟨h1, h2, h3⟩
        rcases hbad with h | h | h | ⟨ho, hh⟩
        · exact hp h
        · exact h (Option.isNone_iff_eq_none.1 h1)
        · exact h2 h
        · simp [Station.occupied, ho, hh] at h3
      unfold Blocks.checkStranded
      dsimp only
      rw [if_neg hp, hx]
      exact if_neg refusal
  · obtain ⟨g, ran, calm, service, station, gone, active, raised, vehicles⟩ :=
      State.resolve_removes ha hs hown hm (.inr h) hdue
    refine ⟨_, ran, service, station, gone, active, raised, fun v hn hv hrelearn hb hc hsilent => ?_⟩
    obtain ⟨states, y, hy, floor⟩ := Blocks.vehicles_unname_carrier (e := s.env) (b := s.b.quiet) hn
      (show s.b.quiet.vehicle? v.id = some v from hv) hrelearn hb hc hsilent
    have same := calm.vehicle?_eq (id := v.id) fun w hw hid => by
      rw [vehicles] at hw
      rcases states w hw hid with h | h <;> simp [Vehicle.free, h]
    refine ⟨y, same.trans ?_, floor⟩
    unfold Blocks.vehicle?
    rw [vehicles]
    exact hy
  · have here := Blocks.vehicleHere_eq hn hv hb
    refine ⟨State.resolve_sendsBack ha hs.2 hown hm h hv hn hrelearn hb, fun n hrouted hne =>
      State.resolve_sendsTo ha hs.2 hown hm h hv hn hrelearn hb hrouted hne, fun hsource => ?_,
      fun n inside missing hne => ?_, fun n outside unrouted => ?_⟩
    · refine refused ((suspended h).trans ?_) (x := .wrongState) (by decide)
      simp [Blocks.checkSuspended, here, Option.isSome_iff_ne_none.1 hsource]
    · refine refused ((suspended h).trans ?_) (x := .badIndex) (by decide)
      simp [Blocks.checkSuspended, here, inside, missing]
    · refine refused ((suspended h).trans ?_) (x := .wrongState) (by decide)
      simp [Blocks.checkSuspended, here, outside, (s.owner_eq_none_iff n).2 unrouted]
  · have away : s.b.vehicleHere m = none := by
      unfold Blocks.vehicleHere
      rw [hnone]
      rfl
    refine ⟨refused ((suspended h).trans ?_) (by decide), fun n _ =>
      refused ((suspended h).trans ?_) (by decide)⟩
    · simp [Blocks.checkSuspended, away]
    · simp [Blocks.checkSuspended, away]

end Sys2Proof.Machine
end

section
/-! PROOFS. Records and jobs survive their bytes (R127, R132 to R135, R175): O27. -/
namespace Sys2Proof.Machine

/-! ### Fields (R175) -/

theorem toNat_byte {n : Nat} (h : n < 256) : (byte n).toNat = n := by
  unfold byte
  rw [BitVec.toNat_ofNat]
  exact Nat.mod_eq_of_lt h

/-- Only 255 is sent as the byte that marks an absent field (R175). -/
theorem byte_ne_absent {n : Nat} (h : n < 255) : byte n ≠ 0xFF#8 := by
  intro absent
  have back := toNat_byte (n := n) (by omega)
  rw [absent] at back
  exact h.ne back.symm

theorem ofWord_word {n : Nat} (h : n < 65536) : ofWord (byte (n / 256)) (byte n) = n := by
  unfold ofWord byte
  rw [BitVec.toNat_ofNat, BitVec.toNat_ofNat]
  omega

theorem coded_nodeAnns (x : NodeAnn) : coded nodeAnns (code nodeAnns x) = some x := by cases x <;> rfl
theorem coded_recoveries (x : Recovery) : coded recoveries (code recoveries x) = some x := by
  cases x <;> rfl
theorem coded_linkStates (x : LinkState) : coded linkStates (code linkStates x) = some x := by
  cases x <;> rfl
theorem coded_classes (x : MoveClass) : coded classes (code classes x) = some x := by cases x <;> rfl
theorem coded_retractReasons (x : RetractReason) :
    coded retractReasons (code retractReasons x) = some x := by cases x <;> rfl
theorem coded_acceptResults (x : AcceptResult) :
    coded acceptResults (code acceptResults x) = some x := by cases x <;> rfl
theorem coded_actions (x : Action) : coded actions (code actions x) = some x := by cases x <;> rfl

theorem getElem_flagByte (x : Bool) : (flagByte x)[0] = x := by cases x <;> rfl

/-- A counted list of pairs of bytes comes back entry by entry. -/
theorem pairs_flatMap {α : Type} (f : α → Byte × Byte) (l : List α) :
    pairs (l.flatMap fun x => [(f x).1, (f x).2]) = some (l.map f) := by
  induction l with
  | nil => rfl
  | cons x l ih => simp [pairs, ih]

theorem ofTag_tagBytes {t : Option Tag} (h : t.all Tag.wf = true) :
    ∃ x y, tagBytes t = [x, y] ∧ ofTag x y = t := by
  cases t with
  | none => exact ⟨_, _, rfl, rfl⟩
  | some t =>
    have home : t.home < 255 := by simpa [Tag.wf] using h
    refine ⟨byte t.home, t.seq, rfl, ?_⟩
    unfold ofTag
    rw [if_neg (byte_ne_absent home), toNat_byte (by omega)]

theorem ofStation_stationBytes {d : Option Nat} (h : d.all (fun n => decide (n < 65535)) = true) :
    ∃ x y, stationBytes d = [x, y] ∧ ofStation x y = d := by
  cases d with
  | none => exact ⟨0xFF#8, 0xFF#8, rfl, if_pos (by decide)⟩
  | some n =>
    have small : n < 65535 := by simpa using h
    refine ⟨byte (n / 256), byte n, rfl, ?_⟩
    unfold ofStation
    rw [ofWord_word (by omega), if_neg (by omega)]

theorem ofCarrier_carrierBytes {c : Option CarrierId} (h : carrierWf c = true) :
    ofCarrier c.isSome (carrierBytes c) = c ∧ (carrierBytes c).length = 8 := by
  cases c with
  | none => exact ⟨rfl, rfl⟩
  | some l => exact ⟨rfl, by simpa [carrierWf, carrierBytes] using h⟩

/-! ### Jobs (R175) -/

/-- The kind and the value of a job's target (R175). -/
def targetFields : Target → Nat × Nat
  | .station n => (0, n)
  | .segment n => (1, n)
  | .exit => (2, 0)
  | .park n => (3, n)
  | .recirculate => (4, 0)

/-- The byte of a job's destination bay (R175). -/
def bayByte : Option Nat → Byte
  | some k => byte k
  | none => 0xFF#8

theorem jobBytes_eq (j : Job) : jobBytes j =
    byte (targetFields j.target).1 :: word (targetFields j.target).2 ++ [code actions j.action] ++
      tagBytes j.tag ++
      stationBytes j.dest ++ [bayByte j.destBay] := by
  obtain ⟨target, action, tag, dest, bay⟩ := j
  cases target <;> cases bay <;> rfl

theorem ofTarget_fields {x : Target} (h : x.wf = true) :
    ofTarget (byte (targetFields x).1).toNat (ofWord (byte ((targetFields x).2 / 256)) (byte (targetFields x).2)) =
      some x := by
  cases x <;> simp_all [targetFields, Target.wf, isWord, ofTarget, toNat_byte, ofWord_word]

theorem ofBay_bayByte {x : Option Nat} (h : x.all (fun n => decide (n < 255)) = true) :
    (if bayByte x = 0xFF#8 then none else some (bayByte x).toNat) = x := by
  cases x with
  | none => rfl
  | some k =>
    have small : k < 255 := by simpa using h
    unfold bayByte
    rw [if_neg (byte_ne_absent small), toNat_byte (by omega)]

theorem ofJob_of_fields {k v1 v0 a h q d1 d0 x : Byte} {target : Target} {action : Action}
    (htarget : ofTarget k.toNat (ofWord v1 v0) = some target) (haction : coded actions a = some action) :
    ofJob [k, v1, v0, a, h, q, d1, d0, x] = some {
      target := target
      action := action
      tag := ofTag h q
      dest := ofStation d1 d0
      destBay := if x = 0xFF#8 then none else some x.toNat } := by
  simp [ofJob, htarget, haction]

/-- The nine bytes of a job give back the job. -/
theorem ofJob_jobBytes {j : Job} (h : j.wf = true) : ofJob (jobBytes j) = some j := by
  simp only [Job.wf, Bool.and_eq_true] at h
  obtain ⟨⟨⟨htarget, htag⟩, hdest⟩, hbay⟩ := h
  obtain ⟨h1, h2, tag_eq, tag_back⟩ := ofTag_tagBytes htag
  obtain ⟨d1, d0, dest_eq, dest_back⟩ := ofStation_stationBytes hdest
  have bytes : jobBytes j = [byte (targetFields j.target).1, byte ((targetFields j.target).2 / 256),
      byte (targetFields j.target).2, code actions j.action, h1, h2, d1, d0, bayByte j.destBay] := by
    rw [jobBytes_eq, tag_eq, dest_eq]
    rfl
  rw [bytes, ofJob_of_fields (ofTarget_fields htarget) (coded_actions j.action), tag_back, dest_back,
    ofBay_bayByte hbay]

/-! ### Bodies (R133, R175) -/

/-- The count byte of a STATUS carries the overflow flag in bit 7. -/
theorem countByte_spec {n : Nat} (h : n ≤ 6) (x : Bool) :
    (byte (n + if x then 128 else 0)).toNat % 128 = n ∧
      (byte (n + if x then 128 else 0)).getLsbD 7 = x := by
  have cases : n = 0 ∨ n = 1 ∨ n = 2 ∨ n = 3 ∨ n = 4 ∨ n = 5 ∨ n = 6 := by omega
  rcases cases with rfl | rfl | rfl | rfl | rfl | rfl | rfl <;> cases x <;> decide

theorem readStatusBody_of_fields {n r k c b1 b0 l1 l0 x1 x0 p i : Byte} {rest : List Byte}
    {node : NodeAnn} {recovery : Recovery} {link : LinkState} {ps : List (Byte × Byte)}
    (hn : coded nodeAnns n = some node) (hr : coded recoveries r = some recovery)
    (hk : coded linkStates k = some link) (hps : pairs rest = some ps)
    (hc : ps.length = c.toNat % 128) :
    readStatusBody (n :: r :: k :: c :: b1 :: b0 :: l1 :: l0 :: x1 :: x0 :: p :: i :: rest) =
      some (.status {
        node := node
        recovery := recovery
        link := link
        base := ofWord b1 b0
        limit := ofWord l1 l0
        sectionTime := ofWord x1 x0
        period := p.toNat
        idle := i.toNat
        offline := ps.map fun q => ofWord q.1 q.2
        overflow := c.getLsbD 7 }) := by
  simp [readStatusBody, hn, hr, hk, hps, hc]

theorem readStatusBody_bodyBytes {x : StatusBody} (h : (Body.status x).wf = true) :
    readStatusBody (bodyBytes (.status x)) = some (.status x) := by
  simp only [Body.wf, Bool.and_eq_true, decide_eq_true_eq] at h
  obtain ⟨⟨hoff, -, hsection, -, hperiod, hbase, hlimit, -, hidle⟩, hwords⟩ := h
  obtain ⟨count, flag⟩ := countByte_spec hoff x.overflow
  let split : Nat → Byte × Byte := fun n => (byte (n / 256), byte n)
  have words : (x.offline.map split).map (fun q => ofWord q.1 q.2) = x.offline := by
    rw [List.map_map]
    refine (List.map_congr_left fun n hn => ?_).trans (List.map_id _)
    exact ofWord_word (by simpa [isWord] using List.all_eq_true.1 hwords n hn)
  refine (readStatusBody_of_fields (coded_nodeAnns x.node) (coded_recoveries x.recovery)
    (coded_linkStates x.link) (pairs_flatMap split x.offline)
    (by rw [List.length_map, count])).trans ?_
  rw [words, flag, toNat_byte (n := x.period) (by omega), toNat_byte (n := x.idle) (by omega),
    ofWord_word (n := x.base) (by omega), ofWord_word (n := x.limit) (by omega),
    ofWord_word (n := x.sectionTime) (by omega)]

/-- The outcome of a DONE comes back from its codes, whatever station goes with it. -/
theorem bodyBytes_done (tag : Tag) (v : Nat) {o : DoneOutcome} (h : o.wf = true) :
    ∃ oc em f s1 s0, bodyBytes (.done tag v o) = [byte tag.home, tag.seq, byte v, oc, em, f, s1, s0] ∧
      ofOutcome oc em f s1 s0 = some o := by
  have word_back {n : Nat} (h : isWord n = true) : ofWord (byte (n / 256)) (byte n) = n :=
    ofWord_word (by simpa [isWord] using h)
  cases o with
  | deliveredPort st =>
    cases st with
    | none => exact ⟨_, _, _, _, _, rfl, by rfl⟩
    | some n =>
      refine ⟨_, _, _, _, _, rfl, ?_⟩
      simp [ofOutcome, flagByte, word_back (n := n) (by simpa [DoneOutcome.wf] using h)]
  | deliveredShelf st =>
    cases st with
    | none => exact ⟨_, _, _, _, _, rfl, by rfl⟩
    | some n =>
      refine ⟨_, _, _, _, _, rfl, ?_⟩
      simp [ofOutcome, flagByte, word_back (n := n) (by simpa [DoneOutcome.wf] using h)]
  | fault held => cases held <;> exact ⟨_, _, _, _, _, rfl, by rfl⟩
  | missing => exact ⟨_, _, _, _, _, rfl, by rfl⟩

/-- A well-formed body comes back from its bytes (R133). -/
theorem readBody_bodyBytes {x : Body} (h : x.wf = true) :
    readBody (kindCode x) (bodyBytes x) = some x := by
  cases x with
  | status x =>
    refine Eq.trans ?_ (readStatusBody_bodyBytes h)
    simp [readBody, kindCode]
  | call id tag cls source u =>
    simp only [Body.wf, isByte, isWord, Bool.and_eq_true, decide_eq_true_eq] at h
    obtain ⟨⟨hhome, hsource⟩, hu⟩ := h
    simp [bodyBytes, kindCode, readBody, tagBytes, word, coded_classes, toNat_byte hhome, ofWord_word hsource,
      ofWord_word hu]
  | bid id v eta =>
    simp only [Body.wf, isByte, isWord, Bool.and_eq_true, decide_eq_true_eq] at h
    simp [bodyBytes, kindCode, readBody, word, toNat_byte h.1, ofWord_word h.2]
  | award id w v =>
    simp only [Body.wf, isByte, Bool.and_eq_true, decide_eq_true_eq] at h
    simp [bodyBytes, kindCode, readBody, toNat_byte (n := w) (by omega), toNat_byte h.2]
  | cancel id => rfl
  | sent id v eta =>
    simp only [Body.wf, isByte, isWord, Bool.and_eq_true, decide_eq_true_eq] at h
    simp [bodyBytes, kindCode, readBody, word, toNat_byte h.1, ofWord_word h.2]
  | retract id v r =>
    simp only [Body.wf, isByte, decide_eq_true_eq] at h
    simp [bodyBytes, kindCode, readBody, toNat_byte h, coded_retractReasons]
  | ask id n =>
    simp only [Body.wf, decide_eq_true_eq] at h
    simp [bodyBytes, kindCode, readBody, toNat_byte (n := n) (by omega)]
  | loan id eta vs =>
    simp only [Body.wf, isWord, Bool.and_eq_true, decide_eq_true_eq] at h
    obtain ⟨⟨heta, hlength⟩, hids⟩ := h
    have entries : pairs (vs.flatMap fun v => [byte v, 0#8]) = some (vs.map fun v => (byte v, 0#8)) :=
      pairs_flatMap (fun v => (byte v, 0#8)) vs
    have ids : vs.map (fun v => (byte v).toNat) = vs := by
      refine (List.map_congr_left fun v hv => ?_).trans (List.map_id _)
      exact toNat_byte (by simpa [isByte] using List.all_eq_true.1 hids v hv)
    simp [bodyBytes, kindCode, readBody, word, entries, toNat_byte (n := vs.length) (by omega),
      ofWord_word heta, Function.comp_def, ids]
  | consign id v tag dest cls carrier eta =>
    simp only [Body.wf, isByte, isWord, Bool.and_eq_true, decide_eq_true_eq] at h
    obtain ⟨⟨⟨⟨hv, hhome⟩, hdest⟩, hcarrier⟩, heta⟩ := h
    obtain ⟨back, length⟩ := ofCarrier_carrierBytes hcarrier
    obtain ⟨c1, c2, c3, c4, c5, c6, c7, c8, bytes⟩ : ∃ c1 c2 c3 c4 c5 c6 c7 c8,
        carrierBytes carrier = [c1, c2, c3, c4, c5, c6, c7, c8] := by
      match carrierBytes carrier, length with
      | [c1, c2, c3, c4, c5, c6, c7, c8], _ => exact ⟨c1, c2, c3, c4, c5, c6, c7, c8, rfl⟩
    rw [bytes] at back
    simp [bodyBytes, kindCode, readBody, tagBytes, word, bytes, getElem_flagByte, back, coded_classes,
      toNat_byte hv, toNat_byte hhome, ofWord_word hdest, ofWord_word heta]
  | accept id v r =>
    simp only [Body.wf, isByte, decide_eq_true_eq] at h
    simp [bodyBytes, kindCode, readBody, toNat_byte h, coded_acceptResults]
  | done tag v o =>
    simp only [Body.wf, isByte, Bool.and_eq_true, decide_eq_true_eq] at h
    obtain ⟨⟨hhome, hv⟩, ho⟩ := h
    obtain ⟨oc, em, f, s1, s0, bytes, back⟩ := bodyBytes_done tag v ho
    rw [bytes]
    simp [kindCode, readBody, back, toNat_byte hv, toNat_byte hhome]
  | hold d =>
    simp only [Body.wf, isByte, decide_eq_true_eq] at h
    simp [bodyBytes, kindCode, readBody, toNat_byte h]
  | link st n =>
    simp only [Body.wf, decide_eq_true_eq] at h
    simp [bodyBytes, kindCode, readBody, toNat_byte (n := n) (by omega), coded_linkStates]

/-! ### Records (R127, R131 to R135) -/

theorem checked_withCrc (l : List Byte) : checked (withCrc l) = some l := by
  have length : (withCrc l).length = l.length + 2 := by simp [withCrc, word]
  have body : (withCrc l).take ((withCrc l).length - 2) = l := by
    rw [length, Nat.add_sub_cancel]
    exact List.take_left
  unfold checked
  rw [body, if_pos ⟨by omega, rfl⟩]

/-- A well-formed body has 4 to 40 bytes, and lies in its ranges (R133). -/
theorem length_bodyBytes {x : Body} (h : x.wf = true) :
    4 ≤ (bodyBytes x).length ∧ (bodyBytes x).length ≤ 40 ∧ bodyInRange x = true := by
  cases x with
  | status x =>
    simp only [Body.wf, Bool.and_eq_true, decide_eq_true_eq] at h
    have words : (x.offline.flatMap word).length = 2 * x.offline.length := by
      rw [List.length_flatMap]
      simp [word, mul_comm]
    refine ⟨?_, ?_, by simpa [bodyInRange] using h.1⟩
    · simp [bodyBytes, word]
    · simp only [bodyBytes, List.length_append, words, word, List.length_cons, List.length_nil]
      omega
  | loan id eta vs =>
    simp only [Body.wf, Bool.and_eq_true, decide_eq_true_eq] at h
    have pairs : (vs.flatMap fun v => [byte v, 0]).length = 2 * vs.length := by
      rw [List.length_flatMap]
      simp [mul_comm]
    refine ⟨?_, ?_, by simpa [bodyInRange] using h.1.2⟩
    · simp [bodyBytes, word]
    · simp only [bodyBytes, List.length_append, pairs, word, List.length_cons, List.length_nil]
      omega
  | consign id v tag dest cls carrier eta =>
    simp only [Body.wf, Bool.and_eq_true] at h
    have carrier := (ofCarrier_carrierBytes h.1.2).2
    refine ⟨?_, ?_, rfl⟩ <;> simp [bodyBytes, word, tagBytes, carrier]
  | done tag v o =>
    simp only [Body.wf, Bool.and_eq_true] at h
    obtain ⟨_, _, _, _, _, bytes, -⟩ := bodyBytes_done tag v h.2
    rw [bytes]
    exact ⟨by simp, by simp, rfl⟩
  | award id w v =>
    simp only [Body.wf, Bool.and_eq_true] at h
    exact ⟨by simp [bodyBytes], by simp [bodyBytes], h.1⟩
  | ask id n => exact ⟨by simp [bodyBytes], by simp [bodyBytes], h⟩
  | link st n => exact ⟨by simp [bodyBytes], by simp [bodyBytes], h⟩
  | call id tag cls source u => exact
      ⟨by simp [bodyBytes, tagBytes, word], by simp [bodyBytes, tagBytes, word], rfl⟩
  | bid id v eta => exact ⟨by simp [bodyBytes, word], by simp [bodyBytes, word], rfl⟩
  | sent id v eta => exact ⟨by simp [bodyBytes, word], by simp [bodyBytes, word], rfl⟩
  | cancel id => exact ⟨by simp [bodyBytes], by simp [bodyBytes], rfl⟩
  | retract id v r => exact ⟨by simp [bodyBytes], by simp [bodyBytes], rfl⟩
  | accept id v r => exact ⟨by simp [bodyBytes], by simp [bodyBytes], rfl⟩
  | hold d => exact ⟨by simp [bodyBytes], by simp [bodyBytes], rfl⟩

theorem kindCode_le (x : Body) : kindCode x ≤ 13 := by cases x <;> simp [kindCode]

theorem kindClass_le (k : Nat) : kindClass k ≤ 5 := by
  unfold kindClass
  split <;> decide

/-- The byte of an addressee (R127). -/
def addressee : Option Nat → Byte
  | some d => byte d
  | none => 0xFF#8

/-- A whole frame whose body is in order is heard by its sender and addressee (R131 to R135). -/
theorem hear_frame {own : Nat} {a k d n : Byte} {l : List Byte} {x : Body} (hn : n.toNat = l.length)
    (hmin : 4 ≤ l.length) (hmax : l.length ≤ 40) (hx : readBody k.toNat l = some x)
    (hrange : bodyInRange x = true) (hclass : a.toNat / 32 = kindClass k.toNat)
    (hall : (d = 0xFF#8) = (kindToAll k.toNat = true)) (hd : d ≠ 0xFF#8 → d.toNat ≤ 31) :
    hear own (withCrc ([a, k, d, n] ++ l)) =
      let sender : Bay := Fin.ofNat 32 a.toNat
      if sender.val = own then .ownBay
      else if d = 0xFF#8 ∨ d.toNat = own then .record sender x else .otherBay sender := by
  have frame : withCrc ([a, k, d, n] ++ l) =
      a :: k :: d :: n :: (l ++ word (crc16 ([a, k, d, n] ++ l)).toNat) := rfl
  have rest : (l ++ word (crc16 ([a, k, d, n] ++ l)).toNat).length = n.toNat + 2 := by
    simp [word, hn]
  have whole : (withCrc ([a, k, d, n] ++ l)).take (n.toNat + 6) = withCrc ([a, k, d, n] ++ l) := by
    refine List.take_of_length_le ?_
    rw [frame]
    simp only [List.length_cons, rest]
    omega
  rw [frame] at whole
  rw [frame]
  unfold hear
  dsimp only
  rw [if_neg (by omega), if_neg (by omega), whole, ← frame, checked_withCrc]
  dsimp only
  rw [show ([a, k, d, n] ++ l).drop 4 = l from rfl, hx]
  dsimp only
  rw [if_neg (by simp [hrange]), if_neg (by simp [hclass]), if_neg (by simp [hall]), if_neg (by
    rintro ⟨h1, h2⟩
    exact absurd (hd h1) (by omega))]

/-- Settles O27. -/
theorem recordsAndJobsRoundTrip : Obligations.RecordsAndJobsRoundTrip := by
  refine ⟨fun own bay r hwf hown hall hdest => ?_, fun j h => ofJob_jobBytes h⟩
  obtain ⟨hmin, hmax, hrange⟩ := length_bodyBytes hwf
  have kind : (byte (kindCode r.body)).toNat = kindCode r.body :=
    toNat_byte (by have := kindCode_le r.body; omega)
  have field : (arbitrationField r.cls bay.val).toNat = kindClass (kindCode r.body) * 32 + bay.val :=
    toNat_arbitrationField (kindClass_le _) bay.isLt
  have sender : (Fin.ofNat 32 (arbitrationField r.cls bay.val).toNat : Bay) = bay := by
    rw [field]
    ext
    simp
  have addressed : addressee r.dest = 0xFF#8 ↔ r.dest = none := by
    cases hd : r.dest with
    | none => simp [addressee]
    | some d =>
      have small := hdest d hd
      simpa [addressee] using byte_ne_absent (n := d) (by omega)
  have named (d : Nat) (hd : r.dest = some d) : (addressee r.dest).toNat = d := by
    have small := hdest d hd
    rw [hd]
    exact toNat_byte (by omega)
  have frame : recordBytes bay.val r = withCrc ([arbitrationField r.cls bay.val, byte (kindCode r.body),
      addressee r.dest, byte (bodyBytes r.body).length] ++ bodyBytes r.body) := by
    unfold recordBytes envelope addressee
    cases r.dest <;> rfl
  rw [frame, hear_frame (toNat_byte (by omega)) hmin hmax (by rw [kind]; exact readBody_bodyBytes hwf) hrange
    (by rw [field, kind]; have := bay.isLt; omega) (by rw [kind]; exact propext (addressed.trans hall))
    (fun h => ?_)]
  · dsimp only
    rw [sender, if_neg hown]
    refine if_congr ?_ rfl rfl
    rw [addressed]
    cases hd : r.dest with
    | none => simp
    | some d => rw [← hd, named d hd, hd, Option.some_inj]
  · obtain ⟨d, hd⟩ := Option.ne_none_iff_exists'.1 fun none => h (addressed.2 none)
    rw [named d hd]
    exact Nat.le_of_lt_succ (hdest d hd)

end Sys2Proof.Machine
end

section
/-! PROOFS. What stays of a station while moves end and follow-ons are asked (R31, R32, R37, R56), and that a
closed station is given no reservation. -/
namespace Sys2Proof.Machine

/-! ### What stays of a station -/

/-- A station keeps what stands on it: it may be named a source, be reserved, and lose its follow-on. -/
def Station.stands (s s' : Station) : Prop :=
  (s.followOnDue = false → s'.followOnDue = false) ∧
    s' = { s with active := s'.active, reservation := s'.reservation, followOnDue := s'.followOnDue }

theorem Station.stands.refl (s : Station) : s.stands s := ⟨id, rfl⟩

theorem Station.stands.trans {s t u : Station} (h : s.stands t) (h' : t.stands u) : s.stands u := by
  refine ⟨fun hs => h'.1 (h.1 hs), ?_⟩
  rw [h'.2, h.2]

theorem Station.delivered.stands {s s' : Station} (h : s.delivered s') : s.stands s' := by
  refine ⟨h.1, ?_⟩
  rw [h.2]

/-- Every station keeps what stands on it. -/
def Stands (b c : Blocks) : Prop := List.Forall₂ Station.stands b.stationList c.stationList

theorem Blocks.stationList_modStations (b : Blocks) (p : Station → Bool) (f : Station → Station) :
    (b.modStations (updWhere p f)).stationList = b.stationList.map fun s => if p s then f s else s :=
  live_updWhere _ _ _

namespace Stands
variable {e : Env} {b c d : Blocks}

theorem refl : Stands b b := List.forall₂_same.2 fun s _ => .refl s

theorem trans (h : Stands b c) (h' : Stands c d) : Stands b d := forall₂_trans Station.stands.trans h h'

theorem of_eq (h : c.stationList = b.stationList) : Stands b c := by
  unfold Stands
  rw [h]
  exact refl

theorem delivers (h : Stands b c) (hd : Delivers c d) : Stands b d :=
  h.trans (hd.stations.imp fun _ _ h => h.stands)

theorem closes {tag : Tag} (h : Stands b c) (hd : Closes tag c d) : Stands b d :=
  h.trans (hd.stations.imp fun _ _ h => h.stands)

theorem modStations {p : Station → Bool} {f : Station → Station} (h : Stands b c)
    (hf : ∀ s : Station, s.stands (f s)) : Stands b (c.modStations (updWhere p f)) := by
  refine h.trans ?_
  unfold Stands
  rw [Blocks.stationList_modStations, List.forall₂_map_right_iff]
  refine List.forall₂_same.2 fun s _ => ?_
  split
  · exact hf s
  · exact .refl s

theorem modStation {n : Nat} {f : Station → Station} (h : Stands b c) (hf : ∀ s : Station, s.stands (f s)) :
    Stands b (c.modStation n f) := h.modStations hf

theorem clearActive {tag : Tag} (h : Stands b c) : Stands b (c.clearActive tag) := by
  have cleared := h.modStations (p := fun s => s.active == some tag)
    (f := fun s => { s with active := none }) fun _ => ⟨id, rfl⟩
  exact cleared

theorem clearDue {n : Nat} (h : Stands b c) : Stands b (c.clearDue n) :=
  h.modStations fun _ => ⟨fun _ => rfl, rfl⟩

theorem reserve {n : Nat} {tag : Tag} (h : Stands b c) : Stands b (c.reserve n tag) :=
  h.delivers Delivers.refl.reserve

theorem reevaluateOwn (h : Stands b c) : Stands b (c.reevaluateOwn e) := by
  refine h.trans (of_eq ?_)
  obtain ⟨-, si, -⟩ := c.reevaluate_frame e fun m => e.inWindow m.dest
  exact congrArg (fun x : SI => live x.stations) si

/-! ### Moves that end, and follow-ons that are asked -/

theorem freeMove {tag : Tag} {o : MoveOutcome} (h : Stands b c) : Stands b (c.freeMove e tag o) := by
  cases hm : c.move? tag with
  | none =>
    have same : c.freeMove e tag o = c := by
      unfold Blocks.freeMove
      rw [hm]
    rw [same]
    exact h
  | some m =>
    rw [Blocks.freeMove_eq hm]
    refine (h.clearActive.closes (c.unnamed_unname e m tag).closes).trans (of_eq ?_)
    cases o <;> rfl

theorem sourceGone {tag : Tag} (h : Stands b c) : Stands b (c.sourceGone e tag) := by
  unfold Blocks.sourceGone
  split
  · exact h
  · split
    · exact h.freeMove
    · exact h.freeMove
    · exact h.freeMove
    · exact h.freeMove
    · exact h

theorem acceptMove {m : Move} (h : Stands b c) : Stands b (c.acceptMove e m) := by
  have accepted := h.modStation (n := m.source) (f := fun s => { s with active := some m.tag })
    fun _ => ⟨id, rfl⟩
  unfold Blocks.acceptMove
  dsimp only
  split
  · exact accepted
  · exact accepted

theorem askFollowOn {n : Nat} (h : Stands b c) : Stands b (c.askFollowOn e n) := by
  unfold Blocks.askFollowOn
  split
  · exact h
  · split
    · exact h
    · split
      · exact h
      · exact (h.acceptMove.modStation fun _ => ⟨fun _ => rfl, rfl⟩).reserve

theorem foldl {α : Type} {l : List α} {f : Blocks → α → Blocks} (h : Stands b c)
    (hf : ∀ {c : Blocks} (x : α), Stands b c → Stands b (f c x)) : Stands b (l.foldl f c) := by
  induction l generalizing c with
  | nil => exact h
  | cons x l ih => exact ih (hf x h)

theorem followPhase (h : Stands b c) : Stands b (c.followPhase e) := by
  unfold Blocks.followPhase
  split
  · exact h.foldl fun _ h => h.askFollowOn
  · exact h

theorem settle {before : Blocks} (h : Stands b c) : Stands b (c.settle e before) :=
  h.followPhase.trans (of_eq (congrArg (fun x : SI => live x.stations) (Calm.after_follow e c before).si))

theorem station?_some (h : Stands b c) {n : Nat} {s : Station} (hs : b.station? n = some s) :
    ∃ s', c.station? n = some s' ∧ s.stands s' := by
  have found := find?_of_forall₂ (p := fun x : Station => x.number == n) h fun _ _ hs => by rw [hs.2]
  rcases found with ⟨hn, -⟩ | ⟨x, s', hx, hc, ht⟩
  · rw [show b.stationList.find? _ = some s from hs] at hn
    cases hn
  · rw [show b.stationList.find? _ = some s from hs] at hx
    cases hx
    exact ⟨s', hc, ht⟩

end Stands

/-! ### A closed station is given no reservation (R32) -/

/-- No station of number `n` is open, and none is reserved. -/
def Blocks.Shut (b : Blocks) (n : Nat) : Prop :=
  ∀ s ∈ b.stationList, s.number = n → s.open = false ∧ s.reservation = none

namespace Blocks.Shut
variable {e : Env} {b c : Blocks} {n : Nat}

theorem of_eq (h : b.Shut n) (hs : c.stationList = b.stationList) : c.Shut n := by
  unfold Blocks.Shut
  rw [hs]
  exact h

theorem modStations {p : Station → Bool} {f : Station → Station} (h : b.Shut n)
    (hf : ∀ s : Station, (f s).number = s.number ∧ (f s).state = s.state ∧
      (s.reservation = none → (f s).reservation = none)) : (b.modStations (updWhere p f)).Shut n := by
  unfold Blocks.Shut
  rw [stationList_modStations]
  intro y hy hn
  obtain ⟨x, hx, rfl⟩ := List.mem_map.1 hy
  by_cases hp : p x = true
  · rw [if_pos hp] at hn ⊢
    obtain ⟨number, state, reservation⟩ := hf x
    obtain ⟨closed, free⟩ := h x hx (number.symm.trans hn)
    refine ⟨?_, reservation free⟩
    unfold Station.open at closed ⊢
    rw [state]
    exact closed
  · rw [if_neg hp] at hn ⊢
    exact h x hx hn

/-- Another station is reserved. -/
theorem setReservation {k : Nat} {tag : Option Tag} (h : b.Shut n) (hk : k ≠ n) :
    (b.setReservation k tag).Shut n := by
  unfold Blocks.setReservation
  split
  · exact h
  next t =>
    have reserved : (b.modStation k fun s => { s with reservation := some t }).Shut n := by
      unfold Blocks.Shut modStation
      rw [stationList_modStations]
      intro y hy hn
      obtain ⟨x, hx, rfl⟩ := List.mem_map.1 hy
      by_cases hp : (x.number == k) = true
      · rw [if_pos hp] at hn
        exact absurd ((beq_iff_eq.1 hp).symm.trans hn) hk
      · rw [if_neg hp] at hn ⊢
        exact h x hx hn
    exact reserved.modStations fun _ => ⟨rfl, rfl, id⟩

theorem ne_of_open (h : b.Shut n) {x : Station} {k : Nat} (hx : b.station? k = some x)
    (ho : x.open = true) : k ≠ n := by
  rintro rfl
  have number : x.number = k := by simpa using List.find?_some hx
  rw [(h x (List.mem_of_find?_eq_some hx) number).1] at ho
  cases ho

theorem sendGoto {id : Nat} {j : Job} (h : b.Shut n) : (b.sendGoto e id j).Shut n :=
  h.of_eq (congrArg (fun x : SI => live x.stations) (b.sendGoto_frame e id j).1)

theorem aimAt {id k : Nat} {j : Job} (h : b.Shut n) : (b.aimAt e id k j).Shut n :=
  (h.sendGoto (e := e) (id := id) (j := { j with target := .station k, action := .unload })).of_eq rfl

theorem giveStation {id k : Nat} {j : Job} (h : b.Shut n) (hk : k ≠ n) :
    (b.giveStation e id k j).Shut n :=
  ((h.of_eq (c := b.leaveQueue id) rfl).setReservation hk (tag := j.tag)).aimAt.of_eq rfl

theorem offerShelf {k : Nat} (h : b.Shut n) : (b.offerShelf e k).Shut n := by
  unfold Blocks.offerShelf
  split
  · exact h
  next x hx =>
    split
    next free =>
      have open_x : x.open = true := by simp [Station.open, free.1]
      split
      · exact h.giveStation (h.ne_of_open hx open_x)
      · exact h
    · exact h

theorem dropReservation {k : Nat} (h : b.Shut n) : (b.dropReservation e k).Shut n :=
  offerShelf (h.modStations fun _ => ⟨rfl, rfl, fun _ => rfl⟩)

theorem foldl {α : Type} {l : List α} {f : Blocks → α → Blocks} (h : b.Shut n)
    (hf : ∀ {c : Blocks} (x : α), c.Shut n → (f c x).Shut n) : (l.foldl f b).Shut n := by
  induction l generalizing b with
  | nil => exact h
  | cons x l ih => exact ih (hf x h)

theorem dropDelivery {tag : Tag} (h : b.Shut n) : (b.dropDelivery e tag).Shut n :=
  h.foldl fun _ h => h.dropReservation

theorem toWait {id seg : Nat} {j : Job} (h : b.Shut n) : (b.toWait e id seg j).Shut n :=
  ((h.of_eq (c := b.leaveQueue id) rfl).sendGoto (e := e) (id := id)
    (j := { j with target := .segment seg, action := .pass })).of_eq rfl

/-- A delivery is turned aside to a shelf that is FREE (R34). -/
theorem chooseShelf_ne {v : Vehicle} {k : Nat} (h : b.Shut n) (hk : b.chooseShelf e v = some k) : k ≠ n := by
  unfold Blocks.chooseShelf at hk
  obtain ⟨⟨m, q⟩, hf, rfl⟩ := Option.map_eq_some_iff.1 hk
  obtain ⟨x, hx, hxq⟩ := List.mem_filterMap.1 (firstBy_mem _ _ hf)
  obtain ⟨j, -, hxq⟩ := Option.map_eq_some_iff.1 hxq
  obtain ⟨mem, free⟩ := List.mem_filter.1 hx
  simp only [Bool.and_eq_true, beq_iff_eq] at free
  cases hxq
  intro number
  have closed := (h x mem number).1
  simp [Station.open, free.1.1] at closed

theorem toShelf {v : Vehicle} {seg : Nat} {j : Job} (h : b.Shut n) : (b.toShelf e v seg j).Shut n := by
  unfold Blocks.toShelf
  split
  next k hk => exact (h.setReservation (h.chooseShelf_ne hk)).aimAt
  · exact h.toWait

theorem decideDelivery {id : Nat} (h : b.Shut n) : (b.decideDelivery e id).Shut n := by
  unfold Blocks.decideDelivery
  split
  · exact h
  · split
    · split
      · exact h
      next x hx =>
        split
        · exact h
        · split
          next takes =>
            refine h.setReservation (h.ne_of_open hx ?_)
            simp only [Station.takes, Bool.and_eq_true] at takes
            exact takes.1.1
          · dsimp only
            split
            · exact h.dropReservation.toShelf
            · exact h.toShelf
    · exact h

theorem redecide {k seg : Nat} {tag : Tag} (h : b.Shut n) : (b.redecide e k seg tag).Shut n :=
  h.foldl fun _ h => h.decideDelivery

theorem reserve {k : Nat} {tag : Tag} (h : b.Shut n) : (b.reserve k tag).Shut n := by
  unfold Blocks.reserve
  split
  next ok =>
    cases hx : b.station? k with
    | none =>
      rw [hx] at ok
      cases ok
    | some x =>
      rw [hx, Option.any_some, Bool.and_eq_true] at ok
      exact h.setReservation (h.ne_of_open hx ok.1)
  · exact h

theorem reevaluateOwn (h : b.Shut n) : (b.reevaluateOwn e).Shut n := by
  obtain ⟨-, si, -⟩ := b.reevaluate_frame e fun m => e.inWindow m.dest
  exact h.of_eq (congrArg (fun x : SI => live x.stations) si)

theorem releaseVehicle {tag : Tag} {id : Nat} (h : b.Shut n) : (b.releaseVehicle e tag id).Shut n := by
  refine h.of_eq ?_
  unfold Blocks.releaseVehicle
  split
  · rfl
  · dsimp only
    split
    · rfl
    · split
      · rfl
      · split
        · rfl
        · split <;> rfl

theorem freeMove {tag : Tag} {o : MoveOutcome} (h : b.Shut n) : (b.freeMove e tag o).Shut n := by
  unfold Blocks.freeMove
  split
  · exact h
  next m _ =>
    dsimp only
    have dropped : ((b.clearActive tag).dropDelivery e tag).Shut n := by
      refine dropDelivery ?_
      have cleared := h.modStations (p := fun s => s.active == some tag)
        (f := fun s => { s with active := none }) fun _ => ⟨rfl, rfl, id⟩
      exact cleared.of_eq rfl
    have freed {c : Blocks} (hc : c.Shut n) : (((((c.endCall e tag).inboundToLoan tag).modMoves
        (freeWhere fun x => x.tag == tag)).emitStation (.moveDone tag o)).countFreed e m o).Shut n := by
      obtain ⟨-, si, -⟩ := c.endCall_frame e tag
      refine hc.of_eq (Eq.trans ?_ (congrArg (fun x : SI => live x.stations) si))
      cases o <;> rfl
    cases m.vehicle with
    | none => exact freed dropped
    | some id => exact freed dropped.releaseVehicle

theorem sourceGone {tag : Tag} (h : b.Shut n) : (b.sourceGone e tag).Shut n := by
  unfold Blocks.sourceGone
  split
  · exact h
  · split
    · exact h.freeMove
    · exact h.freeMove
    · exact h.freeMove
    · exact h.freeMove
    · exact h

theorem askFollowOn {k : Nat} (h : b.Shut n) : (b.askFollowOn e k).Shut n := by
  unfold Blocks.askFollowOn
  split
  · exact h
  · split
    · exact h
    · split
      · exact h
      next x _ port _ _ =>
        dsimp only
        refine reserve (modStations ?_ fun _ => ⟨rfl, rfl, id⟩)
        have active := h.modStations (p := fun s => s.number == k)
          (f := fun s => { s with active := some ⟨e.cfg.bay.val, b.nextSeq⟩ }) fun _ => ⟨rfl, rfl, id⟩
        refine active.of_eq ?_
        unfold Blocks.acceptMove
        dsimp only
        split <;> rfl

theorem followPhase (h : b.Shut n) : (b.followPhase e).Shut n := by
  unfold Blocks.followPhase
  split
  · exact h.foldl fun _ h => h.askFollowOn
  · exact h

theorem settle {before : Blocks} (h : b.Shut n) : (b.settle e before).Shut n :=
  h.followPhase.of_eq (congrArg (fun x : SI => live x.stations) (Calm.after_follow e b before).si)

end Blocks.Shut

end Sys2Proof.Machine
end

section
/-! PROOFS. What the concentrator reports of ports and shelves (R28, R29, R33 to R36): O21, O20. -/
namespace Sys2Proof.Machine

/-! ### A station after a report -/

/-- A station of the table at the end of a command, which was closed. -/
theorem Stands.closed {e : Env} {c before : Blocks} {n : Nat} {y : Station} (hy : c.station? n = some y)
    (hs : c.Shut n) : ∃ z, (c.settle e before).station? n = some z ∧ y.stands z ∧ z.reservation = none := by
  obtain ⟨z, hz, stands⟩ := (Stands.refl.settle (e := e) (before := before)).station?_some hy
  refine ⟨z, hz, stands, ?_⟩
  have shut := hs.settle (e := e) (before := before)
  exact (shut z (List.mem_of_find?_eq_some hz) (by simpa using List.find?_some hz)).2

/-- A number whose stations are all written closed and unreserved. -/
theorem Blocks.shut_modStation (b : Blocks) (n : Nat) {f : Station → Station}
    (hf : ∀ x, (f x).open = false ∧ (f x).reservation = none ∧ (f x).number = x.number) :
    (b.modStation n f).Shut n := by
  unfold Shut modStation
  rw [stationList_modStations]
  intro y hy hn
  obtain ⟨x, -, rfl⟩ := List.mem_map.1 hy
  obtain ⟨closed, free, number⟩ := hf x
  by_cases hp : (x.number == n) = true
  · rw [if_pos hp]
    exact ⟨closed, free⟩
  · rw [if_neg hp] at hn
    exact absurd (beq_iff_eq.2 hn) hp

theorem Blocks.station?_reevaluateOwn (e : Env) (b : Blocks) (n : Nat) :
    (b.reevaluateOwn e).station? n = b.station? n := by
  obtain ⟨-, si, -⟩ := b.reevaluate_frame e fun m => e.inWindow m.dest
  exact congrArg (fun x : SI => (live x.stations).find? fun s => s.number == n) si

/-- A change of the stations of one number, and what it makes of moves and vehicles elsewhere. -/
theorem Blocks.station?_modified {b : Blocks} {n : Nat} {x : Station} (hx : b.station? n = some x)
    (f : Station → Station) (hf : ∀ s, (f s).number = s.number) :
    (b.modStation n f).station? n = some (f x) := by
  rw [b.station?_modStation n f hf, hx]
  rfl

/-- A HOLDING shelf that is reported DISABLED while no vehicle loads from it (R38). -/
theorem Blocks.leftForFloor_spec {e : Env} {b : Blocks} {n : Nat} {x : Station} (hx : b.station? n = some x) :
    ∃ y, (b.leftForFloor e n).station? n = some y ∧ (b.leftForFloor e n).Shut n ∧ y.state = .disabled ∧
      y.carrierId = x.carrierId ∧ y.finalDest = x.finalDest ∧ y.followOnDue = false := by
  let f : Station → Station := fun s =>
    { s with state := .disabled, reservation := none, followOnDue := false, disablePending := false }
  have found : (b.modStation n f).station? n = some (f x) := b.station?_modified hx f fun _ => rfl
  have shut : (b.modStation n f).Shut n := b.shut_modStation n (f := f) fun _ => ⟨rfl, rfl, rfl⟩
  have left (c : Blocks) (hc : Stands (b.modStation n f) c) (hs : c.Shut n) : ∃ y, c.station? n = some y ∧
      c.Shut n ∧ y.state = .disabled ∧ y.carrierId = x.carrierId ∧ y.finalDest = x.finalDest ∧
      y.followOnDue = false := by
    obtain ⟨y, hy, due, same⟩ := hc.station?_some found
    refine ⟨y, hy, hs, ?_, ?_, ?_, due rfl⟩ <;> rw [same]
  unfold leftForFloor
  dsimp only
  split
  · exact left _ (Stands.refl (b := b.modStation n f)).sourceGone shut.sourceGone
  · exact left _ .refl shut

/-- A SHELF-STATE of DISABLED for a FREE shelf onto which no vehicle unloads, and for a HOLDING one (R29). -/
theorem Blocks.reportDisabled_spec {e : Env} {b : Blocks} {n : Nat} {x : Station} (hx : b.station? n = some x)
    (h : (x.state = .free ∧ b.unloadingAt n = false) ∨ x.state = .holding) :
    ∃ y, (b.reportDisabled e x).station? n = some y ∧ (b.reportDisabled e x).Shut n ∧ y.state = .disabled ∧
      (x.state = .holding →
        y.carrierId = x.carrierId ∧ y.finalDest = x.finalDest ∧ y.followOnDue = false) := by
  have number : x.number = n := by simpa using List.find?_some hx
  unfold reportDisabled
  rcases h with ⟨hfree, hun⟩ | hholding
  · let f : Station → Station := fun s => { s with state := .disabled, reservation := none }
    have found : ((b.modStation n f).reevaluateOwn e).station? n = some (f x) :=
      (station?_reevaluateOwn e _ n).trans (b.station?_modified hx f fun _ => rfl)
    have shut : ((b.modStation n f).reevaluateOwn e).Shut n :=
      (b.shut_modStation n (f := f) fun _ => ⟨rfl, rfl, rfl⟩).reevaluateOwn
    have not_held : x.state ≠ .holding := by rw [hfree]; decide
    rw [hfree]
    dsimp only
    rw [number, if_neg (by rw [hun]; decide)]
    cases x.reservation with
    | none => exact ⟨f x, found, shut, rfl, fun h => nomatch h⟩
    | some t =>
      obtain ⟨y, hy, -, same⟩ := (Stands.refl.delivers
        (Delivers.refl.redecide (e := e) (n := n) (seg := x.segment) (tag := t))).station?_some found
      exact ⟨y, hy, shut.redecide, by rw [same], fun h => nomatch h⟩
  · rw [hholding]
    dsimp only
    rw [number]
    split
    · let f : Station → Station := fun s =>
        { s with state := .disabled, reservation := none, followOnDue := false }
      exact ⟨f x, (station?_reevaluateOwn e _ n).trans (b.station?_modified hx f fun _ => rfl),
        (b.shut_modStation n (f := f) fun _ => ⟨rfl, rfl, rfl⟩).reevaluateOwn, rfl, fun _ => ⟨rfl, rfl, rfl⟩⟩
    · obtain ⟨y, hy, shut, state, held⟩ := leftForFloor_spec (e := e) hx
      exact ⟨y, (station?_reevaluateOwn e _ n).trans hy, shut.reevaluateOwn, state, fun _ => held⟩

/-- Settles O21. -/
theorem shelfStateTaken : Obligations.ShelfStateTaken := by
  intro s n x hrun hr hlink hx hkind
  have number : x.number = n := by simpa using List.find?_some hx
  have hq : s.b.quiet.station? n = some x := hx
  have ran (d : Bool) : ∃ g : Env → Blocks → Blocks, exec (.shelfState n d) s = .next (s.run g) ∧
      g s.env s.b.quiet = if d then s.b.quiet.reportDisabled s.env x else s.b.quiet.reportFree s.env x := by
    refine ⟨_, rfl, ?_⟩
    rw [if_neg (by simp [hrun, hlink]), hq]
    exact if_neg (by simp [hkind])
  refine ⟨fun hstate => ?_, fun hstate => ?_⟩
  · obtain ⟨g, ran, effect⟩ := ran true
    rw [if_pos rfl] at effect
    obtain ⟨y, hy, shut, state, held⟩ := Blocks.reportDisabled_spec (e := s.env) hq hstate
    rw [← effect] at hy shut
    obtain ⟨z, hz, ⟨due, same⟩, free⟩ := Stands.closed (e := s.env) (before := s.b) hy shut
    refine ⟨_, ran, z, ?_, ?_, free, fun h => ?_⟩
    · rw [State.run_rested hr]
      exact hz
    · rw [same]
      exact state
    · obtain ⟨carrier, dest, follow⟩ := held h
      refine ⟨?_, ?_, due follow⟩ <;> rw [same]
      · exact carrier
      · exact dest
  · obtain ⟨g, ran, effect⟩ := ran false
    rw [if_neg (by decide)] at effect
    let c := (s.b.quiet.modStation n Station.freed).reevaluateOwn s.env
    have freed : g s.env s.b.quiet = c.offerShelf s.env n := by
      rw [effect]
      unfold Blocks.reportFree Blocks.freeShelf
      rw [if_pos hstate, number]
    have found : c.station? n = some x.freed :=
      (Blocks.station?_reevaluateOwn s.env _ n).trans
        (s.b.quiet.station?_modified hq Station.freed fun _ => rfl)
    obtain ⟨z, hz, due, same⟩ := ((Stands.refl.delivers
      (Delivers.refl.offerShelf (e := s.env) (n := n))).settle (e := s.env) (before := s.b)).station?_some found
    refine ⟨_, ran, z, ?_, ?_⟩
    · rw [State.run_rested hr, freed]
      exact hz
    · refine ⟨?_, ?_, ?_, due rfl, ?_⟩ <;> rw [same] <;> rfl

end Sys2Proof.Machine
end

section
/-! PROOFS. PORT-STATE (R28, R33 to R36): O20. -/
namespace Sys2Proof.Machine

/-! ### What a report of a port does -/

/-- The carrier id a PORT-STATE reports (R28). -/
def carrierRead (st : PortReport) (carrier : Option CarrierId) : Option CarrierId :=
  if st = .occupied then carrier else none

/-- The roster as a PORT-STATE marks it (R30). -/
def Blocks.marked (st : PortReport) (n : Nat) (b : Blocks) : Blocks :=
  if st = .offline then b.markPortOff n else b

/-- What PORT-STATE does with a port of the table (R28). -/
def Blocks.takePortState (e : Env) (x : Station) (st : PortReport) (carrier : Option CarrierId) (b : Blocks) :
    Blocks :=
  if x.state = portState st ∧ x.carrierId = carrierRead st carrier then b.marked st x.number
  else if st = .empty then (b.marked st x.number).emptyPort e x
  else (b.marked st x.number).closePort e x (portState st) (carrierRead st carrier)

/-- Vehicles keep in mind that a port was reported OFFLINE, and nothing else changes (R30). -/
theorem Blocks.markPortOff_vehicles (n : Nat) (b : Blocks) :
    (b.markPortOff n).vehicles = b.vehicles.map fun v =>
      if (v.state == .loading && v.aim .load == some n) || (v.state == .unloading && v.aim .unload == some n)
      then { v with portOff := true } else v := live_updWhere _ _ _

/-- What a station holds that the delivery operations and freed moves leave. -/
def Station.holds (s s' : Station) : Prop :=
  s'.kind = s.kind ∧ s'.state = s.state ∧ s'.carrierId = s.carrierId

theorem Station.stands.holds {s s' : Station} (h : s.stands s') : s.holds s' := by
  unfold Station.holds
  rw [h.2]
  exact ⟨rfl, rfl, rfl⟩

theorem Blocks.offerPort_holds {e : Env} {b : Blocks} {n k : Nat} {x : Station}
    (hx : b.station? n = some x) : ∃ y, (b.offerPort e k).station? n = some y ∧ x.holds y := by
  have same : ∃ y, b.station? n = some y ∧ x.holds y := ⟨x, hx, rfl, rfl, rfl⟩
  unfold offerPort
  split
  · exact same
  · split
    · split
      next id j _ =>
        obtain ⟨y, hy, stands⟩ := (Stands.refl.delivers
          (Delivers.refl.giveStation (e := e) (id := id) (n := k) (j := j))).station?_some hx
        exact ⟨y, hy, stands.holds⟩
      · split
        next sh _ =>
          have due := b.station?_updWhere (fun s => s.number == sh.number)
            (fun s => { s with followOnDue := true }) (fun _ => rfl) n
          rw [hx] at due
          refine ⟨_, due, ?_⟩
          dsimp only
          split <;> exact ⟨rfl, rfl, rfl⟩
        · exact same
    · exact same

theorem Blocks.emptyPort_spec {e : Env} {b : Blocks} {n : Nat} {x : Station} (hx : b.station? n = some x) :
    ∃ y, (b.emptyPort e x).station? n = some y ∧ y.kind = x.kind ∧ y.state = .empty ∧ y.carrierId = none := by
  have number : x.number = n := by simpa using List.find?_some hx
  let f : Station → Station := fun s => { s with state := .empty, carrierId := none }
  have found : ((b.modStation n f).reevaluateOwn e).station? n = some (f x) :=
    (station?_reevaluateOwn e _ n).trans (b.station?_modified hx f fun _ => rfl)
  have offered {c : Blocks} (h : Stands ((b.modStation n f).reevaluateOwn e) c) :
      ∃ y, (c.offerPort e n).station? n = some y ∧ y.kind = x.kind ∧ y.state = .empty ∧
        y.carrierId = none := by
    obtain ⟨z, hz, stands⟩ := h.station?_some found
    obtain ⟨y, hy, kind, state, carrier⟩ := offerPort_holds (e := e) (k := n) hz
    obtain ⟨kind', state', carrier'⟩ := stands.holds
    exact ⟨y, hy, kind.trans kind', state.trans state', carrier.trans carrier'⟩
  unfold emptyPort
  rw [number]
  dsimp only
  cases x.active with
  | none => exact offered .refl
  | some t => exact offered Stands.refl.sourceGone

theorem Blocks.closePort_spec {e : Env} {b : Blocks} {n : Nat} {x : Station} {st : StationState}
    {read : Option CarrierId} (hx : b.station? n = some x) :
    ∃ y, (b.closePort e x st read).station? n = some y ∧ y.kind = x.kind ∧ y.state = st ∧
      y.carrierId = read := by
  have number : x.number = n := by simpa using List.find?_some hx
  let f : Station → Station := fun s => { s with state := st, carrierId := read, reservation := none }
  have found : (b.modStation n f).station? n = some (f x) := b.station?_modified hx f fun _ => rfl
  have closed {c : Blocks} (h : Stands (b.modStation n f) c) :
      ∃ y, c.station? n = some y ∧ y.kind = x.kind ∧ y.state = st ∧ y.carrierId = read := by
    obtain ⟨y, hy, stands⟩ := h.station?_some found
    exact ⟨y, hy, stands.holds⟩
  unfold closePort
  rw [number]
  dsimp only
  cases x.reservation with
  | none => exact closed Stands.refl.clearDue.reevaluateOwn
  | some t => exact closed (Stands.refl.clearDue.reevaluateOwn.delivers Delivers.refl.redecide)

theorem Blocks.station?_marked (b : Blocks) (st : PortReport) (k n : Nat) :
    (b.marked st k).station? n = b.station? n := by
  unfold marked
  split <;> rfl

/-- A report of a port sets its state and the carrier id on it (R28). -/
theorem Blocks.takePortState_spec {e : Env} {b : Blocks} {n : Nat} {x : Station} (st : PortReport)
    (carrier : Option CarrierId) (hx : b.station? n = some x) :
    ∃ y, (b.takePortState e x st carrier).station? n = some y ∧ y.kind = x.kind ∧ y.state = portState st ∧
      y.carrierId = carrierRead st carrier := by
  have found : (b.marked st x.number).station? n = some x := (b.station?_marked st x.number n).trans hx
  unfold takePortState
  split
  next same => exact ⟨x, found, rfl, same.1, same.2⟩
  · split
    next h =>
      obtain ⟨y, hy, kind, state, id⟩ := emptyPort_spec (e := e) found
      subst h
      exact ⟨y, hy, kind, state, id⟩
    · exact closePort_spec found

theorem Blocks.takePortState_evolves {K : Part → Prop} {e : Env} {b : Blocks} {x : Station} {st : PortReport}
    {carrier : Option CarrierId} (hs : K .stations) (hi : K .inbound) :
    Evolves K e b (b.takePortState e x st carrier) := by
  have marked : Evolves K e b (b.marked st x.number) := by
    unfold Blocks.marked
    split
    · exact Evolves.refl.markPortOff
    · exact .refl
  unfold takePortState
  split
  · exact marked
  · split
    · exact marked.emptyPort hs hi
    · exact marked.closePort hs

/-- PORT-STATE of a port of the table runs so. -/
theorem State.portState_ran {s : State} {n : Nat} {x : Station} (st : PortReport)
    (carrier : Option CarrierId) (hrun : s.cl.node.running = true) (hlink : s.b.si.linkReset = true)
    (hx : s.b.station? n = some x) (hkind : x.kind = .port) :
    ∃ g : Env → Blocks → Blocks, exec (.portState n st carrier) s = .next (s.run g) ∧
      g s.env s.b.quiet = s.b.quiet.takePortState s.env x st carrier := by
  have number : x.number = n := by simpa using List.find?_some hx
  refine ⟨_, rfl, ?_⟩
  rw [if_neg (by simp [hrun, hlink]), show s.b.quiet.station? n = some x from hx]
  dsimp only
  unfold Blocks.takePortState Blocks.marked carrierRead
  simp only [hkind, number, true_and, reduceCtorEq, false_or]

/-! ### A delivery that is turned aside (R33 to R35) -/

/-- The delivery decision for a closed, unreserved target: the vehicle is sent to a shelf, or to wait (R34). -/
theorem Blocks.decideDelivery_aside {e : Env} {b : Blocks} {v : Vehicle} {j : Job} {n : Nat} {y : Station}
    {tag : Tag} (hv : b.vehicle? v.id = some v) (hj : v.job = some j) (haim : v.aim .unload = some n)
    (hy : b.station? n = some y) (hs : v.state = .loaded) (hr : v.relearn = false) (htag : j.tag = some tag)
    (hclosed : y.open = false) (hfree : y.reservation = none) :
    b.decideDelivery e v.id = b.toShelf e v y.segment j := by
  unfold decideDelivery
  rw [hv]
  dsimp only
  rw [hj, haim]
  dsimp only
  rw [hy]
  dsimp only
  rw [if_neg (by simp [hs, hr]), if_neg (by simp [Station.takes, hclosed]),
    if_neg (by simp [hfree, htag])]

theorem Blocks.state_setVehicleState (b : Blocks) (id : Nat) (st : RosterState) :
    ∀ w ∈ (b.setVehicleState id st).vehicles, w.id = id → w.state = st := by
  unfold setVehicleState
  rw [vehicles_modVehicle]
  intro w hw hid
  obtain ⟨u, -, rfl⟩ := List.mem_map.1 hw
  by_cases h : (u.id == id) = true
  · rw [if_pos h]
  · rw [if_neg h] at hid
    exact absurd (beq_iff_eq.2 hid) h

theorem Blocks.setReservation_zc (b : Blocks) (n : Nat) (tag : Option Tag) :
    (b.setReservation n tag).zc = b.zc := by
  cases tag <;> rfl

/-- A vehicle that is given a job, and a state with it. -/
theorem Blocks.vehicle?_sent {e : Env} {b : Blocks} {v : Vehicle} (hn : e.node ≠ .haltedDuplicate)
    (hv : b.vehicle? v.id = some v) (j : Job) (st : RosterState) :
    ((b.sendGoto e v.id j).setVehicleState v.id st).vehicle? v.id =
      some { Vehicle.commanded j v with state := st } := by
  have sent : (b.sendGoto e v.id j).vehicle? v.id = some (v.commanded j) := by
    have moved := b.vehicle?_modVehicle v.id (Vehicle.commanded j) fun _ => rfl
    rw [hv] at moved
    rcases b.sendGoto_cases e v.id j with ⟨h, -⟩ | ⟨-, c, rfl, h | h⟩
    · exact absurd h hn
    · rw [h]
      exact moved
    · rw [h]
      exact moved
  refine ((b.sendGoto e v.id j).vehicle?_modVehicle v.id (fun x => { x with state := st })
    fun _ => rfl).trans ?_
  rw [sent]
  rfl

/-- A delivery turned aside: to a shelf, which is reserved for it, or to the tail of the wait queue (R34). -/
theorem Blocks.toShelf_spec {e : Env} {b : Blocks} {v : Vehicle} {j : Job} {tag : Tag} (seg : Nat)
    (hn : e.node ≠ .haltedDuplicate) (hv : b.vehicle? v.id = some v) (htag : j.tag = some tag) :
    (∀ w ∈ (b.toShelf e v seg j).vehicles, w.id = v.id → w.state = .loaded ∨ w.state = .loadedWait) ∧
    (∀ q, b.chooseShelf e v = some q →
      (∃ y, (b.toShelf e v seg j).vehicle? v.id = some y ∧ y.state = .loaded ∧
        y.job = some { j with target := .station q, action := .unload }) ∧
      ((b.toShelf e v seg j).station? q).bind Station.reservation = (b.station? q).bind fun _ => some tag) ∧
    (b.chooseShelf e v = none →
      (∃ y, (b.toShelf e v seg j).vehicle? v.id = some y ∧ y.state = .loadedWait ∧
        y.job = some { j with target := .segment seg, action := .pass }) ∧
      (b.toShelf e v seg j).si.waitQueue.getLast? = some v.id) := by
  unfold toShelf
  cases hq : b.chooseShelf e v with
  | some q =>
    let c := b.setReservation q j.tag
    let job : Job := { j with target := .station q, action := .unload }
    have same : c.vehicle? v.id = some v := (vehicle?_congr (b.setReservation_zc q j.tag) v.id).trans hv
    refine ⟨fun w hw hid => .inl ((c.sendGoto e v.id job).state_setVehicleState v.id .loaded w hw hid),
      fun k hk => ?_, fun h => nomatch h⟩
    cases hk
    refine ⟨⟨_, c.vehicle?_sent hn same job .loaded, rfl, rfl⟩, ?_⟩
    have stations : (c.aimAt e v.id q j).station? q = c.station? q :=
      congrArg (fun x : SI => (live x.stations).find? fun t : Station => t.number == q)
        (c.sendGoto_frame e v.id job).1
    rw [show ((b.setReservation q j.tag).aimAt e v.id q j).station? q = c.station? q from stations]
    unfold c
    rw [htag]
    exact b.reservation_setReservation q tag
  | none =>
    let job : Job := { j with target := .segment seg, action := .pass }
    refine ⟨fun w hw hid => .inr (((b.leaveQueue v.id).sendGoto e v.id job).state_setVehicleState v.id
      .loadedWait w hw hid), fun k hk => (by cases hk),
      fun _ => ⟨?_, ?_⟩⟩
    · exact ⟨_, (b.leaveQueue v.id).vehicle?_sent hn hv job .loadedWait, rfl, rfl⟩
    · exact List.getLast?_concat

/-- The shelves for a delivery are judged by what the stations and the roster's places say (R34). -/
theorem Blocks.chooseShelf_congr {e : Env} {b c : Blocks} {v : Vehicle} {h : Station → Station}
    (hs : c.stationList = b.stationList.map h)
    (he : ∀ g, c.estimateOf e v g = b.estimateOf e v g)
    (hh : ∀ s ∈ b.stationList, (h s).number = s.number ∧ (h s).segment = s.segment ∧
      ((h s).state == .free && (h s).reservation.isNone && (h s).active.isNone) =
        (s.state == .free && s.reservation.isNone && s.active.isNone)) :
    c.chooseShelf e v = b.chooseShelf e v := by
  unfold chooseShelf
  rw [hs, List.filter_map, List.filterMap_map]
  have filtered : b.stationList.filter ((fun s => s.state == .free && s.reservation.isNone &&
      s.active.isNone) ∘ h) = b.stationList.filter fun s => s.state == .free && s.reservation.isNone &&
      s.active.isNone := List.filter_congr fun s hs => (hh s hs).2.2
  rw [filtered]
  congr 2
  refine List.filterMap_congr fun s hs => ?_
  obtain ⟨number, segment, -⟩ := hh s (List.mem_filter.1 hs).1
  rw [Function.comp_apply, he, number, segment]

/-- The blocks when a port has left EMPTY, before its delivery is decided again (R28). -/
def Blocks.portClosed (e : Env) (st : PortReport) (carrier : Option CarrierId) (n : Nat) (b : Blocks) :
    Blocks :=
  (((b.marked st n).modStation n fun y =>
    { y with state := portState st, carrierId := carrierRead st carrier, reservation := none }).clearDue
      n).reevaluateOwn e

/-- The entry of a vehicle as a PORT-STATE leaves it (R30). -/
def portMark (st : PortReport) (n : Nat) (v : Vehicle) : Vehicle :=
  if st = .offline ∧ ((v.state == .loading && v.aim .load == some n) ||
    (v.state == .unloading && v.aim .unload == some n)) = true then { v with portOff := true } else v

theorem portMark_loaded {st : PortReport} {n : Nat} {v : Vehicle} (h : v.state = .loaded) :
    portMark st n v = v := if_neg (by simp [h])

theorem portMark_keeps (st : PortReport) (n : Nat) (v : Vehicle) :
    portMark st n v = { v with portOff := (portMark st n v).portOff } := by
  unfold portMark
  split <;> rfl

theorem Blocks.portClosed_vehicles (e : Env) (st : PortReport) (carrier : Option CarrierId) (n : Nat)
    (b : Blocks) : (b.portClosed e st carrier n).vehicles = b.vehicles.map (portMark st n) := by
  obtain ⟨zc, -⟩ := Blocks.reevaluate_frame e (fun m => e.inWindow m.dest)
    (((b.marked st n).modStation n fun y =>
      { y with state := portState st, carrierId := carrierRead st carrier, reservation := none }).clearDue n)
  have roster : (b.portClosed e st carrier n).vehicles = (b.marked st n).vehicles :=
    congrArg (fun z : ZC => live z.roster) zc
  rw [roster]
  unfold marked portMark
  by_cases h : st = .offline
  · rw [if_pos h, markPortOff_vehicles]
    simp only [h, true_and]
  · rw [if_neg h]
    simp [h]

/-- The station of number `n` is the port; the others lose a follow-on at most. -/
def portClosedStation (st : PortReport) (carrier : Option CarrierId) (n : Nat) (y : Station) : Station :=
  let z := if y.number == n then
    { y with state := portState st, carrierId := carrierRead st carrier, reservation := none } else y
  if z.finalDest == some n then { z with followOnDue := false } else z

theorem Blocks.portClosed_stations (e : Env) (st : PortReport) (carrier : Option CarrierId) (n : Nat)
    (b : Blocks) :
    (b.portClosed e st carrier n).stationList = b.stationList.map (portClosedStation st carrier n) := by
  let f : Station → Station := fun y =>
    { y with state := portState st, carrierId := carrierRead st carrier, reservation := none }
  obtain ⟨-, si, -⟩ := Blocks.reevaluate_frame e (fun m => e.inWindow m.dest)
    (((b.marked st n).modStation n f).clearDue n)
  have list : (b.portClosed e st carrier n).stationList =
      (((b.marked st n).modStation n f).clearDue n).stationList :=
    congrArg (fun x : SI => live x.stations) si
  have same : (b.marked st n).stationList = b.stationList := by
    unfold marked
    split <;> rfl
  rw [list]
  unfold clearDue modStation
  rw [stationList_modStations, stationList_modStations, same, List.map_map]
  rfl

theorem Blocks.portClosed_frame (e : Env) (st : PortReport) (carrier : Option CarrierId) (n : Nat)
    (b : Blocks) : (b.portClosed e st carrier n).zc.segments = b.zc.segments ∧
      (b.portClosed e st carrier n).agenda.follow = b.agenda.follow := by
  have marked : (b.marked st n).zc.segments = b.zc.segments ∧
      (b.marked st n).agenda.follow = b.agenda.follow := by
    unfold Blocks.marked
    split <;> exact ⟨rfl, rfl⟩
  have turns := (Turns.refl (b := ((b.marked st n).modStation n fun y =>
    { y with state := portState st, carrierId := carrierRead st carrier,
             reservation := none }).clearDue n)).reevaluateOwn (e := e)
  exact ⟨turns.segments.trans marked.1, turns.follow.trans marked.2⟩

theorem portClosedStation_keeps (st : PortReport) (carrier : Option CarrierId) (n : Nat) (y : Station) :
    (portClosedStation st carrier n y).number = y.number ∧
      (portClosedStation st carrier n y).segment = y.segment := by
  unfold portClosedStation
  dsimp only
  split <;> split <;> exact ⟨rfl, rfl⟩

/-- The shelf chosen for a delivery turned aside is a FREE one, of least E (R34). -/
theorem Blocks.chooseShelf_least {e : Env} {b : Blocks} {v : Vehicle} {q : Nat}
    (h : b.chooseShelf e v = some q) :
    ∃ z ∈ b.stationList, z.number = q ∧ z.state = .free ∧ z.reservation = none ∧ z.active = none ∧
      ∀ w ∈ b.stationList, w.state = .free → w.reservation = none → w.active = none →
        (b.estimateOf e v (.seg z.segment)).getD 65535 ≤ (b.estimateOf e v (.seg w.segment)).getD 65535 := by
  obtain ⟨z, hz, number, least⟩ := firstBy_estimate (est := fun z : Station => b.estimateOf e v (.seg z.segment))
    (key := Station.number) (fun _ _ h => estimateOf_le h) h
  obtain ⟨mem, free⟩ := List.mem_filter.1 hz
  simp only [Bool.and_eq_true, beq_iff_eq, Option.isNone_iff_eq_none] at free
  obtain ⟨⟨state, reservation⟩, active⟩ := free
  refine ⟨z, mem, number, state, reservation, active, fun w hw h1 h2 h3 => ?_⟩
  exact least w (List.mem_filter.2 ⟨hw, by simp [h1, h2, h3]⟩)

/-- A reserved EMPTY port that is reported otherwise: the vehicle near it is sent to a shelf, or waits. -/
theorem Blocks.takePortState_redecides {e : Env} {b : Blocks} {n : Nat} {x : Station} {tag : Tag}
    {v : Vehicle} {j : Job} {st : PortReport} (carrier : Option CarrierId) (hx : b.station? n = some x)
    (hempty : x.state = .empty) (hres : x.reservation = some tag) (hst : st ≠ .empty)
    (hnear : b.vehicles.filter (Vehicle.redecides n x.segment tag) = [v]) (hv : b.vehicle? v.id = some v)
    (hj : v.job = some j) :
    b.takePortState e x st carrier = (b.portClosed e st carrier n).toShelf e v x.segment j ∧
      (b.portClosed e st carrier n).vehicle? v.id = some v ∧ j.tag = some tag ∧ v.state = .loaded ∧
      (b.portClosed e st carrier n).Shut n := by
  have number : x.number = n := by simpa using List.find?_some hx
  have near : v ∈ b.vehicles.filter (Vehicle.redecides n x.segment tag) := by
    rw [hnear]
    exact List.mem_singleton_self v
  have redecides := (List.mem_filter.1 near).2
  simp only [Vehicle.redecides, Bool.and_eq_true, beq_iff_eq, Bool.not_eq_true', hj,
    Option.any_some] at redecides
  obtain ⟨⟨⟨⟨loaded, relearn⟩, aim⟩, htag⟩, -⟩ := redecides
  have not_same : portState st ≠ .empty := by cases st <;> first | exact absurd rfl hst | decide
  have number_kept (y : Station) := (portClosedStation_keeps st carrier n y).1
  have shut : (b.portClosed e st carrier n).Shut n := by
    unfold Blocks.Shut
    rw [portClosed_stations]
    intro y hy hn
    obtain ⟨z, -, rfl⟩ := List.mem_map.1 hy
    rw [number_kept] at hn
    unfold portClosedStation
    rw [if_pos (beq_iff_eq.2 hn)]
    dsimp only
    split <;> cases st <;> first | exact absurd rfl hst | exact ⟨rfl, rfl⟩
  have found : (b.portClosed e st carrier n).station? n = some (portClosedStation st carrier n x) := by
    unfold station?
    rw [portClosed_stations, List.find?_map]
    rw [show ((fun s : Station => s.number == n) ∘ portClosedStation st carrier n) =
      fun s : Station => s.number == n from funext fun y => by rw [Function.comp_apply, number_kept]]
    rw [show b.stationList.find? (fun s => s.number == n) = some x from hx]
    rfl
  have vehicle : (b.portClosed e st carrier n).vehicle? v.id = some v := by
    unfold vehicle?
    rw [portClosed_vehicles, List.find?_map]
    rw [show ((fun w : Vehicle => w.id == v.id) ∘ portMark st n) = fun w : Vehicle => w.id == v.id from
      funext fun y => by rw [Function.comp_apply, portMark_keeps]]
    rw [show b.vehicles.find? (fun w => w.id == v.id) = some v from hv, Option.map_some,
      portMark_loaded loaded]
  have near' : (b.portClosed e st carrier n).vehicles.filter (Vehicle.redecides n x.segment tag) = [v] := by
    rw [portClosed_vehicles, List.filter_map]
    have same : Vehicle.redecides n x.segment tag ∘ portMark st n = Vehicle.redecides n x.segment tag := by
      funext w
      rw [Function.comp_apply, portMark_keeps]
      rfl
    rw [same, hnear, List.map_singleton, portMark_loaded loaded]
  obtain ⟨closed, free⟩ := shut _ (List.mem_of_find?_eq_some found) ((number_kept x).trans number)
  refine ⟨?_, vehicle, htag, loaded, shut⟩
  have decided : b.takePortState e x st carrier =
      (b.portClosed e st carrier n).redecide e n x.segment tag := by
    unfold takePortState closePort
    rw [if_neg (by rw [hempty]; exact fun h => not_same h.1.symm), if_neg hst, number, hres]
    rfl
  rw [decided, redecide_one near', decideDelivery_aside vehicle hj aim found loaded relearn htag closed free,
    (portClosedStation_keeps st carrier n x).2]

/-- Settles O20. -/
theorem portStateTaken : Obligations.PortStateTaken := by
  intro s n st carrier hrun hr
  refine ⟨fun hno => ?_, fun x hlink hx hkind => ?_,
    fun x tag v j hlink hnode hsound hx hkind hempty hres hst hnear hv hj => ?_⟩
  · obtain ⟨g, ran, effect⟩ : ∃ g : Env → Blocks → Blocks,
        exec (.portState n st carrier) s = .next (s.run g) ∧ g s.env s.b.quiet = s.b.quiet := by
      refine ⟨_, rfl, ?_⟩
      rcases hno with unlinked | missing | ⟨x, hx, hkind⟩
      · exact if_pos (by simp [unlinked])
      · rw [show s.b.quiet.station? n = none from missing]
        exact ite_self _
      · rw [show s.b.quiet.station? n = some x from hx]
        dsimp only
        split
        · rfl
        · rw [if_neg (by simp [hkind] : ¬ (x.kind = .port ∧ st = .offline)), if_pos (.inl hkind)]
    obtain ⟨zc, si, mm, du, -⟩ := State.run_frame (f := g) hr (by rw [effect]; exact hr.1)
    rw [effect] at zc si mm du
    exact ⟨_, ran, ⟨zc, si, mm⟩, Blocks.sameBooks_of_starve (b := s.b) du⟩
  · obtain ⟨g, ran, effect⟩ := State.portState_ran st carrier hrun hlink hx hkind
    obtain ⟨y, hy, kind, state, id⟩ := Blocks.takePortState_spec (e := s.env) (b := s.b.quiet) st carrier hx
    rw [← effect] at hy
    have evolves : Evolves (fun p => p = .stations ∨ p = .inbound) s.env s.b.quiet (s.run g).b := by
      rw [State.run_rested hr, effect]
      exact (Blocks.takePortState_evolves (.inl rfl) (.inr rfl)).settle (.inl (.inl rfl))
    obtain ⟨z, hz, stands⟩ := (Stands.refl.settle (e := s.env) (before := s.b)).station?_some hy
    obtain ⟨kind', state', id'⟩ := stands.holds
    refine ⟨_, ran, z, ?_, ?_, ?_, ?_, evolves.segments_eq (by simp), evolves.fu_eq (by simp)⟩
    · rw [State.run_rested hr]
      exact hz
    · rw [kind', kind, hkind]
    · rw [state', state]
      cases st <;> rfl
    · rw [id', id]
      cases st <;> rfl
  · obtain ⟨g, ran, effect⟩ := State.portState_ran st carrier hrun hlink hx hkind
    let b := s.b.quiet.portClosed s.env st carrier n
    obtain ⟨aside, vehicle, htag, loaded, shut⟩ := Blocks.takePortState_redecides (e := s.env)
      (b := s.b.quiet) carrier hx hempty hres hst hnear hv hj
    rw [aside] at effect
    have stations : b.stationList = s.b.stationList.map (portClosedStation st carrier n) :=
      s.b.quiet.portClosed_stations s.env st carrier n
    obtain ⟨segments, follow⟩ := s.b.quiet.portClosed_frame s.env st carrier n
    have estimate (g : Goal) : b.estimateOf s.env v g = s.b.estimateOf s.env v g := by
      have same := Blocks.estimateOf_congr (b := s.b) (c := b) segments
        (s.b.quiet.portClosed_vehicles s.env st carrier n)
        (fun w => by rw [portMark_keeps]; exact ⟨rfl, rfl, rfl, rfl⟩) s.env v g
      rwa [portMark_loaded loaded] at same
    have choice : b.chooseShelf s.env v = s.b.chooseShelf s.env v := by
      refine Blocks.chooseShelf_congr stations estimate fun y hy => ?_
      obtain ⟨number, segment⟩ := portClosedStation_keeps st carrier n y
      refine ⟨number, segment, ?_⟩
      unfold portClosedStation
      by_cases hn : y.number = n
      · have found := find?_of_mem_of_nodup (key := Station.number) hsound.1 hy
        rw [hn, show s.b.stationList.find? (fun z => z.number == n) = some x from hx] at found
        cases found
        rw [if_pos (beq_iff_eq.2 hn), hempty]
        dsimp only
        split <;> cases st <;> rfl
      · rw [if_neg (show ¬ (y.number == n) = true by simpa using hn)]
        dsimp only
        split <;> rfl
    obtain ⟨states, to_shelf, to_wait⟩ := b.toShelf_spec (e := s.env) x.segment hnode vehicle htag
    have delivers : Delivers b (b.toShelf s.env v x.segment j) := Delivers.refl.toShelf
    have calm := State.run_calm (f := g) hr (by
      rw [effect]
      exact (delivers.follow.trans follow).trans (congrArg Agenda.follow hr.1))
    rw [effect] at calm
    have same := calm.vehicle?_eq (id := v.id) fun w hw hid => by
      rcases states w hw hid with h | h <;> simp [Vehicle.free, h]
    rw [choice] at to_shelf to_wait
    refine ⟨_, ran, ?_, fun q hq => ?_, fun hq => ?_⟩
    · rw [calm.station?]
      cases hy : (b.toShelf s.env v x.segment j).station? n with
      | none => rfl
      | some y =>
        have shelved : (b.toShelf s.env v x.segment j).Shut n := shut.toShelf
        exact (shelved y (List.mem_of_find?_eq_some hy) (by simpa using List.find?_some hy)).2
    · obtain ⟨⟨y, hy, state, job⟩, reserved⟩ := to_shelf q hq
      obtain ⟨z, mem, number, least⟩ := Blocks.chooseShelf_least hq
      refine ⟨⟨z, mem, number, least⟩, ⟨y, same.trans hy, state, job⟩, ?_⟩
      have stands : (b.station? q).isSome = true := by
        unfold Blocks.station?
        rw [stations, List.find?_isSome]
        refine ⟨_, List.mem_map_of_mem mem, ?_⟩
        rw [(portClosedStation_keeps st carrier n z).1]
        exact beq_iff_eq.2 number
      obtain ⟨u, hu⟩ := Option.isSome_iff_exists.1 stands
      rw [calm.station?]
      refine reserved.trans ?_
      rw [hu]
      rfl
    · obtain ⟨⟨y, hy, state, job⟩, queue⟩ := to_wait hq
      refine ⟨⟨y, same.trans hy, state, job⟩, ?_⟩
      rw [calm.si]
      exact queue

end Sys2Proof.Machine
end

section
/-! PROOFS. Vehicles that come onto the roster, by roll call and at the divert marker (R20, R21, R113 to R115):
O9, O14. -/
namespace Sys2Proof.Machine

/-! ### A new roster entry (R10) -/

theorem Blocks.vehicle?_enterRoster {b : Blocks} {v : Vehicle} (hf : 0 < b.freeSlots)
    (hn : b.vehicle? v.id = none) : (b.enterRoster v).vehicle? v.id = some v := by
  obtain ⟨o, ho, free⟩ := List.countP_pos_iff.1 hf
  obtain rfl := Option.isNone_iff_eq_none.1 free
  refine find?_live_putFree_self ho (by simp) fun x hx => ?_
  simpa using List.find?_eq_none.1 hn x hx

theorem Blocks.vehicle?_enterRoster_of_ne {b : Blocks} {v : Vehicle} {x : Nat} (h : x ≠ v.id) :
    (b.enterRoster v).vehicle? x = b.vehicle? x :=
  find?_live_putFree (by simpa using Ne.symm h)

/-- A minor fault sets a flag at most (R159). -/
theorem Blocks.minorFault_cases (r : Report) (b : Blocks) :
    b.minorFault r = b ∨ b.minorFault r = b.setFlag .vehicle := by
  unfold minorFault
  split
  · exact .inr rfl
  · exact .inl rfl

/-! ### The end of a command with an occasion for binding, or for a call, alone -/

/-- Without a move to bind, a binding pass and the call pass that follows it do nothing. -/
theorem Blocks.passes_of_no_candidate (e : Env) {b : Blocks} (hf : b.agenda.follow = false)
    (hp : b.agenda.park = false) (hr : b.agenda.released = []) (hm : b.candidateMoves = []) :
    b.passes e = { b with agenda := Agenda.none } := by
  have pairs (n : Nat) : Blocks.bindPairs e n b = b := by
    cases n with
    | zero => rfl
    | succ n =>
      unfold bindPairs nextPair
      rw [hm]
      rfl
  have none_eligible : b.moveList.filter (Move.eligible e.now) = [] := by
    refine List.filter_eq_nil_iff.2 fun m hmem elig => ?_
    have cand := (Move.candidate_of_eligible elig).2
    exact List.filter_eq_nil_iff.1 hm m hmem cand
  have call (c : Blocks) (hc : c.mm = b.mm) (ha : c.agenda.follow = false ∧ c.agenda.park = false) :
      { (c.callPhase e) with agenda := Agenda.none } = { c with agenda := Agenda.none } := by
    unfold callPhase callPass
    rw [show c.moveList = b.moveList from congrArg (fun x : MM => live x.moves) hc, none_eligible]
    split <;> rfl
  have bound : b.bindPhase e = b ∨ b.bindPhase e = b.wantCall := by
    unfold bindPhase
    split
    · refine .inr ?_
      rw [pairs]
      unfold passReleased
      rw [hr]
      rfl
    · exact .inl rfl
  unfold passes parkPhase
  rw [followPhase_of_not_follow hf]
  rcases bound with h | h <;> rw [h]
  · rw [if_neg (by simp [hp])]
    exact call b rfl ⟨hf, hp⟩
  · rw [if_neg (by simp [hp])]
    exact call b.wantCall rfl ⟨hf, hp⟩

/-- Without a move to bind, the end of a command that has made vehicles IDLE changes no table. -/
theorem State.run_idle {s : State} {f : Env → Blocks → Blocks} (h : s.rested)
    (hf : (f s.env s.b.quiet).agenda.follow = false) (hp : (f s.env s.b.quiet).agenda.park = false)
    (hr : (f s.env s.b.quiet).agenda.released = []) (hm : (f s.env s.b.quiet).candidateMoves = []) :
    (s.run f).b.zc = (f s.env s.b.quiet).zc ∧ (s.run f).b.si = (f s.env s.b.quiet).si ∧
      (s.run f).b.mm = (f s.env s.b.quiet).mm ∧ (s.run f).b.out = (f s.env s.b.quiet).out := by
  obtain ⟨zc, si, mm, -, -, out, -⟩ := Blocks.settle_frame s.env ((f s.env s.b.quiet).passes s.env) s.b rfl
  rw [Blocks.settle_passes, ← State.run_rested h, Blocks.passes_of_no_candidate s.env hf hp hr hm]
    at zc si mm out
  exact ⟨zc, si, mm, out⟩

theorem Blocks.callPhase_out (e : Env) (b : Blocks) : (b.callPhase e).out = b.out := by
  have folded (l : List Move) (c : Blocks) :
      (l.foldl (fun b m => if b.mayCall e then b.openCall e m else b) c).out = c.out := by
    induction l generalizing c with
    | nil => rfl
    | cons m l ih =>
      refine (ih _).trans ?_
      dsimp only
      split
      · exact Blocks.place_out _ _ _
      · rfl
  unfold callPhase
  split
  · exact folded _ b
  · rfl

/-- With an occasion for a call pass at most, nothing is sent on the zone line or the station link. -/
theorem Blocks.settle_of_call_out (e : Env) (b before : Blocks) (hf : b.agenda.follow = false)
    (hb : b.agenda.bind = false) (hp : b.agenda.park = false) : (b.settle e before).out = b.out := by
  have called : b.passes e = { b.callPhase e with agenda := Agenda.none } := by
    unfold passes bindPhase parkPhase
    rw [followPhase_of_not_follow hf]
    simp [hb, hp]
  obtain ⟨-, -, -, -, -, out, -⟩ := settle_frame e (b.passes e) before rfl
  rw [settle_passes, called] at out
  exact out.trans (b.callPhase_out e)

/-! ### Roll call (R20, R21) -/

/-- An empty vehicle in good order that answers from a segment of the zone is entered IDLE (R21). -/
theorem Blocks.answer_idle {e : Env} {b : Blocks} {r : Report} {n : Nat} (hslots : 0 < b.freeSlots)
    (hin : b.inbound? r.vehicle = none) (hplace : r.place = .segment n) (hn : n ≤ e.cfg.loopLen + 1)
    (hlevel : r.level ≠ .major) (hhoist : r.hoist = .idle ∨ r.hoist = .done) (hcarrier : r.carrier = false) :
    b.answer e r = ((b.minorFault r).enterRoster (newVehicle e r n .idle)).makeIdle e r.vehicle := by
  have still : hoistWorking r.hoist = false := by
    rcases hhoist with h | h <;> rw [h] <;> rfl
  have gone : b.removeInbound e r.vehicle = b := by
    unfold removeInbound
    rw [hin]
  unfold answer
  rw [hplace]
  dsimp only
  rw [if_pos (show n ≤ e.exitSeg from hn)]
  unfold enterAnswer
  dsimp only
  rw [if_neg (by omega), gone, if_neg (by simp [hlevel, still]), if_pos (by simp [hcarrier])]

/-- Settles O9. -/
theorem rollCallTakesAnswersInSlots : Obligations.RollCallTakesAnswersInSlots := by
  intro s v hnode hcensus
  refine ⟨⟨_, rfl, ?_⟩, fun r n hr hid hnot hslots hin hmoves hplace hn hlevel hhoist hcarrier => ?_⟩
  · show ({ s with b := if s.cl.node = .listen then _ else _ } : State) = _
    rw [if_pos hnode, show s.b.quiet.zc.census.bind nextSlot = nextSlot v by
      rw [show s.b.quiet.zc.census = some v from hcensus]
      rfl]
    rfl
  · subst hid
    let w := newVehicle s.env r n .idle
    let b := s.b.quiet.minorFault r
    let idle : Vehicle → Vehicle := fun v => { v with state := .idle, idleSince := s.now, clearance := false }
    obtain ⟨g, ran, effect⟩ : ∃ g : Env → Blocks → Blocks,
        exec (.rollCallAnswer r) s = .next (s.run g) ∧
          g s.env s.b.quiet = ((b.enterRoster w).modVehicle r.vehicle idle).wantBind := by
      refine ⟨_, rfl, ?_⟩
      rw [if_pos ⟨hnode, hcensus⟩,
        if_neg (by rw [show s.b.quiet.onRoster r.vehicle = false from hnot]; decide)]
      exact Blocks.answer_idle hslots hin hplace hn hlevel hhoist hcarrier
    obtain ⟨zc_b, si_b, mm_b, out_b, agenda_b⟩ : b.zc = s.b.zc ∧ b.si = s.b.si ∧ b.mm = s.b.mm ∧
        b.out = Out.none ∧ b.agenda = s.b.agenda := by
      rcases s.b.quiet.minorFault_cases r with h | h <;> unfold b <;> rw [h] <;>
        exact ⟨rfl, rfl, rfl, rfl, rfl⟩
    have agenda : (g s.env s.b.quiet).agenda = { Agenda.none with bind := true } := by
      rw [effect]
      show { b.agenda with bind := true } = _
      rw [agenda_b, hr.1]
    have no_moves : (g s.env s.b.quiet).candidateMoves = [] := by
      have none_live : live s.b.mm.moves = [] := by
        unfold live
        exact List.filterMap_eq_nil_iff.2 fun m hm => hmoves m hm
      rw [effect]
      show (live b.mm.moves).filter Move.candidate = []
      rw [mm_b, none_live]
      rfl
    obtain ⟨zc, si, -, out⟩ := State.run_idle (f := g) hr (by rw [agenda]; rfl) (by rw [agenda]; rfl)
      (by rw [agenda]; rfl) no_moves
    rw [effect] at zc si out
    have absent : b.vehicle? r.vehicle = none :=
      (Blocks.vehicle?_congr zc_b r.vehicle).trans (Blocks.onRoster_eq_false.1 hnot)
    have entered : (b.enterRoster w).vehicle? r.vehicle = some w := by
      refine Blocks.vehicle?_enterRoster (v := w) ?_ absent
      unfold Blocks.freeSlots
      rw [zc_b]
      exact hslots
    have lists : ((b.enterRoster w).modVehicle r.vehicle idle).wantBind.zc.census = b.zc.census ∧
        ((b.enterRoster w).modVehicle r.vehicle idle).wantBind.zc.inbound = b.zc.inbound := ⟨rfl, rfl⟩
    refine ⟨_, ran, ⟨idle w, ?_, rfl, rfl, rfl, rfl, rfl, rfl, rfl⟩, fun x hx => ?_, ?_, ?_, ?_, ?_⟩
    · refine (Blocks.vehicle?_congr zc r.vehicle).trans ?_
      refine ((b.enterRoster w).vehicle?_modVehicle r.vehicle idle fun _ => rfl).trans ?_
      rw [entered]
      rfl
    · refine (Blocks.vehicle?_congr zc x).trans ?_
      refine ((b.enterRoster w).vehicle?_modVehicle_of_ne idle (fun _ => rfl) hx).trans ?_
      exact (Blocks.vehicle?_enterRoster_of_ne (v := w) hx).trans (Blocks.vehicle?_congr zc_b x)
    · rw [zc, lists.2, zc_b]
    · rw [out]
      exact congrArg Out.zone out_b
    · rw [zc, lists.1, zc_b]
      exact hcensus
    · exact si.trans si_b

/-! ### The divert marker (R113 to R115) -/

/-- An admitted vehicle has an ENTERING entry with the enter job, and its Inbound entry is gone (R114). -/
theorem Blocks.takeIn_spec {e : Env} {b : Blocks} {r : Report} {i : Inbound} (tag : Option Tag)
    (dest : Option Nat) (hn : e.node ≠ .haltedDuplicate) (hslots : 0 < b.freeSlots)
    (hv : b.vehicle? r.vehicle = none) :
    let c := b.takeIn e r (some i) tag dest
    c.vehicle? r.vehicle = some (Vehicle.commanded (enterJob tag dest) { newVehicle e r 0 .entering with
      unexpected := false
      arrival := some i.details
      capture := some { marker := .divert, time := e.now, stopped := false } }) ∧
    (∀ x, x ≠ r.vehicle → c.vehicle? x = b.vehicle? x) ∧ c.inbound? r.vehicle = none ∧
    c.out.zone = b.out.zone ++ [.goto r.vehicle (enterJob tag dest)] ∧ c.si = b.si ∧
    c.agenda = { b.agenda with call := true } ∧
    c.counter .admissions = (b.bump .admissions).counter .admissions := by
  let w : Vehicle := { newVehicle e r 0 .entering with
    unexpected := false
    arrival := some i.details
    capture := some { marker := .divert, time := e.now, stopped := false } }
  let job := enterJob tag dest
  have entered : (b.enterRoster w).vehicle? r.vehicle = some w :=
    vehicle?_enterRoster (v := w) hslots hv
  let d := ((b.enterRoster w).modVehicle r.vehicle (Vehicle.commanded job)).emitZone (.goto r.vehicle job)
  have sent : (b.enterRoster w).sendGoto e r.vehicle job = d := by
    unfold sendGoto
    rw [if_neg hn, entered]
    rfl
  have taken : b.takeIn e r (some i) tag dest =
      ((d.bump .admissions).minorFault r).dropInbound r.vehicle := by
    unfold takeIn
    dsimp only
    rw [if_pos (by rfl), ← sent]
    rfl
  intro c
  let f := (d.bump .admissions).minorFault r
  obtain ⟨zc, si, out, agenda, counter⟩ : f.zc = d.zc ∧ f.si = d.si ∧ f.out = d.out ∧ f.agenda = d.agenda ∧
      f.counter .admissions = (d.bump .admissions).counter .admissions := by
    rcases (d.bump .admissions).minorFault_cases r with h | h <;> unfold f <;> rw [h] <;>
      exact ⟨rfl, rfl, rfl, rfl, rfl⟩
  have roster (x : Nat) : c.vehicle? x =
      ((b.enterRoster w).modVehicle r.vehicle (Vehicle.commanded job)).vehicle? x := by
    unfold c
    rw [taken]
    exact vehicle?_congr zc x
  refine ⟨?_, fun x hx => ?_, ?_, ?_, ?_, ?_, ?_⟩
  · rw [roster, (b.enterRoster w).vehicle?_modVehicle r.vehicle (Vehicle.commanded job) fun _ => rfl, entered]
    rfl
  · rw [roster, (b.enterRoster w).vehicle?_modVehicle_of_ne (Vehicle.commanded job) (fun _ => rfl) hx]
    exact vehicle?_enterRoster_of_ne (v := w) hx
  · unfold c
    rw [taken, inbound?_dropInbound, if_pos rfl]
  · unfold c
    rw [taken]
    exact congrArg Out.zone out
  · unfold c
    rw [taken]
    exact si
  · unfold c
    rw [taken]
    exact congrArg (fun a : Agenda => { a with call := true }) agenda
  · unfold c
    rw [taken]
    exact counter

/-- Settles O14. -/
theorem loanVehicleAdmittedOrRefused : Obligations.LoanVehicleAdmittedOrRefused := by
  intro s r i hnode hs hnot hplace hi hkind hcarrier
  have running : s.cl.node.running = true := by rcases hnode with h | h <;> rw [h] <;> rfl
  have not_halted : s.env.node ≠ .haltedDuplicate := by
    rcases hnode with h | h <;> rw [show s.env.node = _ from h] <;> decide
  have entry : s.b.quiet.inbound? r.vehicle = some i := hi
  obtain ⟨g, ran, effect⟩ : ∃ g : Env → Blocks → Blocks,
      exec (.entryWatchReport r) s = .next (s.run g) ∧ g s.env s.b.quiet =
        if 1 + s.cl.cfg.rLoaded ≤ s.b.freeSlots ∧ s.b.spurRoom = true then
          s.b.quiet.takeIn s.env r (some i) none none
        else s.b.quiet.refuse s.env r (some i) := by
    refine ⟨_, rfl, ?_⟩
    rw [if_neg (by simp [running]),
      if_neg (by rw [show s.b.quiet.onRoster r.vehicle = false from hnot]; decide), hplace]
    dsimp only
    unfold Blocks.divert
    rw [if_pos (show s.env.node = .ready ∨ s.env.node = .conflict from hnode), entry, Option.any_some,
      if_neg (by simp [Inbound.contradicts, hkind, hcarrier])]
    unfold Blocks.decideDivert
    rw [entry]
    dsimp only
    rw [show (if r.carrier = true then 1 else 1 + s.env.cfg.rLoaded) = 1 + s.cl.cfg.rLoaded from
      if_neg (by simp [hcarrier])]
    unfold Blocks.admitEntry
    rw [hkind]
    rfl
  have absent : s.b.quiet.vehicle? r.vehicle = none := Blocks.onRoster_eq_false.1 hnot
  have number : i.vehicle = r.vehicle := by simpa using List.find?_some hi
  refine ⟨fun hslots hroom => ?_, fun hfull => ?_⟩
  · rw [if_pos ⟨hslots, decide_eq_true hroom⟩] at effect
    obtain ⟨vehicle, others, inbound, zone, si, agenda, counter⟩ := s.b.quiet.takeIn_spec (e := s.env) (r := r)
      (i := i) none none not_halted (show 0 < s.b.quiet.freeSlots by
        have : 0 < s.b.freeSlots := by omega
        exact this) absent
    rw [← effect] at vehicle others inbound zone si agenda counter
    have calls : (g s.env s.b.quiet).agenda = { Agenda.none with call := true } := by
      rw [agenda]
      exact congrArg (fun a : Agenda => { a with call := true }) hs.2.1
    obtain ⟨zc, si'⟩ := Blocks.settle_of_call s.env (g s.env s.b.quiet) s.b (by rw [calls]; rfl)
      (by rw [calls]; rfl) (by rw [calls]; rfl)
    have out := Blocks.settle_of_call_out s.env (g s.env s.b.quiet) s.b (by rw [calls]; rfl)
      (by rw [calls]; rfl) (by rw [calls]; rfl)
    rw [← State.run_rested hs.2] at zc si' out
    have calm := State.run_calm (f := g) hs.2 (by rw [calls]; rfl)
    refine ⟨_, ran, ⟨_, (Blocks.vehicle?_congr zc _).trans vehicle, rfl, rfl, rfl, rfl, rfl, rfl⟩,
      (Blocks.inbound?_congr zc _).trans inbound, ?_, ?_, fun x hx => ?_, si'.trans si⟩
    · rw [out]
      exact zone
    · exact State.raised_of_bump hs.1 ((calm.counter _ (by decide)).trans counter)
    · exact (Blocks.vehicle?_congr zc x).trans (others x hx)
  · rw [if_neg fun h => hfull ⟨h.1, of_decide_eq_true h.2⟩] at effect
    let moved : Inbound := { i with
      recirc := min (i.recirc + 1) 7
      expected := after i.expected (s.b.loopTime s.env * 100)
      late := false }
    let job := recirculateJob r.echo.tag r.echo.dest (some s.cl.cfg.bay.val)
    let b := (s.b.quiet.emitZone (.goto r.vehicle job)).bump .recirculations
    have refused : g s.env s.b.quiet = b.moveInbound moved := effect
    obtain ⟨zc, si, mm, -, out⟩ := State.run_frame (f := g) hs.2 (by
      rw [refused]
      exact hs.2.1)
    have calm := State.run_calm (f := g) hs.2 (by
      rw [refused]
      exact congrArg Agenda.follow hs.2.1)
    rw [refused] at zc si mm out calm
    refine ⟨_, ran, ?_, ?_, ?_, ?_, si, mm⟩
    · rw [zc]
      rfl
    · exact State.raised_of_bump hs.1 (calm.counter .recirculations (by decide))
    · rw [out]
      rfl
    · refine (Blocks.inbound?_congr zc _).trans ?_
      rw [← number]
      refine Blocks.inbound?_addInbound (i := moved) ?_
      show (b.zc.inbound.filter fun x => x.vehicle != i.vehicle).find? (fun x => x.vehicle == i.vehicle) = none
      rw [List.find?_eq_none]
      intro x hx
      simpa using (List.mem_filter.1 hx).2

end Sys2Proof.Machine
end

section
/-! PROOFS. What a REPORT's fields do to the blocks before any transition (R5, R7, R8, R22): the entry of the
vehicle that reports, its segment, flags and counters change, and nothing else. -/
namespace Sys2Proof.Machine

/-- The entry of the vehicle that reports takes the fields of the REPORT; the others stay. -/
def Vehicle.reported (e : Env) (r : Report) (v v' : Vehicle) : Prop :=
  if v.id = r.vehicle then
    v' = { v with
      missed := 0
      lastReport := e.now
      motion := recordedMotion r.motion
      carrier := r.carrier
      carrierId := r.carrierId
      hoist := r.hoist
      level := r.level
      segment := v'.segment
      grant := v'.grant
      blocked := v'.blocked
      capture := v'.capture
      echo := v'.echo
      jobDone := v'.jobDone }
  else v' = v

/-- The entry after steps that judge standstill, capture and echo: all but these fields stay. -/
def Vehicle.judged (v v' : Vehicle) : Prop :=
  v' = { v with
    blocked := v'.blocked
    capture := v'.capture
    echo := v'.echo
    jobDone := v'.jobDone }

/-- A relation of entries that such steps keep, for the vehicle `id`. -/
def KeptBySteps (id : Nat) (R : Vehicle → Vehicle → Prop) : Prop :=
  ∀ v v' w : Vehicle, v'.id = id → R v v' → v'.judged w → R v w

theorem Vehicle.reported.kept (e : Env) (r : Report) : KeptBySteps r.vehicle (Vehicle.reported e r) := by
  intro v v' w hid h hw
  unfold Vehicle.reported at h ⊢
  unfold Vehicle.judged at hw
  by_cases own : v.id = r.vehicle
  · rw [if_pos own] at h ⊢
    rw [hw, h]
  · rw [if_neg own] at h
    rw [h] at hid
    exact absurd hid own

theorem Vehicle.judged.kept (id : Nat) : KeptBySteps id Vehicle.judged := by
  intro v v' w _ h hw
  unfold Vehicle.judged at *
  rw [hw, h]

/-- What the steps that take a REPORT's fields leave alone; the entries are related by `R`. -/
structure Told (R : Vehicle → Vehicle → Prop) (b c : Blocks) : Prop where
  inbound : c.zc.inbound = b.zc.inbound
  si : c.si = b.si
  mm : c.mm = b.mm
  du : c.du = b.du
  pd : c.pd = b.pd
  ti : c.ti = b.ti
  fu : c.fu = b.fu
  station : c.out.station = b.out.station
  service : c.out.service = b.out.service
  agenda : c.agenda = b.agenda
  width : c.sp.counters.length = b.sp.counters.length
  counter : ∀ k : Counter, k.index ≠ Counter.measured.index → k.index ≠ Counter.discarded.index →
    c.counter k = b.counter k
  flag : ∀ f, b.flag f = true → c.flag f = true
  vehicles : List.Forall₂ R b.vehicles c.vehicles

namespace Told
variable {e : Env} {r : Report} {R : Vehicle → Vehicle → Prop} {b c : Blocks}

theorem refl (hR : ∀ v, R v v) : Told R b b where
  inbound := rfl
  si := rfl
  mm := rfl
  du := rfl
  pd := rfl
  ti := rfl
  fu := rfl
  station := rfl
  service := rfl
  agenda := rfl
  width := rfl
  counter _ _ _ := rfl
  flag _ h := h
  vehicles := List.forall₂_same.2 fun v _ => hR v

/-! ### The elementary changes -/

theorem modVehicle {id : Nat} {f : Vehicle → Vehicle} (h : Told R b c)
    (hf : ∀ v v', v'.id = id → R v v' → R v (f v')) : Told R b (c.modVehicle id f) :=
  { h with
    vehicles := by
      rw [Blocks.vehicles_modVehicle, List.forall₂_map_right_iff]
      refine h.vehicles.imp fun v v' hv => ?_
      split
      next own => exact hf v v' (by simpa using own) hv
      next => exact hv }

/-- Changes of the reporting vehicle's entry in the fields that the steps judge. -/
theorem judge {id : Nat} {f : Vehicle → Vehicle} (h : Told R b c) (hR : KeptBySteps id R)
    (hf : ∀ v : Vehicle, v.judged (f v)) : Told R b (c.modVehicle id f) :=
  h.modVehicle fun v v' hid hv => hR v v' (f v') hid hv (hf v')

theorem setFlag {f : Flag} (h : Told R b c) (hf : ∀ k, f ≠ .changed k) : Told R b (c.setFlag f) := by
  cases f with
  | changed k => exact absurd rfl (hf k)
  | _ => exact { h with
      flag := fun g hg => by
        rw [Blocks.flag_setFlag_own hf, h.flag g hg, Bool.or_true] }

theorem bump {k : Counter} (h : Told R b c)
    (hk : k.index = Counter.measured.index ∨ k.index = Counter.discarded.index) :
    Told R b (c.bump k) :=
  { h with
    width := (Blocks.length_counters_bumpBy _ _ _).trans h.width
    counter := fun j h1 h2 => (Blocks.counter_bump_of_ne fun he =>
      hk.elim (fun hk => h1 (he.trans hk)) fun hk => h2 (he.trans hk)).trans (h.counter j h1 h2) }

theorem modSeg {n : Nat} {f : Seg → Seg} (h : Told R b c) : Told R b (c.modSeg n f) := { h with }

theorem emitZone {m : ZoneMsg} (h : Told R b c) : Told R b (c.emitZone m) := { h with }

theorem segmentFault {n : Nat} (h : Told R b c) : Told R b (c.segmentFault n) :=
  (h.setFlag fun _ => by simp).modSeg

/-! ### The steps of a REPORT (R5, R7, R8, R22) -/

theorem takeFields : Told (Vehicle.reported e r) b (b.takeFields e r) where
  inbound := rfl
  si := rfl
  mm := rfl
  du := rfl
  pd := rfl
  ti := rfl
  fu := rfl
  station := rfl
  service := rfl
  agenda := rfl
  width := rfl
  counter _ _ _ := rfl
  flag _ h := h
  vehicles := by
    unfold Blocks.takeFields
    rw [Blocks.vehicles_modVehicle, List.forall₂_map_right_iff]
    refine List.forall₂_same.2 fun v _ => ?_
    unfold Vehicle.reported
    by_cases own : v.id = r.vehicle
    · rw [if_pos own, if_pos (beq_iff_eq.2 own)]
    · rw [if_neg own, if_neg (by simpa using own)]

theorem takePlace {v : Vehicle} (h : Told (Vehicle.reported e r) b c) (hid : v.id = r.vehicle) :
    Told (Vehicle.reported e r) b (c.takePlace e v r) := by
  have placed {f : Vehicle → Vehicle} (hf : ∀ x, f x = { x with
      segment := (f x).segment
      grant := (f x).grant
      blocked := (f x).blocked }) : Told (Vehicle.reported e r) b (c.modVehicle v.id f) := by
    refine h.modVehicle fun u u' hu hr => ?_
    unfold Vehicle.reported at hr ⊢
    by_cases own : u.id = r.vehicle
    · rw [if_pos own] at hr ⊢
      rw [hf u', hr]
    · rw [if_neg own] at hr
      rw [hr] at hu
      exact absurd (hu.trans hid) own
  unfold Blocks.takePlace
  split
  · split
    · exact placed fun _ => by exact rfl
    · split
      · exact h
      · dsimp only
        split
        · exact placed fun _ => by exact rfl
        · exact (placed fun _ => by exact rfl).setFlag fun _ => by simp
  · split
    · exact placed fun _ => by exact rfl
    · exact h

theorem takeBlocked (h : Told R b c) (hR : KeptBySteps r.vehicle R) : Told R b (c.takeBlocked r) := by
  unfold Blocks.takeBlocked
  split
  · exact h.judge hR fun _ => by exact rfl
  · dsimp only
    split
    · exact h.modSeg.setFlag fun _ => by simp
    · exact ((h.modSeg.setFlag fun _ => by simp).segmentFault).judge hR fun _ => by exact rfl
  · exact h

theorem measure {n ms : Nat} (h : Told R b c) : Told R b (c.measure n ms) := by
  have counted := h.bump (k := .measured) (.inl rfl)
  unfold Blocks.measure
  dsimp only
  split
  · exact counted
  · split
    · split
      · exact counted.modSeg.modSeg.segmentFault
      · exact counted.modSeg.modSeg
    · exact counted.modSeg.modSeg

theorem capture {id : Nat} {prev : Option Capture} {m : Marker} (h : Told R b c) (hR : KeptBySteps id R) :
    Told R b (c.capture e id prev m) := by
  unfold Blocks.capture
  dsimp only
  refine Told.judge ?_ hR fun _ => by exact rfl
  split
  · split
    · split
      · refine Told.bump ?_ (.inr rfl)
        exact { h with }
      · exact h.measure
    · exact h
  · exact h

theorem takeCapture {v : Vehicle} (h : Told R b c) (hR : KeptBySteps v.id R) :
    Told R b (c.takeCapture e v r) := by
  unfold Blocks.takeCapture
  dsimp only
  split
  · exact h.capture hR
  · exact h.judge hR fun _ => by exact rfl

theorem resend {id : Nat} {j : Job} {n : EchoCount} (h : Told R b c) (hR : KeptBySteps id R) :
    Told R b (c.resend id j n) := (h.judge hR fun _ => by exact rfl).emitZone

theorem takeEcho (h : Told R b c) (hR : KeptBySteps r.vehicle R) : Told R b (c.takeEcho r) := by
  unfold Blocks.takeEcho
  split
  · exact h
  next v hv =>
    have own : KeptBySteps v.id R := by
      rw [(Blocks.vehicle?_mem _ hv).2]
      exact hR
    split
    · exact h
    · split
      · exact h.judge own fun _ => by exact rfl
      · exact h.resend own
    · split
      · exact h.judge own fun _ => by exact rfl
      · split
        · exact h.judge own fun _ => by exact rfl
        · split
          · exact h.resend own
          · exact (h.setFlag fun _ => by simp).resend own

/-! ### What is read off -/

theorem vehicle?_some (h : Told R b c) (hid : ∀ x y : Vehicle, R x y → y.id = x.id) {id : Nat} {v : Vehicle}
    (hv : b.vehicle? id = some v) : ∃ y, c.vehicle? id = some y ∧ R v y := by
  rcases find?_of_forall₂ (p := fun x : Vehicle => x.id == id) h.vehicles
    fun x y hxy => by rw [hid x y hxy] with ⟨hn, -⟩ | ⟨u, y, hu, hy, hr⟩
  · rw [show b.vehicles.find? _ = some v from hv] at hn
    cases hn
  · rw [show b.vehicles.find? _ = some v from hv] at hu
    cases hu
    exact ⟨y, hy, hr⟩

end Told

theorem Vehicle.reported.id {e : Env} {r : Report} {v v' : Vehicle} (h : v.reported e r v') :
    v'.id = v.id := by
  unfold Vehicle.reported at h
  split at h
  · rw [h]
  · rw [h]

/-- The blocks when the steps that judge a REPORT's standstill, capture and echo are to come (R7). -/
def Blocks.placedBy (e : Env) (v : Vehicle) (r : Report) (b : Blocks) : Blocks :=
  (b.takeFields e r).takePlace e v r

/-- The fields of a REPORT are taken, before what befalls a recovery watch (R7). -/
def Blocks.heardFields (e : Env) (v : Vehicle) (r : Report) (b : Blocks) : Blocks :=
  (((b.placedBy e v r).takeBlocked r).takeCapture e v r).takeEcho r

theorem Blocks.told_heardFields {e : Env} {v : Vehicle} {r : Report} {b : Blocks} (hid : v.id = r.vehicle) :
    Told (Vehicle.reported e r) b (b.heardFields e v r) := by
  have kept := Vehicle.reported.kept e r
  exact (((Told.takeFields.takePlace hid).takeBlocked kept).takeCapture (by rw [hid]; exact kept)).takeEcho kept

/-- An entry that is not marked RELEARN takes its fields so (R7). -/
theorem Blocks.takeReport_eq {e : Env} {v : Vehicle} {r : Report} {b : Blocks} (h : v.relearn = false) :
    b.takeReport e v r =
      let c := if r.level = .none then (b.heardFields e v r).watchVehicle v.id else b.heardFields e v r
      if r.level = .minor then c.setFlag .vehicle else c := by
  unfold takeReport heardFields placedBy
  rw [h]
  rfl

/-- The entry of a vehicle that reports from segment `n` (R7). -/
theorem Blocks.heardFields_entry {e : Env} {v : Vehicle} {r : Report} {b : Blocks} {n : Nat}
    (hv : b.vehicle? r.vehicle = some v) (hr : v.relearn = false) (hp : r.place = .segment n) :
    ∃ y, (b.heardFields e v r).vehicle? r.vehicle = some y ∧ v.reported e r y ∧ y.segment = n := by
  have hid : v.id = r.vehicle := (vehicle?_mem _ hv).2
  obtain ⟨y, hy, reported⟩ := (told_heardFields (e := e) (b := b) hid).vehicle?_some
    (fun _ _ h => h.id) hv
  refine ⟨y, hy, reported, ?_⟩
  let told : Vehicle → Vehicle := fun x =>
    { x with
      missed := 0
      lastReport := e.now
      motion := recordedMotion r.motion
      carrier := r.carrier
      carrierId := r.carrierId
      hoist := r.hoist
      level := r.level }
  have fields : (b.takeFields e r).vehicle? r.vehicle = some (told v) := by
    unfold takeFields
    rw [b.vehicle?_modVehicle r.vehicle told fun _ => rfl, hv]
    rfl
  obtain ⟨u, hu, segment⟩ : ∃ u, (b.placedBy e v r).vehicle? r.vehicle = some u ∧ u.segment = n := by
    unfold placedBy takePlace
    rw [hp]
    dsimp only
    rw [if_neg (by simp [hr])]
    split
    next same => exact ⟨told v, fields, same.symm⟩
    next =>
      let moved : Vehicle → Vehicle := fun x => { x with segment := n, grant := none, blocked := none }
      have placed : ((b.takeFields e r).modVehicle v.id moved).vehicle? r.vehicle = some (moved (told v)) := by
        rw [hid, (b.takeFields e r).vehicle?_modVehicle r.vehicle moved fun _ => rfl, fields]
        rfl
      refine ⟨moved (told v), ?_, rfl⟩
      split
      · exact placed
      · exact placed
  have kept := Vehicle.judged.kept r.vehicle
  have judged : Told Vehicle.judged (b.placedBy e v r) (b.heardFields e v r) :=
    (((Told.refl (R := Vehicle.judged) fun _ => by exact rfl).takeBlocked kept).takeCapture
      (by rw [hid]; exact kept)).takeEcho kept
  obtain ⟨z, hz, same⟩ := judged.vehicle?_some (fun _ _ h => by rw [h]) hu
  rw [hy] at hz
  cases hz
  rw [same]
  exact segment

end Sys2Proof.Machine
end

section
/-! PROOFS. The consignment wait of the home bay (R57, R120, R121): its two phases, the CONSIGN that is sent
again, and the departure at the merge marker that ends it. -/
namespace Sys2Proof.Machine

/-- The record when a CONSIGN has been sent for it under the consign id `id` (R120). -/
def Move.awaiting (e : Env) (id : Id8) (m : Move) : Move :=
  { m with
    consignId := some id
    wait := some { retry := false, deadline := after e.now (e.cfg.wAccept * 100) } }

/-- A CONSIGN to an owner that is there, none queued for the move, is sent under the record's own consign id,
or under a fresh one (R120). -/
theorem Blocks.consignSend_eq {e : Env} {b : Blocks} {m : Move} {v : Vehicle} {k : Nat} (fresh : Bool)
    (hn : e.node.halted = false) (hm : b.move? m.tag = some m) (ho : b.owner e m.dest = some k)
    (hv : m.vehicle.bind b.vehicle? = some v) (hp : (b.peer k).presence ≠ .absent)
    (hq : b.consignQueued m.tag = false) :
    ∃ id n, (fresh = false → ∀ i, m.consignId = some i → id = i ∧ n = b.mm.consignCounter) ∧
      b.consignSend e m.tag fresh =
        ((({ b with mm := { b.mm with consignCounter := n } } : Blocks).modMove m.tag
            (Move.awaiting e id)).place e
          ⟨some k, .consign id v.id m.tag m.dest m.cls m.carrierId (b.exitEta e v)⟩).bump
          .consignSent := by
  have there : b.ownerGone e m.dest = false := by
    unfold ownerGone
    rw [ho]
    simp [hp]
  have queued (c : Blocks) (hc : c.ti = b.ti) : ¬ c.consignQueued m.tag = true := by
    unfold consignQueued at hq ⊢
    rw [hc, hq]
    nofun
  unfold consignSend
  rw [if_neg (by rw [hn]; nofun), hm]
  dsimp only
  rw [ho, hv]
  dsimp only
  rw [if_neg (by rw [there]; nofun)]
  by_cases drawn : (fresh || m.consignId.isNone) = true
  · refine ⟨b.nextConsign, b.nextConsign + 1, fun hf i hi => ?_, ?_⟩
    · rw [hf, hi] at drawn
      cases drawn
    · rw [if_pos drawn, if_pos drawn]
      exact if_neg (queued _ (by exact rfl))
  · refine ⟨m.consignId.getD 0, b.mm.consignCounter, fun _ i hi => ⟨by rw [hi]; rfl, rfl⟩, ?_⟩
    rw [if_neg drawn, if_neg drawn]
    exact if_neg (queued _ (by exact rfl))

/-- A deadline of the wait that has passed is due (R121). -/
theorem Blocks.waitDue_eq {e : Env} {b : Blocks} {tag : Tag} {m : Move} {retry : Bool} {d : Time}
    (hm : b.move? tag = some m) (hc : m.state = .carrying)
    (hw : m.wait = some { retry := retry, deadline := d }) (hd : passed e.now d 0 = true) :
    b.waitDue e tag retry = true := by
  unfold waitDue
  rw [hm]
  simp [hc, hw, hd]

/-- The end of AWAITING without an answer (R121). -/
theorem State.acceptDeadline_retries {s : State} {m : Move} {d : Time} (hr : s.rested)
    (hm : s.b.move? m.tag = some m) (hc : m.state = .carrying) (hd : passed s.now d 0 = true)
    (hq : s.b.consignQueued m.tag = false) (hw : m.wait = some { retry := false, deadline := d }) :
    Answers (.acceptDeadline m.tag) s fun t =>
      t.b.move? m.tag = some { m with
        wait := some { retry := true, deadline := after s.now (s.cl.cfg.wRetry * 1000) } } ∧
      t.b.counter .busy = s.b.counter .busy ∧ t.b.zc = s.b.zc ∧ t.b.si = s.b.si ∧
      SameBooks s.b t.b := by
  let retried : Move → Move := fun x =>
    { x with wait := some { retry := true, deadline := after s.now (s.cl.cfg.wRetry * 1000) } }
  let g : Env → Blocks → Blocks := fun e b =>
    if b.waitDue e m.tag false then
      if b.consignQueued m.tag then b.startWait e m.tag false else b.startWait e m.tag true
    else b
  have ran : exec (.acceptDeadline m.tag) s = .next (s.run g) := rfl
  have effect : g s.env s.b.quiet = s.b.quiet.modMove m.tag retried := by
    show (if _ then _ else _) = _
    rw [if_pos (Blocks.waitDue_eq (e := s.env) (b := s.b.quiet) hm hc hw hd),
      if_neg (by rw [show s.b.quiet.consignQueued m.tag = false from hq]; nofun)]
    rfl
  have rest : (g s.env s.b.quiet).agenda = Agenda.none := by
    rw [effect]
    exact hr.1
  have calm := State.run_calm (f := g) hr (by rw [rest]; rfl)
  obtain ⟨zc, si, mm, du, -⟩ := State.run_frame (f := g) hr rest
  rw [effect] at zc si mm du calm
  refine ⟨_, ran, ?_, ?_, zc, si, Blocks.sameBooks_of_starve du⟩
  · rw [Blocks.move?_congr mm, Blocks.move?_modMove _ m.tag retried fun _ => by exact rfl,
      show s.b.quiet.move? m.tag = some m from hm]
    rfl
  · exact calm.counter _ (by decide)

/-- The end of RETRY sends the CONSIGN again (R121). -/
theorem State.retryDeadline_sends {s : State} {m : Move} {d : Time} {id : Id8} {v : Vehicle} {k : Nat}
    (hs : s.WellSized) (hm : s.b.move? m.tag = some m) (hc : m.state = .carrying)
    (hd : passed s.now d 0 = true) (hq : s.b.consignQueued m.tag = false)
    (hw : m.wait = some { retry := true, deadline := d }) (ha : s.cl.node.active = true)
    (hroom : s.roomFor 1) (hid : m.consignId = some id) (hv : m.vehicle.bind s.b.vehicle? = some v)
    (ho : s.b.owner s.env m.dest = some k) (hp : (s.b.peer k).presence ≠ .absent) :
    Answers (.retryDeadline m.tag) s fun t =>
      t.queued
        ⟨some k, .consign id v.id m.tag m.dest m.cls m.carrierId (s.b.exitEta s.env v)⟩ ∧
      t.b.move? m.tag = some { m with
        wait := some { retry := false, deadline := after s.now (s.cl.cfg.wAccept * 100) } } ∧
      Raised .consignSent s t ∧ t.b.zc = s.b.zc ∧ t.b.si = s.b.si ∧ SameBooks s.b t.b := by
  let g : Env → Blocks → Blocks := fun e b =>
    if b.waitDue e m.tag true then
      if b.consignQueued m.tag then b.startWait e m.tag true else b.consignSend e m.tag false
    else b
  have ran : exec (.retryDeadline m.tag) s = .next (s.run g) := rfl
  have active : s.env.node.active = true := ha
  have not_halted : s.env.node.halted = false := (NodeState.sends_of_active active).1
  obtain ⟨i, n, own_id, sent⟩ := Blocks.consignSend_eq (b := s.b.quiet) (k := k) (v := v) false not_halted hm
    ho hv hp hq
  obtain ⟨rfl, rfl⟩ := own_id rfl id hid
  let r : Record := ⟨some k, .consign i v.id m.tag m.dest m.cls m.carrierId (s.b.exitEta s.env v)⟩
  let c := s.b.quiet.modMove m.tag (Move.awaiting s.env i)
  have effect : g s.env s.b.quiet = (c.place s.env r).bump .consignSent := by
    show (if _ then _ else _) = _
    rw [if_pos (Blocks.waitDue_eq (e := s.env) (b := s.b.quiet) hm hc hw hd),
      if_neg (by rw [show s.b.quiet.consignQueued m.tag = false from hq]; nofun), sent]
    rfl
  obtain ⟨zc_c, si_c, mm_c, du_c, -, -, -, agenda_c, -⟩ := c.place_frame s.env r
  have rest : (g s.env s.b.quiet).agenda = Agenda.none := by
    rw [effect]
    exact agenda_c.trans hs.2.1
  have calm := State.run_calm (f := g) hs.2 (by rw [rest]; rfl)
  obtain ⟨zc, si, mm, du, -⟩ := State.run_frame (f := g) hs.2 rest
  rw [effect] at calm zc si mm du
  have count_lt : c.ti.count < Config.queueSize := by
    have : s.b.ti.count + 1 ≤ Config.queueSize := hroom
    exact this
  refine ⟨_, ran, calm.queue r (c.mem_place s.env (r := r) active count_lt) rfl, ?_, ?_, zc.trans zc_c,
    si.trans si_c, ?_⟩
  · rw [Blocks.move?_congr (mm.trans mm_c),
      Blocks.move?_modMove _ m.tag (Move.awaiting s.env i) fun _ => by exact rfl,
        show s.b.quiet.move? m.tag = some m from hm]
    unfold Move.awaiting
    rw [← hid]
    rfl
  · exact calm.raised hs.1 (by decide) (Blocks.counter_place r (by decide))
      (c.counters_length_place s.env r)
  · refine Blocks.sameBooks_of_starve (x := (s.run g).b.du.starve) (du.trans ?_)
    rw [show ((c.place s.env r).bump .consignSent).du = _ from du_c]
    rfl

/-! ### Leaving at the merge marker (R12, R57) -/

/-- What taking a REPORT leaves alone, whatever befalls a recovery watch. -/
theorem Blocks.takeReport_frame {e : Env} {v : Vehicle} {r : Report} {b : Blocks} (h : v.relearn = false) :
    (b.takeReport e v r).zc = (b.heardFields e v r).zc ∧ (b.takeReport e v r).si = (b.heardFields e v r).si ∧
      (b.takeReport e v r).mm = (b.heardFields e v r).mm ∧
      (b.takeReport e v r).agenda.follow = (b.heardFields e v r).agenda.follow := by
  obtain ⟨zc, si, mm, -, -, -, -, -, follow⟩ := (b.heardFields e v r).watchVehicle_frame v.id
  rw [takeReport_eq h]
  dsimp only
  split
  · split
    · exact ⟨zc, si, mm, follow⟩
    · exact ⟨rfl, rfl, rfl, rfl⟩
  · split
    · exact ⟨zc, si, mm, follow⟩
    · exact ⟨rfl, rfl, rfl, rfl⟩

/-- With its vehicle off the roster a REPORT does nothing more (R12 to R19). -/
theorem Blocks.transitions_of_left {e : Env} {b c : Blocks} {r : Report} {read : Option CarrierId}
    (ht : b.travelStep e r = c) (hc : c.vehicle? r.vehicle = none) :
    b.transitions e r read = c := by
  have load : c.loadStep e r = c := by
    unfold loadStep
    rw [hc]
  have unload : c.unloadStep e r read = c := by
    unfold unloadStep
    rw [hc]
  have stray : c.strayStep e r = c := by
    unfold strayStep
    rw [hc]
  have major : c.majorStep e r = c := by
    unfold majorStep
    rw [hc]
  have cleared : c.clearStep e r = c := by
    unfold clearStep
    rw [hc]
  have park : c.parkStep e r = c := by
    unfold parkStep
    rw [hc]
  unfold transitions
  rw [ht, load, unload]
  dsimp only
  rw [stray, major]
  split
  · exact cleared
  · exact park

/-- The vehicle of a CARRYING move leaves with exit clearance, for another bay (R12, R57). -/
theorem Blocks.leave_consigns {e : Env} {b : Blocks} {v : Vehicle} {m : Move} (hs : v.state = .toExit)
    (hc : v.clearance = true) (hb : v.bound = some m.tag) (hown : m.tag.home = e.cfg.bay.val)
    (hm : b.move? m.tag = some m) (hm' : m.state = .carrying)
    (hj : (v.job.any fun j => j.target == .recirculate) = false) :
    b.leave e v = (b.removeVehicle v.id).modMove m.tag fun x =>
      { x with state := .consigned, wait := none } := by
  unfold leave
  rw [if_pos ⟨hs, hc⟩]
  have found : (v.bound.filter e.ownTag).bind (b.removeVehicle v.id).move? = some m := by
    rw [hb, Option.filter_some, if_pos (by simp [Env.ownTag, hown])]
    exact (move?_congr (b.removeVehicle_spec v.id).2.2.2.2.1 _).trans hm
  dsimp only
  rw [found]
  dsimp only
  rw [if_pos hm', hj]
  rfl

theorem State.report_consigns {s : State} {r : Report} {v : Vehicle} {m : Move} (hr : s.rested)
    (hm : s.b.move? m.tag = some m) (hc : m.state = .carrying) (hrun : s.cl.node.running = true)
    (hown : m.tag.home = s.cl.cfg.bay.val) (hv : s.b.vehicle? r.vehicle = some v) (hst : v.state = .toExit)
    (hcl : v.clearance = true) (hrel : v.relearn = false) (hb : v.bound = some m.tag) (hp : r.place = .merged)
    (hj : (v.job.any fun j => j.target == .recirculate) = false) :
    Answers (.report r []) s fun t =>
      t.b.onRoster r.vehicle = false ∧
      t.b.move? m.tag = some { m with state := .consigned, wait := none } ∧
      t.b.zc.inbound = s.b.zc.inbound ∧ t.b.si.stations = s.b.si.stations := by
  let g : Env → Blocks → Blocks := fun e b => if e.node.running then b.report e r else b
  have ran : exec (.report r []) s = .next (s.run g) :=
    congrArg Host.Outcome.next (State.runFailing_nil _ g s)
  have hid : v.id = r.vehicle := (Blocks.vehicle?_mem _ hv).2
  let a := s.b.quiet.heardFields s.env v r
  let d := s.b.quiet.takeReport s.env v r
  let left := (d.removeVehicle v.id).modMove m.tag fun x => { x with state := .consigned, wait := none }
  have told : Told (Vehicle.reported s.env r) s.b.quiet a := Blocks.told_heardFields hid
  obtain ⟨zc_d, si_d, mm_d, follow_d⟩ := Blocks.takeReport_frame (e := s.env) (b := s.b.quiet) (r := r) hrel
  obtain ⟨y, hy, reported⟩ := told.vehicle?_some (fun _ _ h => h.id) hv
  have y_eq := reported
  unfold Vehicle.reported at y_eq
  rw [if_pos hid] at y_eq
  have hd : d.vehicle? r.vehicle = some y := (Blocks.vehicle?_congr zc_d _).trans hy
  have hm_d : d.move? m.tag = some m := (Blocks.move?_congr (mm_d.trans told.mm) _).trans hm
  have y_state : y.state = .toExit := by
    rw [y_eq]
    exact hst
  have y_id : y.id = v.id := reported.id
  have leaves : d.leave s.env y = left := by
    refine (Blocks.leave_consigns (m := m) y_state ?_ ?_ hown hm_d hc ?_).trans (by rw [y_id])
    · rw [y_eq]
      exact hcl
    · rw [y_eq]
      exact hb
    · rw [y_eq]
      exact hj
  have travels : d.travelStep s.env r = left := by
    have not_refused : refusedEntry r y = false := by
      unfold refusedEntry
      rw [hp, y_state]
      simp
    unfold Blocks.travelStep
    rw [hd]
    dsimp only
    rw [if_neg (by rw [not_refused]; nofun), hp]
    exact leaves
  obtain ⟨gone, -, inbound, -, mm, si, follow, -⟩ := d.removeVehicle_spec v.id
  have left_gone : left.vehicle? r.vehicle = none := by
    rw [← hid]
    exact gone
  have effect : g s.env s.b.quiet = left := by
    show (if _ then _ else _) = _
    rw [if_pos (show s.env.node.running = true from hrun)]
    unfold Blocks.report placed
    rw [show s.b.quiet.vehicle? r.vehicle = some v from hv, hp]
    dsimp only
    rw [if_neg (by nofun), if_neg (fun h => by rw [hst] at h; exact nomatch h.1)]
    exact Blocks.transitions_of_left travels left_gone
  have calm := State.run_calm (f := g) hr (by
    rw [effect]
    exact follow.trans (follow_d.trans (congrArg Agenda.follow (told.agenda.trans hr.1))))
  rw [effect] at calm
  have consigned : left.move? m.tag = some { m with state := .consigned, wait := none } := by
    refine (Blocks.move?_modMove _ m.tag _ fun _ => by exact rfl).trans ?_
    rw [Blocks.move?_congr mm, hm_d]
    rfl
  refine ⟨_, ran, ?_, ?_, ?_, ?_⟩
  · rw [calm.onRoster, Blocks.onRoster_eq_false]
    exact left_gone
  · refine (calm.move?_eq fun n hn ht => ?_).trans consigned
    have written : n ∈ (d.removeVehicle v.id).moveList.map fun x =>
        if x.tag == m.tag then { x with state := .consigned, wait := none } else x := by
      rw [← Blocks.moveList_modMove]
      exact hn
    obtain ⟨x, -, rfl⟩ := List.mem_map.1 written
    split
    · simp [Move.candidate]
    next other =>
      rw [if_neg other] at ht
      exact absurd (beq_iff_eq.2 ht) other
  · rw [calm.inbound]
    exact inbound.trans ((congrArg ZC.inbound zc_d).trans told.inbound)
  · rw [calm.si]
    exact (congrArg SI.stations si).trans ((congrArg SI.stations si_d).trans (congrArg SI.stations told.si))

/-- Settles O46. Each phase of the wait is one change of the record; the departure frees the entry before the
record becomes CONSIGNED, and neither is an occasion for a follow-on. -/
theorem consignmentWaitRetries : Obligations.ConsignmentWaitRetries := by
  intro s tag m hs hm hc
  obtain rfl : m.tag = tag := (Blocks.move?_mem _ hm).2
  exact ⟨fun d hd hq hw => State.acceptDeadline_retries hs.2 hm hc hd hq hw,
    fun d id v k hd hq hw ha hroom hid hv ho hp =>
      State.retryDeadline_sends hs hm hc hd hq hw ha hroom hid hv ho hp,
    fun r v hrun hown hv hst hcl hrel hb hp _ hj =>
      State.report_consigns hs.2 hm hc hrun hown hv hst hcl hrel hb hp hj⟩

end Sys2Proof.Machine
end

section
/-! PROOFS. A vehicle that is SILENT or FAULTED lies still: whatever a fault does to the moves, the wait queue and
the other vehicles, its entry gets no job and keeps its state (R16, R17, R36). `Lies` follows one entry through
these operations. -/
namespace Sys2Proof.Machine

/-- SILENT or FAULTED: the states in which a vehicle is given nothing to do. -/
def Vehicle.down (v : Vehicle) : Prop := v.state = .silent ∨ v.state = .faulted

/-- The entry of vehicle `id` satisfies `P`, and every entry of that id is down. -/
structure Lies (id : Nat) (P : Vehicle → Prop) (b : Blocks) : Prop where
  entry : ∃ v, b.vehicle? id = some v ∧ P v
  down : ∀ v ∈ b.vehicles, v.id = id → v.down

/-- What a fault may take from a vehicle that is down: binding, arrival details, clearance, reservation. -/
def Vehicle.slack (v v' : Vehicle) : Prop :=
  (v'.bound = v.bound ∨ v'.bound = none) ∧ (v'.clearance = v.clearance ∨ v'.clearance = false) ∧
    v' = { v with bound := v'.bound, arrival := v'.arrival, clearance := v'.clearance
                  reserved := v'.reserved }

/-- A property that these losses leave. -/
def KeptBySlack (P : Vehicle → Prop) : Prop := ∀ v v' : Vehicle, P v → v.slack v' → P v'

theorem Vehicle.slack.refl (v : Vehicle) : v.slack v := ⟨.inl rfl, .inl rfl, rfl⟩

theorem Vehicle.slack.kept (v : Vehicle) : KeptBySlack v.slack := by
  intro w u hw hu
  obtain ⟨bound, clearance, eq⟩ := hw
  obtain ⟨bound', clearance', eq'⟩ := hu
  refine ⟨?_, ?_, ?_⟩
  · rcases bound' with h | h
    · rw [h]
      exact bound
    · exact .inr h
  · rcases clearance' with h | h
    · rw [h]
      exact clearance
    · exact .inr h
  · rw [eq', eq]

namespace Lies
variable {id : Nat} {P Q : Vehicle → Prop} {e : Env} {b c : Blocks}

theorem mono (h : Lies id P b) (hPQ : ∀ v, P v → Q v) : Lies id Q b where
  entry := h.entry.imp fun _ hv => ⟨hv.1, hPQ _ hv.2⟩
  down := h.down

/-! ### The elementary changes -/

theorem of_roster (h : Lies id P b) (hc : c.zc.roster = b.zc.roster) : Lies id P c := by
  have vehicles : c.vehicles = b.vehicles := congrArg live hc
  refine ⟨?_, ?_⟩
  · unfold Blocks.vehicle?
    rw [vehicles]
    exact h.entry
  · rw [vehicles]
    exact h.down

theorem of_zc (h : Lies id P b) (hc : c.zc = b.zc) : Lies id P c := h.of_roster (congrArg ZC.roster hc)

/-- A change of the entry itself that leaves the vehicle down. -/
theorem modVehicle {x : Nat} {f : Vehicle → Vehicle} (h : Lies id P b) (hid : ∀ v : Vehicle, (f v).id = v.id)
    (hf : ∀ v : Vehicle, v.down → (f v).down) (hQ : ∀ v : Vehicle, v.down → P v → Q (f v)) (hx : x = id) :
    Lies id Q (b.modVehicle x f) := by
  subst hx
  refine ⟨?_, fun v hv hv_id => ?_⟩
  · obtain ⟨v, hv, hP⟩ := h.entry
    have mem := b.vehicle?_mem hv
    refine ⟨f v, ?_, hQ v (h.down v mem.1 mem.2) hP⟩
    rw [b.vehicle?_modVehicle x f hid, hv]
    rfl
  · rw [Blocks.vehicles_modVehicle] at hv
    obtain ⟨w, hw, rfl⟩ := List.mem_map.1 hv
    split at hv_id
    next own =>
      rw [if_pos own]
      exact hf w (h.down w hw (by simpa using own))
    next other =>
      rw [if_neg other]
      exact h.down w hw hv_id

/-- A change of another vehicle's entry. -/
theorem modVehicle_of_ne {x : Nat} {f : Vehicle → Vehicle} (h : Lies id P b)
    (hid : ∀ v : Vehicle, (f v).id = v.id) (hx : x ≠ id) : Lies id P (b.modVehicle x f) := by
  refine ⟨?_, fun v hv hv_id => ?_⟩
  · rw [b.vehicle?_modVehicle_of_ne f hid hx.symm]
    exact h.entry
  · rw [Blocks.vehicles_modVehicle] at hv
    obtain ⟨w, hw, rfl⟩ := List.mem_map.1 hv
    split at hv_id
    next own => exact absurd ((beq_iff_eq.1 own).symm.trans ((hid w).symm.trans hv_id)) hx
    next other =>
      rw [if_neg other]
      exact h.down w hw hv_id

/-- A change that takes what a fault may take, whichever entry it is. -/
theorem slacken {x : Nat} {f : Vehicle → Vehicle} (h : Lies id P b) (hP : KeptBySlack P)
    (hid : ∀ v : Vehicle, (f v).id = v.id) (hf : ∀ v : Vehicle, v.down → v.slack (f v)) :
    Lies id P (b.modVehicle x f) := by
  by_cases hx : x = id
  · refine h.modVehicle hid (fun v hv => ?_) (fun v hv hPv => hP v _ hPv (hf v hv)) hx
    unfold Vehicle.down
    rw [(hf v hv).2.2]
    exact hv
  · exact h.modVehicle_of_ne hid hx

theorem releaseBids {p : BidEntry → Bool} (h : Lies id P b) (hP : ∀ v, P v → P { v with reserved := false }) :
    Lies id P (b.releaseBids p) := by
  have vehicles := b.vehicles_releaseBids p
  have keeps (v : Vehicle) : (v.unreserve (b.du.bids.filter p)).id = v.id ∧
      (v.unreserve (b.du.bids.filter p)).state = v.state ∧ (P v → P (v.unreserve (b.du.bids.filter p))) := by
    unfold Vehicle.unreserve
    split
    · exact ⟨rfl, rfl, hP v⟩
    · exact ⟨rfl, rfl, fun h => h⟩
  refine ⟨?_, fun v hv hid => ?_⟩
  · obtain ⟨v, hv, hPv⟩ := h.entry
    refine ⟨v.unreserve (b.du.bids.filter p), ?_, (keeps v).2.2 hPv⟩
    unfold Blocks.vehicle?
    rw [vehicles, find?_map_id fun w => (keeps w).1]
    exact congrArg (Option.map _) hv
  · rw [vehicles] at hv
    obtain ⟨w, hw, rfl⟩ := List.mem_map.1 hv
    unfold Vehicle.down
    rw [(keeps w).2.1]
    exact h.down w hw ((keeps w).1.symm.trans hid)

theorem foldl {α : Type} {l : List α} {f : Blocks → α → Blocks} (h : Lies id P b)
    (hf : ∀ c a, Lies id P c → Lies id P (f c a)) : Lies id P (l.foldl f b) := by
  induction l generalizing b with
  | nil => exact h
  | cons a l ih => exact ih (hf b a h)

/-- The change that puts every entry of the id down. -/
theorem of_modVehicle {f : Vehicle → Vehicle} {v : Vehicle} (hv : b.vehicle? id = some v)
    (hid : ∀ v : Vehicle, (f v).id = v.id) (hf : ∀ v : Vehicle, (f v).down) :
    Lies id (fun x => x = f v) (b.modVehicle id f) := by
  refine ⟨⟨f v, ?_, rfl⟩, fun x hx hx_id => ?_⟩
  · rw [b.vehicle?_modVehicle id f hid, hv]
    rfl
  · rw [Blocks.vehicles_modVehicle] at hx
    obtain ⟨w, -, rfl⟩ := List.mem_map.1 hx
    split at hx_id
    next own =>
      rw [if_pos own]
      exact hf w
    next other => exact absurd (beq_iff_eq.2 hx_id) other

/-- No pass touches the entry of a vehicle that is down. -/
theorem calm (h : Lies id P b) (hc : Calm e b c) : ∃ x, c.vehicle? id = some x ∧ P x := by
  rw [hc.vehicle?_eq fun w hw hid => ?_]
  · exact h.entry
  · rcases h.down w hw hid with down | down <;> exact ⟨by rw [down]; nofun, by simp [Vehicle.free, down]⟩

/-! ### The operations of a fault (R32, R36, R53, R101, R126) -/

theorem leaveQueue {x : Nat} (h : Lies id P b) : Lies id P (b.leaveQueue x) := h.of_roster rfl

theorem sendGoto {x : Nat} {j : Job} (h : Lies id P b) (hx : x ≠ id) : Lies id P (b.sendGoto e x j) := by
  have sent : Lies id P ((b.modVehicle x (Vehicle.commanded j)).emitZone (.goto x j)) :=
    (h.modVehicle_of_ne (fun _ => by exact rfl) hx).of_roster rfl
  rcases Blocks.sendGoto_cases (e := e) (b := b) x j with ⟨-, hc⟩ | ⟨-, d, rfl, hc | hc⟩
  · rw [hc]
    exact h
  · rw [hc]
    exact sent
  · rw [hc]
    exact sent.of_roster rfl

theorem setReservation {n : Nat} {tag : Option Tag} (h : Lies id P b) : Lies id P (b.setReservation n tag) :=
  h.of_zc (b.setReservation_zc n tag)

theorem giveStation {x n : Nat} {j : Job} (h : Lies id P b) (hx : x ≠ id) :
    Lies id P (b.giveStation e x n j) :=
  ((h.leaveQueue.setReservation.sendGoto hx).modVehicle_of_ne (fun _ => by exact rfl) hx).modVehicle_of_ne
    (fun _ => by exact rfl) hx

/-- A vehicle that is down is no waiter, so a shelf is offered to another (R36). -/
theorem offerShelf {n : Nat} (h : Lies id P b) : Lies id P (b.offerShelf e n) := by
  unfold Blocks.offerShelf
  split
  · exact h
  · split
    · split
      next x j waiter =>
        refine h.giveStation fun hx => ?_
        obtain ⟨y, -, hy⟩ := List.exists_of_findSome?_eq_some waiter
        split at hy
        · cases hy
        next w hw =>
          split at hy
          next waits =>
            obtain ⟨k, -, hk⟩ := Option.map_eq_some_iff.1 hy
            cases hk
            have mem := b.vehicle?_mem hw
            rcases h.down w mem.1 (mem.2.trans hx) with down | down <;>
              exact nomatch down.symm.trans waits.1
          · cases hy
      · exact h
    · exact h

theorem dropReservation {n : Nat} (h : Lies id P b) : Lies id P (b.dropReservation e n) :=
  Lies.offerShelf (h.of_roster rfl)

theorem dropDelivery {tag : Tag} (h : Lies id P b) : Lies id P (b.dropDelivery e tag) :=
  h.foldl fun _ _ h => h.dropReservation

theorem unbind {x : Nat} (h : Lies id P b) (hP : KeptBySlack P) : Lies id P (b.unbind x) :=
  h.slacken hP (fun _ => by exact rfl) fun _ _ => ⟨.inr rfl, .inl rfl, rfl⟩

theorem holdForFloor {x : Nat} (h : Lies id P b) (hP : KeptBySlack P) : Lies id P (b.holdForFloor x) := by
  refine h.leaveQueue.slacken hP (fun _ => by exact rfl) fun v hv => ⟨.inl rfl, .inr rfl, ?_⟩
  rcases hv with down | down <;> simp [down]

theorem enterWaiting {tag : Tag} {again : Bool} (h : Lies id P b) : Lies id P (b.enterWaiting e tag again) :=
  h.of_zc (b.enterWaiting_frame e tag again).1

theorem modMove {tag : Tag} {f : Move → Move} (h : Lies id P b) : Lies id P (b.modMove tag f) := h.of_roster rfl

theorem sendDone {tag : Tag} {x : Nat} {o : DoneOutcome} (h : Lies id P b) :
    Lies id P (b.sendDone e tag x o) := by
  unfold Blocks.sendDone
  split
  · exact h
  · exact h.of_zc (b.place_zc e _)

theorem strand {tag : Tag} (h : Lies id P b) (hP : KeptBySlack P) : Lies id P (b.strand e tag) := by
  unfold Blocks.strand
  split
  · exact h
  · dsimp only
    split
    · exact h.modMove.dropDelivery
    · split
      · exact h.modMove.dropDelivery
      · split
        · exact (h.modMove.dropDelivery.unbind hP).holdForFloor hP
        · exact h.modMove.dropDelivery.unbind hP

theorem applyMethod {tag : Tag} {m : EndMethod} (h : Lies id P b) (hP : KeptBySlack P) :
    Lies id P (b.applyMethod e tag m) := by
  unfold Blocks.applyMethod
  split
  · exact h
  · split
    · exact h
    · dsimp only
      split
      · split
        · split
          · split
            · exact h.modMove.dropDelivery.enterWaiting.unbind hP
            · exact h.modMove.dropDelivery.enterWaiting
          · exact h.modMove.dropDelivery.enterWaiting
        · exact h.modMove
      · split
        · refine Lies.dropDelivery ?_
          split
          · exact h.modMove.modMove.slacken hP (fun _ => by exact rfl) fun _ _ => ⟨.inl rfl, .inr rfl, rfl⟩
          · exact h.modMove.modMove
        · exact h.modMove
      · split
        · exact h.modMove.strand hP
        · exact h.modMove

theorem applyForeign {tag : Tag} {v : Vehicle} {m : EndMethod} (h : Lies id P b) (hP : KeptBySlack P) :
    Lies id P (b.applyForeign e tag v m) := by
  unfold Blocks.applyForeign
  dsimp only
  split
  · exact h.sendDone.dropDelivery
  · split
    · exact (h.sendDone.dropDelivery.unbind hP).holdForFloor hP
    · exact h.sendDone.dropDelivery.unbind hP

theorem dropCarried {v : Vehicle} (h : Lies id P b) : Lies id P (b.dropCarried e v) := by
  unfold Blocks.dropCarried
  split
  · split
    · exact h.dropDelivery
    · exact h
  · exact h

theorem deferredFault {v : Vehicle} {i : Incident} (h : Lies id P b) (hP : KeptBySlack P) :
    Lies id P (b.deferredFault e v i) := by
  have carried : Lies id P (if i = .silent ∨ v.bound.isNone = true then b.dropCarried e v else b) := by
    split
    · exact h.dropCarried
    · exact h
  unfold Blocks.deferredFault
  dsimp only
  split
  · exact carried.unbind hP
  · exact carried

end Lies

end Sys2Proof.Machine
end

section
/-! PROOFS. A vehicle's fault (R53, R159 to R161): what it ends belongs to one move, and the recovery step after
it ends calls. -/
namespace Sys2Proof.Machine

/-! ### The recovery step (R100, R161) -/

/-- What the end of the CALLING calls leaves alone. -/
theorem Blocks.endCalling_frame (e : Env) (b : Blocks) :
    (b.endCalling e).zc = b.zc ∧ (b.endCalling e).si = b.si ∧ (b.endCalling e).fu = b.fu ∧
      (b.endCalling e).pd = b.pd ∧ (b.endCalling e).out = b.out ∧
      (b.endCalling e).agenda.follow = b.agenda.follow ∧
      (∀ f, b.flag f = true → (b.endCalling e).flag f = true) ∧
      (∀ tag, (∀ m ∈ b.moveList, m.tag = tag → m.state ≠ .calling) →
        (b.endCalling e).move? tag = b.move? tag ∧
          ∀ m ∈ (b.endCalling e).moveList, m.tag = tag → m ∈ b.moveList) := by
  have steps (l : List Move) (c : Blocks) :
      let d := l.foldl (fun b m => ((b.endCall e m.tag).enterWaiting e m.tag false).modMove m.tag fun x =>
        { x with recallAt := none }) c
      d.zc = c.zc ∧ d.si = c.si ∧ d.fu = c.fu ∧ d.pd = c.pd ∧ d.out = c.out ∧
        d.agenda.follow = c.agenda.follow ∧ (∀ f, c.flag f = true → d.flag f = true) ∧
        (∀ tag, (∀ m ∈ l, m.tag ≠ tag) → d.move? tag = c.move? tag ∧
          ∀ m ∈ d.moveList, m.tag = tag → m ∈ c.moveList) := by
    induction l generalizing c with
    | nil => exact ⟨rfl, rfl, rfl, rfl, rfl, rfl, fun _ h => h, fun _ _ => ⟨rfl, fun _ h _ => h⟩⟩
    | cons m l ih =>
      let d := ((c.endCall e m.tag).enterWaiting e m.tag false).modMove m.tag fun x => { x with recallAt := none }
      obtain ⟨zc, si, fu, pd, out, follow, flag, moves⟩ := ih d
      obtain ⟨zc₁, si₁, -, pd₁, fu₁, out₁⟩ := c.endCall_frame e m.tag
      obtain ⟨zc₂, si₂, -, pd₂, -, fu₂, -, out₂⟩ := (c.endCall e m.tag).enterWaiting_frame e m.tag false
      have closes : Closes m.tag c d :=
        ((Closes.refl.endCall (e := e) (t := m.tag)).enterWaiting (e := e) (again := false)).modMove
          fun _ => by exact rfl
      refine ⟨zc.trans (zc₂.trans zc₁), si.trans (si₂.trans si₁), fu.trans (fu₂.trans fu₁),
        pd.trans (pd₂.trans pd₁), out.trans (out₂.trans out₁), follow.trans closes.follow,
        fun f hf => flag f (closes.flag f hf), fun tag ht => ?_⟩
      obtain ⟨move, before⟩ := moves tag fun x hx => ht x (List.mem_cons_of_mem _ hx)
      have other : tag ≠ m.tag := (ht m List.mem_cons_self).symm
      refine ⟨move.trans (closes.move?_of_ne other), fun x hx hx_tag => ?_⟩
      obtain ⟨y, hy, same | ⟨-, x_tag⟩⟩ :=
        Calm.exists_of_mem_right closes.moves (before x hx hx_tag)
      · rw [same]
        exact hy
      · exact absurd (hx_tag.symm.trans x_tag) other
  obtain ⟨zc, si, fu, pd, out, follow, flag, moves⟩ :=
    steps (b.moveList.filter fun m => m.state == .calling) b
  refine ⟨zc, si, fu, pd, out, follow, flag, fun tag ht => moves tag fun m hm h => ?_⟩
  obtain ⟨mem, calling⟩ := List.mem_filter.1 hm
  exact ht m mem h (by simpa using calling)

/-- The recovery step changes the Fault Unit, and ends calls at most (R161). -/
theorem Blocks.recoveryStep_frame (e : Env) (f : FirstFault) (b : Blocks) :
    (b.recoveryStep e f).zc = b.zc ∧ (b.recoveryStep e f).si = b.si ∧ (b.recoveryStep e f).pd = b.pd ∧
      (b.recoveryStep e f).out = b.out ∧ (b.recoveryStep e f).agenda.follow = b.agenda.follow ∧
      (∀ f', b.flag f' = true → (b.recoveryStep e f).flag f' = true) ∧
      (∀ tag, (∀ m ∈ b.moveList, m.tag = tag → m.state ≠ .calling) →
        (b.recoveryStep e f).move? tag = b.move? tag ∧
          ∀ m ∈ (b.recoveryStep e f).moveList, m.tag = tag → m ∈ b.moveList) := by
  unfold recoveryStep
  split
  · exact ⟨rfl, rfl, rfl, rfl, rfl, fun _ h => h, fun _ _ => ⟨rfl, fun _ h _ => h⟩⟩
  · split
    · exact ⟨rfl, rfl, rfl, rfl, rfl, fun _ h => h, fun _ _ => ⟨rfl, fun _ h _ => h⟩⟩
    · obtain ⟨zc, si, -, pd, out, follow, flag, moves⟩ :=
        (b.modFU fun x => { (x.setMulti f.kind) with recovery := .restricted, watch := none }).endCalling_frame e
      exact ⟨zc, si, pd, out, follow, flag, moves⟩
  · exact ⟨rfl, rfl, rfl, rfl, rfl, fun _ h => h, fun _ _ => ⟨rfl, fun _ h _ => h⟩⟩

/-! ### What a fault ends (R53, R126, R159, R160) -/

namespace Closes
variable {tag : Tag} {e : Env} {b c : Blocks}

theorem applyMethod {m : EndMethod} (h : Closes tag b c) : Closes tag b (c.applyMethod e tag m) := by
  have written {f : Move → Move} (hf : ∀ m : Move, (f m).tag = m.tag) : Closes tag b (c.modMove tag f) :=
    h.modMove hf
  unfold Blocks.applyMethod
  split
  · exact h
  · split
    · exact h
    · have named := written (f := fun x => { x with endMethod := some m }) fun _ => by exact rfl
      dsimp only
      split
      · split
        · split
          · split
            · exact named.dropDelivery.enterWaiting.unbind
            · exact named.dropDelivery.enterWaiting
          · exact named.dropDelivery.enterWaiting
        · exact named
      · split
        · refine Closes.dropDelivery ?_
          split
          · exact (named.modMove fun _ => by exact rfl).modVehicle fun _ => ⟨.inl rfl, rfl⟩
          · exact named.modMove fun _ => by exact rfl
        · exact named
      · split
        · exact named.strand
        · exact named

theorem applyForeign {t : Tag} {v : Vehicle} {m : EndMethod} (h : Closes tag b c) :
    Closes tag b (c.applyForeign e t v m) := by
  unfold Blocks.applyForeign
  dsimp only
  split
  · exact h.sendDone.dropDelivery
  · split
    · exact h.sendDone.dropDelivery.unbind.holdForFloor
    · exact h.sendDone.dropDelivery.unbind

theorem dropCarried {v : Vehicle} (h : Closes tag b c) : Closes tag b (c.dropCarried e v) := by
  unfold Blocks.dropCarried
  split
  · split
    · exact h.dropDelivery
    · exact h
  · exact h

theorem deferredFault {v : Vehicle} {i : Incident} (h : Closes tag b c) :
    Closes tag b (c.deferredFault e v i) := by
  have carried : Closes tag b (if i = .silent ∨ v.bound.isNone = true then c.dropCarried e v else c) := by
    split
    · exact h.dropCarried
    · exact h
  unfold Blocks.deferredFault
  dsimp only
  split
  · exact carried.unbind
  · exact carried

end Closes

/-- What a fault does before its recovery step concerns the tag that the vehicle is bound to; a vehicle that is
down stays so through it (R159 to R161). -/
theorem Blocks.vehicleFault_cases (e : Env) (v : Vehicle) (i : Incident) (b : Blocks) {tag : Tag}
    (ht : ∀ t, v.bound = some t → t = tag) :
    ∃ c, Closes tag (b.setFlag i.kind.flag) c ∧
      (∀ id P, KeptBySlack P → Lies id P b → Lies id P c) ∧
      (b.vehicleFault e v i = c ∨ ∃ f, b.vehicleFault e v i = c.recoveryStep e f) := by
  have own : ∀ k, i.kind.flag ≠ .changed k := by
    cases i <;> simp [Incident.kind, FaultKind.flag]
  have flagged (id P) (h : Lies id P b) : Lies id P (b.setFlag i.kind.flag) := h.of_zc (b.setFlag_frame _).1
  unfold vehicleFault
  dsimp only
  split
  · exact ⟨_, Closes.refl.deferredFault, fun id P hP h => (flagged id P h).deferredFault hP, .inl rfl⟩
  · cases hbound : v.bound with
    | none =>
      exact ⟨_, Closes.refl.dropCarried, fun id P _ h => (flagged id P h).dropCarried, .inr ⟨_, rfl⟩⟩
    | some t =>
      obtain rfl := ht t hbound
      dsimp only
      by_cases own_tag : e.ownTag t = true
      · rw [if_pos own_tag]
        cases (b.setFlag i.kind.flag).move? t with
        | none => exact ⟨_, Closes.refl, fun id P _ h => flagged id P h, .inr ⟨_, rfl⟩⟩
        | some m =>
          exact ⟨_, Closes.refl.applyMethod, fun id P hP h => (flagged id P h).applyMethod hP,
            .inr ⟨_, rfl⟩⟩
      · rw [if_neg own_tag]
        exact ⟨_, Closes.refl.applyForeign, fun id P hP h => (flagged id P h).applyForeign hP,
          .inr ⟨_, rfl⟩⟩

/-- A vehicle that is down stays so through a fault, whosever it is; the flag of the fault's kind is set, and no
follow-on is asked (R159 to R161). -/
theorem Blocks.vehicleFault_spec (e : Env) (v : Vehicle) (i : Incident) (b : Blocks) :
    (∀ id P, KeptBySlack P → Lies id P b → Lies id P (b.vehicleFault e v i)) ∧
      (b.vehicleFault e v i).agenda.follow = b.agenda.follow ∧
      (b.vehicleFault e v i).flag i.kind.flag = true ∧
      (∀ f, b.flag f = true → (b.vehicleFault e v i).flag f = true) := by
  obtain ⟨c, closes, lies, fault⟩ := b.vehicleFault_cases e v i (tag := v.bound.getD ⟨0, 0⟩)
    (fun t ht => by rw [ht]; rfl)
  have own : ∀ k, i.kind.flag ≠ .changed k := by
    cases i <;> simp [Incident.kind, FaultKind.flag]
  have follow : c.agenda.follow = b.agenda.follow :=
    closes.follow.trans (congrArg Agenda.follow (b.setFlag_frame _).2.2.2.2.2.2.2.1)
  have flag (f : Flag) (hf : f = i.kind.flag ∨ b.flag f = true) : c.flag f = true := by
    refine closes.flag f ?_
    rw [flag_setFlag_own own]
    rcases hf with rfl | hf
    · rw [decide_eq_true rfl, Bool.true_or]
    · rw [hf, Bool.or_true]
  rcases fault with hc | ⟨f, hc⟩
  · rw [hc]
    exact ⟨lies, follow, flag _ (.inl rfl), fun f hf => flag f (.inr hf)⟩
  · obtain ⟨zc, -, -, -, follow', flag', -⟩ := c.recoveryStep_frame e f
    rw [hc]
    exact ⟨fun id P hP h => (lies id P hP h).of_zc zc, follow'.trans follow, flag' _ (flag _ (.inl rfl)),
      fun f hf => flag' f (flag f (.inr hf))⟩

end Sys2Proof.Machine
end

section
/-! PROOFS. SILENT vehicles (R9, R17): the third missed poll, and the first REPORT after it. -/
namespace Sys2Proof.Machine

/-! ### Missed polls (R9) -/

/-- The entry when its vehicle has fallen SILENT under the binding `bound`, before its fault is dealt with. -/
def Vehicle.silenced (bound : Option Tag) (v : Vehicle) : Vehicle := { v with state := .silent, bound := bound }

/-- A vehicle that falls SILENT keeps what it last reported (R9, R17). -/
theorem Blocks.becomeSilent_spec {e : Env} {b : Blocks} {v : Vehicle} (w : Vehicle)
    (hw : b.vehicle? v.id = some w) :
    ∃ bound, Lies v.id (Vehicle.slack (w.silenced bound)) (b.becomeSilent e v) ∧
      (b.becomeSilent e v).agenda.follow = b.agenda.follow := by
  unfold becomeSilent
  dsimp only
  let bound := (if v.relearn then { v with bound := (b.recordOf v.id).map Move.tag } else v).bound
  let c := (b.leaveQueue v.id).modVehicle v.id (Vehicle.silenced bound)
  have kept := Vehicle.slack.kept (w.silenced bound)
  have lies : Lies v.id (Vehicle.slack (w.silenced bound)) (c.releaseBids fun x => x.vehicle == v.id) := by
    refine Lies.releaseBids ?_ fun u hu => kept u _ hu ⟨.inl rfl, .inl rfl, rfl⟩
    refine (Lies.of_modVehicle (show (b.leaveQueue v.id).vehicle? v.id = some w from hw) (fun _ => by exact rfl)
      fun _ => .inl rfl).mono fun u hu => ?_
    rw [hu]
    exact .refl _
  obtain ⟨falls, follow, -⟩ := (c.releaseBids fun x => x.vehicle == v.id).vehicleFault_spec e
    (if v.relearn then { v with bound := (b.recordOf v.id).map Move.tag } else v) .silent
  exact ⟨bound, falls _ _ kept lies, follow.trans (c.releaseBids_follow _)⟩

/-- A missed poll that is not the third is counted in the entry, and nothing else changes (R9). -/
theorem State.missedPoll_counts {s : State} {id : Nat} {v : Vehicle} (hrun : s.cl.node.running = true)
    (hr : s.rested) (hv : s.b.vehicle? id = some v) (hlow : v.missed < 2) :
    Answers (.missedPoll id) s fun t =>
      t.b.vehicle? id = some { v with missed := v.missed + 1 } ∧ SameVehiclesBut id s.b t.b ∧
      t.b.zc.inbound = s.b.zc.inbound ∧ t.b.mm = s.b.mm ∧ t.b.si = s.b.si ∧ t.b.fu = s.b.fu := by
  let g : Env → Blocks → Blocks := fun e b => if e.node.running then b.missPoll e id else b
  have ran : exec (.missedPoll id) s = .next (s.run g) := rfl
  let counted : Vehicle → Vehicle := fun x => { x with missed := v.missed + 1 }
  have effect : g s.env s.b.quiet = s.b.quiet.modVehicle id counted := by
    have least : min (v.missed + 1) 3 = v.missed + 1 := by omega
    show (if _ then _ else _) = _
    rw [if_pos (show s.env.node.running = true from hrun)]
    unfold Blocks.missPoll
    rw [show s.b.quiet.vehicle? id = some v from hv]
    dsimp only
    rw [least, if_neg (by omega)]
  have rest : (g s.env s.b.quiet).agenda = Agenda.none := by
    rw [effect]
    exact hr.1
  have calm := State.run_calm (f := g) hr (by rw [rest]; rfl)
  obtain ⟨zc, si, mm, -⟩ := State.run_frame (f := g) hr rest
  rw [effect] at zc si mm calm
  refine ⟨_, ran, ?_, fun x hx => ?_, calm.inbound, mm, si, calm.fu⟩
  · rw [Blocks.vehicle?_congr zc, s.b.quiet.vehicle?_modVehicle id counted fun _ => rfl,
      show s.b.quiet.vehicle? id = some v from hv]
    rfl
  · rw [Blocks.vehicle?_congr zc, s.b.quiet.vehicle?_modVehicle_of_ne counted (fun _ => rfl) hx]
    rfl

/-- The third missed poll in a row (R9). -/
theorem State.missedPoll_silences {s : State} {id : Nat} {v : Vehicle} (hrun : s.cl.node.running = true)
    (hr : s.rested) (hv : s.b.vehicle? id = some v) (htwo : v.missed = 2) :
    Answers (.missedPoll id) s fun t =>
      ∃ x, t.b.vehicle? id = some x ∧ x.missed = 3 ∧ x.state = .silent ∧ x.segment = v.segment ∧
        x.motion = v.motion ∧ x.carrier = v.carrier ∧ x.carrierId = v.carrierId ∧
        x.hoist = v.hoist ∧ x.level = v.level ∧ x.lastReport = v.lastReport ∧ x.job = v.job := by
  let g : Env → Blocks → Blocks := fun e b => if e.node.running then b.missPoll e id else b
  have ran : exec (.missedPoll id) s = .next (s.run g) := rfl
  let counted : Vehicle → Vehicle := fun x => { x with missed := 3 }
  let c := s.b.quiet.modVehicle id counted
  have hid : v.id = id := (Blocks.vehicle?_mem _ hv).2
  have hc : c.vehicle? id = some (counted v) := by
    rw [s.b.quiet.vehicle?_modVehicle id counted fun _ => rfl, show s.b.quiet.vehicle? id = some v from hv]
    rfl
  have effect : g s.env s.b.quiet = if v.state ≠ .silent then c.becomeSilent s.env (counted v) else c := by
    show (if _ then _ else _) = _
    rw [if_pos (show s.env.node.running = true from hrun)]
    unfold Blocks.missPoll
    rw [show s.b.quiet.vehicle? id = some v from hv]
    simp only [htwo, Nat.reduceAdd, Nat.min_self, true_and]
    rfl
  by_cases was : v.state = .silent
  · rw [if_neg (not_not.2 was)] at effect
    have rest : (g s.env s.b.quiet).agenda = Agenda.none := by
      rw [effect]
      exact hr.1
    obtain ⟨zc, -⟩ := State.run_frame (f := g) hr rest
    rw [effect] at zc
    exact ⟨_, ran, counted v, (Blocks.vehicle?_congr zc id).trans hc, rfl, was, rfl, rfl, rfl, rfl, rfl, rfl,
      rfl, rfl⟩
  · rw [if_pos was] at effect
    obtain ⟨bound, lies, follow⟩ := c.becomeSilent_spec (e := s.env) (v := counted v) (counted v)
      (by rw [show (counted v).id = id from hid]; exact hc)
    have calm := State.run_calm (f := g) hr (by
      rw [effect]
      exact follow.trans (congrArg Agenda.follow hr.1))
    rw [effect] at calm
    obtain ⟨x, hx, -, -, x_eq⟩ := lies.calm calm
    rw [show (counted v).id = id from hid] at hx
    refine ⟨_, ran, x, hx, ?_⟩
    rw [x_eq]
    exact ⟨rfl, rfl, rfl, rfl, rfl, rfl, rfl, rfl, rfl, rfl⟩

/-! ### The first REPORT of a SILENT vehicle (R17) -/

/-- The entry of a vehicle that has reported from segment `n`, before any transition (R7). -/
theorem Blocks.takeReport_entry {e : Env} {b : Blocks} {r : Report} {v : Vehicle} {n : Nat}
    (hv : b.vehicle? r.vehicle = some v) (hr : v.relearn = false) (hp : r.place = .segment n) :
    ∃ y, (b.takeReport e v r).vehicle? r.vehicle = some y ∧ y.segment = n ∧
      y = { v with
        missed := 0
        lastReport := e.now
        motion := recordedMotion r.motion
        carrier := r.carrier
        carrierId := r.carrierId
        hoist := r.hoist
        level := r.level
        segment := n
        grant := y.grant
        blocked := y.blocked
        capture := y.capture
        echo := y.echo
        jobDone := y.jobDone } := by
  obtain ⟨y, hy, reported, segment⟩ := heardFields_entry (e := e) hv hr hp
  unfold Vehicle.reported at reported
  rw [if_pos (vehicle?_mem _ hv).2, segment] at reported
  exact ⟨y, (vehicle?_congr (takeReport_frame hr).1 _).trans hy, segment, reported⟩

/-- An IDLE vehicle gets a job from the passes at most, while no move waits for one (R77 to R88). -/
theorem Calm.vehicle?_of_no_candidate {e : Env} {b c : Blocks} (h : Calm e b c) (hn : b.candidateMoves = [])
    {id : Nat} {v : Vehicle} (hv : b.vehicle? id = some v) :
    ∃ x, c.vehicle? id = some x ∧
      x = { v with job := x.job, echo := x.echo, jobDone := x.jobDone, given := x.given } := by
  obtain ⟨x, hx, passed⟩ := h.vehicle?_some hv
  refine ⟨x, hx, ?_⟩
  rcases passed with rfl | ⟨-, x_eq⟩ | ⟨-, candidates, -⟩
  · rfl
  · exact x_eq
  · exact absurd hn candidates

/-- The entry of a vehicle that leaves SILENT for IDLE (R17, R88). -/
def Vehicle.idled (now : Time) (v : Vehicle) : Vehicle :=
  { v with state := .idle, idleSince := now, clearance := false }

/-- A vehicle that becomes IDLE after FAULTED or SILENT may be sent a PASS job in place of its PARK job
(R17, R88). -/
theorem Blocks.idleAfterFault_spec {e : Env} {b : Blocks} {v : Vehicle} (hv : b.vehicle? v.id = some v) :
    (∃ x, (b.idleAfterFault e v.id).vehicle? v.id = some x ∧
      x = { v.idled e.now with
        job := x.job, echo := x.echo, jobDone := x.jobDone, given := x.given }) ∧
      (b.idleAfterFault e v.id).mm = b.mm ∧
      (b.idleAfterFault e v.id).agenda.follow = b.agenda.follow := by
  have idle : (b.makeIdle e v.id).vehicle? v.id = some (v.idled e.now) := by
    show (b.modVehicle v.id (Vehicle.idled e.now)).vehicle? v.id = _
    rw [b.vehicle?_modVehicle v.id (Vehicle.idled e.now) fun _ => rfl, hv]
    rfl
  unfold idleAfterFault
  dsimp only
  rw [idle]
  dsimp only
  split
  · let j := passJob (v.idled e.now).segment
    obtain ⟨-, mm, -⟩ := Blocks.sendGoto_frame (b := b.makeIdle e v.id) (e := e) v.id j
    refine ⟨?_, mm, ?_⟩
    · by_cases hn : e.node = .haltedDuplicate
      · exact ⟨_, (vehicle?_congr (by unfold sendGoto; rw [if_pos hn]) _).trans idle, rfl⟩
      · rw [(b.makeIdle e v.id).vehicle?_sendGoto e v.id j hn, idle]
        exact ⟨_, rfl, rfl⟩
    · exact (Delivers.refl.sendGoto (e := e) (id := v.id) (j := j)).follow
  · exact ⟨⟨_, idle, rfl⟩, rfl, rfl⟩

/-- How R17 sets the state of a SILENT vehicle `y` that reports. -/
theorem Blocks.silentStep_eq {e : Env} {b : Blocks} {r : Report} {y : Vehicle}
    (hy : b.vehicle? r.vehicle = some y) :
    b.silentStep e r =
      let faulted := b.modVehicle r.vehicle fun x => { x with state := .faulted, clearance := false }
      if r.level = .major then faulted.vehicleFault e y .major
      else if hoistWorking r.hoist then faulted.setFlag .vehicle
      else if r.carrier then faulted
      else b.idleAfterFault e r.vehicle := by
  unfold silentStep
  rw [hy]
  dsimp only
  rw [(vehicle?_mem _ hy).2]

/-- The REPORT of a SILENT vehicle from a segment of the zone (R7, R17). -/
theorem Blocks.report_silent {e : Env} {b : Blocks} {r : Report} {v : Vehicle} {n : Nat}
    (hv : b.vehicle? r.vehicle = some v) (hs : v.state = .silent) (hr : v.relearn = false)
    (hp : r.place = .segment n) (hn : n ≤ e.exitSeg) :
    b.report e r = (b.takeReport e v r).silentStep e r := by
  obtain ⟨y, hy, -, y_eq⟩ := takeReport_entry (e := e) hv hr hp
  have still : (b.takeReport e v r).travelStep e r = b.takeReport e v r := by
    have not_refused : refusedEntry r y = false := by
      unfold refusedEntry
      simp [hp]
    have y_state : y.state = .silent := by
      rw [y_eq]
      exact hs
    unfold travelStep
    rw [hy]
    dsimp only
    rw [if_neg (by rw [not_refused]; nofun), hp]
    dsimp only
    rw [if_neg (by rw [y_state]; nofun)]
  have on : (b.takeReport e v r).onRoster v.id = true := by
    unfold onRoster
    rw [(vehicle?_mem _ hv).2, hy]
    rfl
  unfold report placed
  rw [hv, hp]
  dsimp only
  rw [if_neg (by simp [hn]), if_pos ⟨hs, by rw [hr]; rfl⟩, still, if_pos on]

/-- The first REPORT of a SILENT vehicle sets its state (R17). -/
theorem State.report_ends_silence {s : State} {r : Report} {v : Vehicle} {n : Nat}
    (hrun : s.cl.node.running = true) (hr : s.rested) (hv : s.b.vehicle? r.vehicle = some v)
    (hst : v.state = .silent) (hrel : v.relearn = false) (hb : v.bound = none) (hp : r.place = .segment n)
    (hn : n ≤ s.cl.cfg.loopLen + 1) (hnone : s.b.candidateMoves = []) :
    Answers (.report r []) s fun t =>
      ∃ x, t.b.vehicle? r.vehicle = some x ∧ x.segment = n ∧ x.missed = 0 ∧ x.lastReport = s.now ∧
        x.carrier = r.carrier ∧ x.carrierId = r.carrierId ∧ x.level = r.level ∧
        x.clearance = false ∧ x.bound = none ∧
        ((r.level = .major ∨ (r.hoist ≠ .idle ∧ r.hoist ≠ .done)) →
          x.state = .faulted ∧ t.b.flag .vehicle = true) ∧
        (r.level ≠ .major → (r.hoist = .idle ∨ r.hoist = .done) →
          x.state = (if r.carrier then .faulted else .idle)) := by
  let g : Env → Blocks → Blocks := fun e b => if e.node.running then b.report e r else b
  have ran : exec (.report r []) s = .next (s.run g) :=
    congrArg Host.Outcome.next (State.runFailing_nil _ g s)
  let d := s.b.quiet.takeReport s.env v r
  let down : Vehicle → Vehicle := fun x => { x with state := .faulted, clearance := false }
  let faulted := d.modVehicle r.vehicle down
  obtain ⟨y, hy, -, y_eq⟩ := Blocks.takeReport_entry (e := s.env) (b := s.b.quiet) hv hrel hp
  obtain ⟨-, -, mm_d, follow_d⟩ := Blocks.takeReport_frame (e := s.env) (b := s.b.quiet) (r := r) hrel
  have told := Blocks.told_heardFields (e := s.env) (b := s.b.quiet) (r := r) (Blocks.vehicle?_mem _ hv).2
  have rested : d.agenda.follow = false := follow_d.trans (congrArg Agenda.follow (told.agenda.trans hr.1))
  have effect : g s.env s.b.quiet = _ := (if_pos hrun).trans
    ((Blocks.report_silent (e := s.env) (b := s.b.quiet) hv hst hrel hp hn).trans (Blocks.silentStep_eq hy))
  have lies : Lies r.vehicle (fun x => x = down y) faulted :=
    Lies.of_modVehicle hy (fun _ => by exact rfl) fun _ => .inr rfl
  have working : hoistWorking r.hoist = true ↔ r.hoist ≠ .idle ∧ r.hoist ≠ .done := by
    cases r.hoist <;> simp [hoistWorking]
  dsimp only at effect
  have y_bound : y.bound = none := by
    rw [y_eq]
    exact hb
  have answers {x : Vehicle} (st : RosterState) (hx : (s.run g).b.vehicle? r.vehicle = some x)
      (x_eq : x = { y with
        state := st, clearance := x.clearance, bound := x.bound, arrival := x.arrival, reserved := x.reserved
        idleSince := x.idleSince, job := x.job, echo := x.echo, jobDone := x.jobDone, given := x.given })
      (x_clearance : x.clearance = false) (x_bound : x.bound = none)
      (at_work : (r.level = .major ∨ (r.hoist ≠ .idle ∧ r.hoist ≠ .done)) →
        st = .faulted ∧ (s.run g).b.flag .vehicle = true)
      (good : r.level ≠ .major → (r.hoist = .idle ∨ r.hoist = .done) →
        st = (if r.carrier then .faulted else .idle)) :
      ∃ x, (s.run g).b.vehicle? r.vehicle = some x ∧ x.segment = n ∧ x.missed = 0 ∧ x.lastReport = s.now ∧
        x.carrier = r.carrier ∧ x.carrierId = r.carrierId ∧ x.level = r.level ∧
        x.clearance = false ∧ x.bound = none ∧
        ((r.level = .major ∨ (r.hoist ≠ .idle ∧ r.hoist ≠ .done)) →
          x.state = .faulted ∧ (s.run g).b.flag .vehicle = true) ∧
        (r.level ≠ .major → (r.hoist = .idle ∨ r.hoist = .done) →
          x.state = (if r.carrier then .faulted else .idle)) := by
    rw [y_eq] at x_eq
    refine ⟨x, hx, ?_⟩
    have x_state : x.state = st := by rw [x_eq]
    refine ⟨?_, ?_, ?now, ?_, ?_, ?_, x_clearance, x_bound,
      fun h => ⟨x_state.trans (at_work h).1, (at_work h).2⟩, fun h h' => x_state.trans (good h h')⟩
    case now =>
      rw [x_eq]
      rfl
    all_goals rw [x_eq]
  refine ⟨_, ran, ?_⟩
  by_cases major : r.level = .major
  · rw [if_pos major] at effect
    obtain ⟨falls, follow, flag, -⟩ := faulted.vehicleFault_spec s.env y .major
    have calm := State.run_calm (f := g) hr (by
      rw [effect]
      exact follow.trans rested)
    rw [effect] at calm
    obtain ⟨x, hx, bound, clearance, x_eq⟩ := (falls _ _ (Vehicle.slack.kept (down y))
      (lies.mono fun u hu => by rw [hu]; exact .refl _)).calm calm
    refine answers .faulted hx (by rw [x_eq]) (clearance.elim id id) (bound.elim (fun h => h.trans y_bound) id)
      (fun _ => ⟨rfl, ?_⟩) fun h => absurd major h
    rw [calm.flag .vehicle nofun]
    exact flag
  · rw [if_neg major] at effect
    by_cases work : hoistWorking r.hoist = true
    · rw [if_pos work] at effect
      have calm := State.run_calm (f := g) hr (by
        rw [effect]
        exact rested)
      rw [effect] at calm
      obtain ⟨x, hx, rfl⟩ := (lies.of_zc (c := faulted.setFlag .vehicle) rfl).calm calm
      refine answers .faulted hx rfl rfl y_bound (fun _ => ⟨rfl, ?_⟩) fun _ h => ?_
      · rw [calm.flag .vehicle nofun]
        rfl
      · obtain ⟨not_idle, not_done⟩ := working.1 work
        exact (h.elim not_idle not_done).elim
    · rw [if_neg work] at effect
      have not_work : ¬ (r.level = .major ∨ (r.hoist ≠ .idle ∧ r.hoist ≠ .done)) :=
        fun h => h.elim major fun h => work (working.2 h)
      by_cases laden : r.carrier = true
      · rw [if_pos laden] at effect
        have calm := State.run_calm (f := g) hr (by
          rw [effect]
          exact rested)
        rw [effect] at calm
        obtain ⟨x, hx, rfl⟩ := lies.calm calm
        exact answers .faulted hx rfl rfl y_bound (fun h => absurd h not_work) fun _ _ => (if_pos laden).symm
      · rw [if_neg laden] at effect
        have hy_id : y.id = r.vehicle := (Blocks.vehicle?_mem _ hy).2
        obtain ⟨⟨z, hz, z_eq⟩, mm, follow⟩ := Blocks.idleAfterFault_spec (e := s.env) (b := d) (v := y)
          (by rw [hy_id]; exact hy)
        rw [hy_id] at hz mm follow
        have calm := State.run_calm (f := g) hr (by
          rw [effect]
          exact follow.trans rested)
        rw [effect] at calm
        have no_candidate : (d.idleAfterFault s.env r.vehicle).candidateMoves = [] := by
          unfold Blocks.candidateMoves Blocks.moveList at hnone ⊢
          rw [mm, mm_d, told.mm]
          exact hnone
        obtain ⟨x, hx, x_eq⟩ := calm.vehicle?_of_no_candidate no_candidate hz
        rw [z_eq] at x_eq
        refine answers .idle hx (by rw [x_eq]; rfl) (by rw [x_eq]; rfl) ?_ (fun h => absurd h not_work)
          fun _ _ => (if_neg laden).symm
        rw [x_eq]
        exact y_bound

/-- Settles O13. A third missed poll makes the entry SILENT, and nothing the fault does raises it again; the first
REPORT decides by fault level, hoist and carrier. -/
theorem thirdMissedPollSilences : Obligations.ThirdMissedPollSilences := by
  intro s id v hrun hr hv
  refine ⟨State.missedPoll_counts hrun hr hv, State.missedPoll_silences hrun hr hv, ?_⟩
  rintro r n rfl hst hrel hb hp hn hnone
  exact State.report_ends_silence hrun hr hv hst hrel hb hp hn hnone

end Sys2Proof.Machine
end

section
/-! PROOFS. MAJOR faults and the recovery state (R16, R53, R159 to R163). -/
namespace Sys2Proof.Machine

/-! ### The end-methods HELD and CLEAN (R53, R160) -/

/-- A vehicle that holds the carrier of its CARRYING move, its hoist idle, keeps it (R160). -/
theorem chooseMethod_held {check : Bool} {st : RosterState} {last : Hoist} (h : st = .unloading → last = .idle) :
    chooseMethod .carrying check st last true .idle .major = .held := by
  have not_cut : ¬ (st = .unloading ∧
      (last = .lowering ∨ last = .gripped ∨ last = .raising ∨ last = .failed)) := by
    rintro ⟨unloading, work⟩
    rw [h unloading] at work
    simp at work
  simp [chooseMethod, not_cut]

/-- A BOUND move whose vehicle is on its way to the source loses it, and nothing else (R160). -/
theorem chooseMethod_clean {check : Bool} {last : Hoist} {carrier : Bool} {hoist : Hoist} :
    chooseMethod .bound check .toSource last carrier hoist .major = .clean := by
  simp [chooseMethod]

/-- The record of a move that is SUSPENDED with HELD (R53). -/
def Move.heldBy (m : Move) : Move := { m with endMethod := some .held, state := .suspended, wait := none }

/-- The records that carry a tag, after a change of all of them. -/
theorem Blocks.mem_modMove_tag {b : Blocks} {tag : Tag} {f : Move → Move} {n : Move}
    (hn : n ∈ (b.modMove tag f).moveList) (ht : n.tag = tag) : ∃ m ∈ b.moveList, m.tag = tag ∧ n = f m := by
  rw [Blocks.moveList_modMove] at hn
  obtain ⟨m, hm, rfl⟩ := List.mem_map.1 hn
  split at ht
  next own => exact ⟨m, hm, beq_iff_eq.1 own, by rw [if_pos own]⟩
  next other => exact absurd (beq_iff_eq.2 ht) other

/-- HELD suspends a move that is under way, and its vehicle, which is down, keeps all but its clearance (R53). -/
theorem Blocks.applyMethod_held {e : Env} {b : Blocks} {m : Move} {id : Nat} {P : Vehicle → Prop}
    (hm : b.move? m.tag = some m) (hp : m.poisoned = false) (hs : m.state = .carrying)
    (hv : m.vehicle = some id) (hl : Lies id P b) :
    (b.applyMethod e m.tag .held).move? m.tag = some m.heldBy ∧
      (∀ n ∈ (b.applyMethod e m.tag .held).moveList, n.tag = m.tag → n.state = .suspended) ∧
      Lies id (fun x => ∃ w, P w ∧ x = { w with clearance := false }) (b.applyMethod e m.tag .held) := by
  let named : Move → Move := fun x => { x with endMethod := some .held }
  let halted : Move → Move := fun x => { x with state := .suspended, wait := none }
  let stopped : Vehicle → Vehicle := fun v => { v with clearance := false }
  let a := ((b.modMove m.tag named).modMove m.tag halted).modVehicle id stopped
  have effect : b.applyMethod e m.tag .held = a.dropDelivery e m.tag := by
    unfold applyMethod
    rw [hm]
    dsimp only
    rw [if_neg (by rw [hp]; nofun), if_pos (.inr (.inl hs)), hv]
  have dropped : Delivers a (a.dropDelivery e m.tag) := Delivers.refl.dropDelivery
  have records : (a.dropDelivery e m.tag).moveList = ((b.modMove m.tag named).modMove m.tag halted).moveList :=
    dropped.moveList
  rw [effect]
  refine ⟨?_, fun n hn ht => ?_, ?_⟩
  · rw [dropped.move?]
    show ((b.modMove m.tag named).modMove m.tag halted).move? m.tag = _
    rw [(b.modMove m.tag named).move?_modMove m.tag halted fun _ => rfl,
      b.move?_modMove m.tag named fun _ => rfl, hm]
    rfl
  · rw [records] at hn
    obtain ⟨x, -, -, rfl⟩ := mem_modMove_tag hn ht
    rfl
  · exact (hl.modMove.modMove.modVehicle (f := stopped) (fun _ => rfl) (fun _ h => h)
      (fun w _ hw => ⟨w, hw, rfl⟩) rfl).dropDelivery

/-- CLEAN returns a BOUND move to be bound anew, and its vehicle, which is down, is bound no longer (R53). -/
theorem Blocks.applyMethod_clean {e : Env} {b : Blocks} {m : Move} {id : Nat} {P : Vehicle → Prop}
    (hm : b.move? m.tag = some m) (hp : m.poisoned = false) (hs : m.state = .bound)
    (hv : m.vehicle = some id) (hl : Lies id P b) (hP : ∀ x, P x → x.bound = some m.tag) :
    (∃ y, (b.applyMethod e m.tag .clean).move? m.tag = some y ∧ y.state = .waiting ∧
        y.endMethod = some .clean ∧ y.retry = min (m.retry + 1) 255 ∧ y.terms = m.terms ∧ y.vehicle = none) ∧
      (∀ n ∈ (b.applyMethod e m.tag .clean).moveList, n.tag = m.tag →
        n.state = .waiting ∧ n.vehicle = none) ∧
      Lies id (fun x => ∃ w, P w ∧ x = { w with bound := none, arrival := none })
        (b.applyMethod e m.tag .clean) := by
  let named : Move → Move := fun x => { x with endMethod := some .clean }
  let a := (b.modMove m.tag named).dropDelivery e m.tag
  let c := a.enterWaiting e m.tag true
  have lies : Lies id P c := hl.modMove.dropDelivery.enterWaiting
  obtain ⟨w, hw, hPw⟩ := lies.entry
  have hw_id : w.id = id := (c.vehicle?_mem hw).2
  have effect : b.applyMethod e m.tag .clean = c.unbind id := by
    unfold applyMethod
    rw [hm]
    dsimp only
    rw [if_neg (by rw [hp]; nofun), if_pos (.inl hs), hv]
    show (match c.vehicle? id with
      | some v => if v.bound = some m.tag then c.unbind v.id else c
      | none => c) = _
    rw [hw]
    dsimp only
    rw [if_pos (hP w hPw), hw_id]
  have dropped : Delivers (b.modMove m.tag named) a := Delivers.refl.dropDelivery
  have hm_a : a.move? m.tag = some (named m) := by
    rw [dropped.move?, b.move?_modMove m.tag named fun _ => rfl, hm]
    rfl
  rw [effect]
  refine ⟨?_, fun n hn ht => ?_, ?_⟩
  · refine ⟨_, ((a.move?_enterWaiting e m.tag true).trans (congrArg _ hm_a) :), rfl, rfl, rfl, rfl, rfl⟩
  · have hn : n ∈ c.moveList := hn
    unfold c Blocks.enterWaiting at hn
    dsimp only at hn
    split at hn
    all_goals
      obtain ⟨x, -, -, rfl⟩ := mem_modMove_tag hn ht
      exact ⟨rfl, rfl⟩
  · exact lies.modVehicle (fun _ => by exact rfl) (fun _ h => h) (fun w _ hw => ⟨w, hw, rfl⟩) rfl

/-! ### The whole fault (R16, R159 to R161) -/

/-- What the recovery step makes of the Fault Unit (R161). -/
theorem Blocks.recoveryStep_fu (e : Env) (f : FirstFault) (b : Blocks) :
    (b.fu.recovery = .normal → (b.recoveryStep e f).fu = { b.fu with
      recovery := .recovering
      first := some f
      watch := some { vehicle := f.vehicle, deadline := after e.now (e.cfg.tRec * 1000) } }) ∧
    (b.fu.recovery = .recovering →
      (f.vehicle.isSome ∧ b.fu.first.bind FirstFault.vehicle = f.vehicle → (b.recoveryStep e f).fu = b.fu) ∧
      (¬ (f.vehicle.isSome ∧ b.fu.first.bind FirstFault.vehicle = f.vehicle) →
        (b.recoveryStep e f).fu = { b.fu.setMulti f.kind with recovery := .restricted, watch := none })) ∧
    (b.fu.recovery = .restricted → (b.recoveryStep e f).fu = b.fu.setMulti f.kind) := by
  unfold recoveryStep
  refine ⟨fun h => ?_, fun h => ⟨fun same => ?_, fun other => ?_⟩, fun h => ?_⟩
  · rw [h]
    rfl
  · rw [h]
    dsimp only
    rw [if_pos same]
  · rw [h]
    dsimp only
    rw [if_neg other]
    exact (endCalling_frame e _).2.2.1
  · rw [h]
    rfl

/-- The FAULTED vehicle's entry, and what its becoming so leaves alone (R16, R36, R101). -/
theorem Blocks.becomeFaulted_spec {b : Blocks} {id : Nat} {u : Vehicle} (hu : b.vehicle? id = some u) :
    Lies id (fun x => x = { u.fault with reserved := x.reserved }) (b.becomeFaulted id) ∧
      (b.becomeFaulted id).mm = b.mm ∧ (b.becomeFaulted id).fu = b.fu ∧
      (b.becomeFaulted id).agenda.follow = b.agenda.follow := by
  obtain ⟨-, mm, -, -, fu, -⟩ :=
    ((b.leaveQueue id).modVehicle id Vehicle.fault).releaseBids_frame fun x => x.vehicle == id
  refine ⟨?_, mm, fu, Blocks.releaseBids_follow _ _⟩
  refine Lies.releaseBids ?_ fun v hv => by rw [hv]
  exact (Lies.of_modVehicle (show (b.leaveQueue id).vehicle? id = some u from hu) (fun _ => by exact rfl)
    fun _ => .inr rfl).mono fun v hv => by rw [hv]

/-- The blocks when the end-method of a MAJOR fault is to be applied (R159, R160). -/
def Blocks.faultTaken (id : Nat) (b : Blocks) : Blocks := (b.becomeFaulted id).setFlag .vehicle

/-- The MAJOR fault of a vehicle that is bound to a move of this table (R159 to R161). -/
theorem Blocks.majorFault_eq {e : Env} {b : Blocks} {v : Vehicle} {m : Move} {x : EndMethod}
    (hb : v.bound = some m.tag) (hown : m.tag.home = e.cfg.bay.val) (hm : b.move? m.tag = some m)
    (hx : chooseMethod m.state m.checkHold v.state m.lastHoist v.carrier v.hoist .major = x) :
    b.majorFault e v = ((b.faultTaken v.id).applyMethod e m.tag x).recoveryStep e
      ⟨.vehicle, some v.id, some m.tag, some x, e.now⟩ := by
  have own : e.ownTag m.tag = true := by simp [Env.ownTag, hown]
  have found : (b.faultTaken v.id).move? m.tag = some m := by
    have mm : (b.faultTaken v.id).mm = b.mm :=
      ((b.leaveQueue v.id).modVehicle v.id Vehicle.fault).releaseBids_frame _ |>.2.1
    exact (move?_congr mm _).trans hm
  have urgent : e.urgent v .major = true := by simp [Env.urgent, hb, own]
  unfold majorFault vehicleFault
  show (if (!e.urgent v .major) = true then _ else _) = _
  rw [if_neg (by rw [urgent]; nofun)]
  simp only [hb, own, if_true, ← hx]
  rw [show ((b.becomeFaulted v.id).setFlag Incident.major.kind.flag).move? m.tag = some m from found]
  rfl

theorem Blocks.faultTaken_spec {b : Blocks} {id : Nat} {u : Vehicle} (hu : b.vehicle? id = some u) :
    Lies id (fun x => x = { u.fault with reserved := x.reserved }) (b.faultTaken id) ∧
      (b.faultTaken id).mm = b.mm ∧ (b.faultTaken id).fu = b.fu ∧
      (b.faultTaken id).agenda.follow = b.agenda.follow ∧ (b.faultTaken id).flag .vehicle = true := by
  obtain ⟨lies, mm, fu, follow⟩ := becomeFaulted_spec hu
  exact ⟨lies.of_zc (c := b.faultTaken id) rfl, mm, fu, follow, rfl⟩

/-- How the blocks stand after a fault whose end-method leaves every record of `tag` with `S`. -/
structure FaultEnded (e : Env) (b : Blocks) (v : Vehicle) (tag : Tag) (x : EndMethod) (S : Move → Prop)
    (P : Vehicle → Prop) (d : Blocks) : Prop where
  lies : Lies v.id P d
  records : ∀ n ∈ d.moveList, n.tag = tag → S n
  follow : d.agenda.follow = b.agenda.follow
  flag : d.flag .vehicle = true
  move : d.move? tag = ((b.faultTaken v.id).applyMethod e tag x).move? tag
  recovery : ∃ c : Blocks, c.fu = b.fu ∧
    d = c.recoveryStep e ⟨.vehicle, some v.id, some tag, some x, e.now⟩

/-- The recovery step that ends a fault leaves the vehicle and the move as the end-method made them. -/
theorem Blocks.faultEnded {e : Env} {b : Blocks} {v : Vehicle} {tag : Tag} {x : EndMethod} {S : Move → Prop}
    {P : Vehicle → Prop} (hb : v.bound = some tag) {m : Move} (hm : b.move? m.tag = some m) (ht : m.tag = tag)
    (hown : tag.home = e.cfg.bay.val) (hS : ∀ n, S n → n.state ≠ .calling) {u : Vehicle}
    (hu : b.vehicle? v.id = some u)
    (hx : chooseMethod m.state m.checkHold v.state m.lastHoist v.carrier v.hoist .major = x)
    (hl : Lies v.id P ((b.faultTaken v.id).applyMethod e tag x))
    (hr : ∀ n ∈ ((b.faultTaken v.id).applyMethod e tag x).moveList, n.tag = tag → S n) :
    FaultEnded e b v tag x S P (b.majorFault e v) := by
  subst ht
  let c := (b.faultTaken v.id).applyMethod e m.tag x
  obtain ⟨-, -, fu, follow, flag⟩ := faultTaken_spec hu
  have closes : Closes m.tag (b.faultTaken v.id) c := Closes.refl.applyMethod
  have fu_c : c.fu = (b.faultTaken v.id).fu :=
    (Evolves.applyMethod (K := fun p => p ≠ .fault) (by simp) .refl).fu_eq (by simp)
  obtain ⟨zc, -, -, -, follow', flag', moves⟩ :=
    c.recoveryStep_frame e ⟨.vehicle, some v.id, some m.tag, some x, e.now⟩
  obtain ⟨move, before⟩ := moves m.tag fun n hn ht => hS n (hr n hn ht)
  rw [majorFault_eq hb hown hm hx]
  exact ⟨hl.of_zc zc, fun n hn ht => hr n (before n hn ht) ht, follow'.trans (closes.follow.trans follow),
    flag' _ (closes.flag _ flag), move, c, fu_c.trans fu, rfl⟩

/-- A MAJOR fault of a vehicle with the carrier of its CARRYING move (R53, R160, R161). -/
theorem Blocks.majorFault_suspends {e : Env} {b : Blocks} {v u : Vehicle} {m : Move}
    (hu : b.vehicle? v.id = some u) (hb : v.bound = some m.tag) (hown : m.tag.home = e.cfg.bay.val)
    (hm : b.move? m.tag = some m) (hv : m.vehicle = some v.id) (hp : m.poisoned = false)
    (hs : m.state = .carrying) (hc : v.carrier = true) (hh : v.hoist = .idle)
    (hlast : v.state = .unloading → m.lastHoist = .idle) :
    (b.majorFault e v).move? m.tag = some m.heldBy ∧
      FaultEnded e b v m.tag .held (fun n => n.state = .suspended)
        (fun x => x = { u.fault with clearance := false, reserved := x.reserved }) (b.majorFault e v) := by
  have method : chooseMethod m.state m.checkHold v.state m.lastHoist v.carrier v.hoist .major = .held := by
    rw [hs, hc, hh]
    exact chooseMethod_held hlast
  obtain ⟨lies, mm, -⟩ := faultTaken_spec hu
  obtain ⟨move, records, held⟩ :=
    applyMethod_held (e := e) ((move?_congr mm _).trans hm) hp hs hv lies
  have ended : FaultEnded e b v m.tag .held (fun n => n.state = .suspended)
      (fun x => x = { u.fault with clearance := false, reserved := x.reserved }) (b.majorFault e v) :=
    faultEnded hb hm rfl hown (fun n hn => by rw [hn]; nofun) hu method
      (held.mono fun x ⟨w, w_eq, x_eq⟩ => by rw [x_eq, w_eq]) records
  exact ⟨ended.move.trans move, ended⟩

/-- A MAJOR fault of an empty vehicle on its way to the source of its BOUND move (R53, R160, R161). -/
theorem Blocks.majorFault_returns {e : Env} {b : Blocks} {v u : Vehicle} {m : Move}
    (hu : b.vehicle? v.id = some u) (hub : u.bound = some m.tag) (hb : v.bound = some m.tag)
    (hown : m.tag.home = e.cfg.bay.val) (hm : b.move? m.tag = some m) (hv : m.vehicle = some v.id)
    (hp : m.poisoned = false) (hs : m.state = .bound) (hst : v.state = .toSource) :
    (∃ y, (b.majorFault e v).move? m.tag = some y ∧ y.state = .waiting ∧ y.endMethod = some .clean ∧
        y.retry = min (m.retry + 1) 255 ∧ y.terms = m.terms ∧ y.vehicle = none) ∧
      FaultEnded e b v m.tag .clean (fun n => n.state = .waiting ∧ n.vehicle = none)
        (fun x => x = { u.fault with bound := none, arrival := none, reserved := x.reserved })
        (b.majorFault e v) := by
  have method : chooseMethod m.state m.checkHold v.state m.lastHoist v.carrier v.hoist .major = .clean := by
    rw [hs, hst]
    exact chooseMethod_clean
  obtain ⟨lies, mm, -⟩ := faultTaken_spec hu
  obtain ⟨move, records, cleaned⟩ :=
    applyMethod_clean (e := e) ((move?_congr mm _).trans hm) hp hs hv lies fun x hx => by rw [hx]; exact hub
  have ended : FaultEnded e b v m.tag .clean (fun n => n.state = .waiting ∧ n.vehicle = none)
      (fun x => x = { u.fault with bound := none, arrival := none, reserved := x.reserved })
      (b.majorFault e v) :=
    faultEnded hb hm rfl hown (fun n hn => by rw [hn.1]; nofun) hu method
      (cleaned.mono fun x ⟨w, w_eq, x_eq⟩ => by rw [x_eq, w_eq]) records
  rw [ended.move]
  exact ⟨move, ended⟩

/-- A vehicle that has a MAJOR fault is FAULTED (R16). -/
theorem Blocks.lies_majorFault {e : Env} {b : Blocks} {v u : Vehicle} (hu : b.vehicle? v.id = some u) :
    Lies v.id (Vehicle.slack u.fault) (b.majorFault e v) :=
  ((b.becomeFaulted v.id).vehicleFault_spec e v .major).1 _ _ (Vehicle.slack.kept u.fault)
    ((becomeFaulted_spec hu).1.mono fun x hx => ⟨.inl (by rw [hx]), .inl (by rw [hx]), by rw [hx]⟩)

/-! ### The REPORT of a MAJOR fault (R7, R16) -/

theorem Vehicle.begins_of_idle {v : Vehicle} {a : Action} {r : Report} (hh : r.hoist = .idle)
    (hj : r.jobDone = false) : v.begins a r = false := by
  simp [begins, hoistMoves, hh, hj]

/-- Between taking its fields and its faults, the REPORT of a vehicle under way whose hoist is idle and whose job
is not done changes nothing (R12 to R14). -/
theorem Blocks.steps_of_idle {e : Env} {b : Blocks} {r : Report} {y : Vehicle} {n : Nat} {read : Option CarrierId}
    (hy : b.vehicle? r.vehicle = some y) (hs : y.state = .loaded ∨ y.state = .toSource) (hh : r.hoist = .idle)
    (hj : r.jobDone = false) (hp : r.place = .segment n) :
    (((b.travelStep e r).loadStep e r).unloadStep e r read).strayStep e r = b := by
  have travel : b.travelStep e r = b := by
    unfold travelStep
    rw [hy]
    dsimp only
    rw [if_neg (by simp [refusedEntry, hp]), hp]
    dsimp only
    rw [if_neg]
    rcases hs with hs | hs <;> simp [hs]
  have load : b.loadStep e r = b := by
    unfold loadStep
    rw [hy]
    dsimp only
    split
    · rfl
    · rw [if_neg (by simp [Vehicle.begins_of_idle hh hj]), if_neg]
      rcases hs with hs | hs <;> simp [hs]
  have unload : b.unloadStep e r read = b := by
    unfold unloadStep
    rw [hy]
    dsimp only
    split
    · rfl
    · rw [if_neg (by simp [Vehicle.begins_of_idle hh hj]), if_neg]
      rcases hs with hs | hs <;> simp [hs]
  have stray : b.strayStep e r = b := by
    unfold strayStep
    rw [hy]
    dsimp only
    rw [if_neg]
    simp [Vehicle.strays, hh, hoistWorking]
  rw [travel, load, unload, stray]

/-- A vehicle that is down is not parked (R19). -/
theorem Blocks.parkStep_of_down {e : Env} {b : Blocks} {r : Report} {x : Vehicle}
    (hx : b.vehicle? r.vehicle = some x) (hd : x.down) : b.parkStep e r = b := by
  unfold parkStep
  rw [hx]
  dsimp only
  rcases hd with h | h <;> rw [if_neg (by simp [h]), if_neg (by simp [h])]

theorem Blocks.report_major {e : Env} {b : Blocks} {r : Report} {v : Vehicle} {n : Nat}
    (hv : b.vehicle? r.vehicle = some v) (hr : v.relearn = false) (hs : v.state = .loaded ∨ v.state = .toSource)
    (hl : r.level = .major) (hh : r.hoist = .idle) (hj : r.jobDone = false) (hp : r.place = .segment n)
    (hn : n ≤ e.exitSeg) :
    ∃ y, (b.heardFields e v r).vehicle? r.vehicle = some y ∧ y.id = r.vehicle ∧ y.state = v.state ∧
      y.bound = v.bound ∧ y.carrier = r.carrier ∧ y.hoist = r.hoist ∧
      b.report e r = (b.heardFields e v r).majorFault e y := by
  have taken : b.takeReport e v r = b.heardFields e v r := by
    rw [takeReport_eq hr, hl]
    rfl
  obtain ⟨y, hy, -, y_eq⟩ := takeReport_entry (e := e) hv hr hp
  have y_id : y.id = r.vehicle := (vehicle?_mem _ hy).2
  have y_state : y.state = v.state := by rw [y_eq]
  rw [taken] at hy
  refine ⟨y, hy, y_id, y_state, by rw [y_eq], by rw [y_eq], by rw [y_eq], ?_⟩
  rw [← y_state] at hs
  have not_down : y.state ≠ .faulted ∧ y.state ≠ .silent := by
    rcases hs with hs | hs <;> simp [hs]
  let c := b.heardFields e v r
  have major : c.majorStep e r = c.majorFault e y := by
    unfold majorStep
    rw [hy]
    exact if_pos ⟨hl, not_down⟩
  obtain ⟨x, hx, slack⟩ := (lies_majorFault (e := e) (b := c) (v := y) (by rw [y_id]; exact hy)).entry
  rw [y_id] at hx
  have parked : (c.majorFault e y).parkStep e r = c.majorFault e y := by
    refine parkStep_of_down hx (.inr ?_)
    rw [slack.2.2]
    rfl
  have was : (c.vehicle? r.vehicle).any (fun v => v.state == .faulted) = false := by
    rw [hy]
    simp [not_down]
  unfold report placed
  rw [hv, hp]
  dsimp only
  rw [if_neg (by simp [hn]), if_neg (fun h => not_down.2 (y_state.trans h.1)), taken]
  unfold transitions
  dsimp only
  rw [steps_of_idle hy hs hh hj hp, major, was]
  exact parked

end Sys2Proof.Machine
end

section
/-! PROOFS. The recovery state ends, and MAJOR faults begin it (R159 to R163): O50. -/
namespace Sys2Proof.Machine

/-- A command that is an occasion for a call pass alone leaves roster and lists as its effect made them. -/
theorem State.run_called {s : State} {f : Env → Blocks → Blocks} (hr : s.rested)
    (ha : (f s.env s.b.quiet).agenda = { Agenda.none with call := true }) :
    Calm s.env (f s.env s.b.quiet) (s.run f).b ∧ (s.run f).b.zc = (f s.env s.b.quiet).zc := by
  refine ⟨State.run_calm hr (by rw [ha]; rfl), ?_⟩
  rw [State.run_rested hr]
  exact (Blocks.settle_of_call s.env _ s.b (by rw [ha]; rfl) (by rw [ha]; rfl) (by rw [ha]; rfl)).1

/-- RECOVERING ends at its deadline (R162). -/
theorem State.recoveryDeadline_ends {s : State} {w : Watch} (hr : s.rested)
    (hrec : s.b.fu.recovery = .recovering) (hw : s.b.fu.watch = some w)
    (hd : passed s.now w.deadline 0 = true) :
    Answers .recoveryDeadline s fun t =>
      t.b.fu = { s.b.fu with recovery := .normal, watch := none } ∧ t.b.zc = s.b.zc := by
  let g : Env → Blocks → Blocks := fun e b =>
    if b.fu.watch.any fun w => passed e.now w.deadline 0 then b.watchDone else b
  have ran : exec .recoveryDeadline s = .next (s.run g) := rfl
  have effect : g s.env s.b.quiet =
      (s.b.quiet.modFU fun x => { x with recovery := .normal, watch := none }).wantCall := by
    have due : (s.b.quiet.fu.watch.any fun w => passed s.env.now w.deadline 0) = true := by
      rw [show s.b.quiet.fu.watch = some w from hw]
      exact hd
    show (if _ then _ else _) = _
    rw [if_pos due]
    exact if_pos hrec
  obtain ⟨calm, zc⟩ := State.run_called (f := g) hr (by
    rw [effect]
    exact congrArg (fun a : Agenda => ({ a with call := true } : Agenda)) hr.1)
  refine ⟨_, ran, ?_, ?_⟩
  · rw [calm.fu, effect]
    rfl
  · rw [zc, effect]
    rfl

/-- RESUME is refused outside RESTRICTED, and while a vehicle is down (R163). -/
theorem State.resume_refused {s : State} {x : Result} (ha : s.cl.node.active = true) (hr : s.rested)
    (hc : s.b.checkResume = x) (hx : x ≠ .ok) :
    Answers .resume s fun t =>
      t.b.out.service = some (.result x) ∧ t.b.fu = s.b.fu ∧ SameBay s.b t.b := by
  obtain ⟨answer, bay, -, fu⟩ := State.serve_refused
    (reads := fun _ b => if b.fu.recovery = .restricted then [.roster] else [])
    (check := fun _ => Blocks.checkResume) (act := fun _ b => (b.modFU FU.resume).wantCall) ha hr hc hx rfl
  exact ⟨_, rfl, answer, fu, bay⟩

/-- RESUME ends RESTRICTED (R163). -/
theorem State.resume_taken {s : State} (ha : s.cl.node.active = true) (hr : s.rested)
    (hc : s.b.checkResume = .ok) :
    Answers .resume s fun t =>
      t.b.out.service = some (.result .ok) ∧ t.b.fu.recovery = .normal ∧
      t.b.fu.anyMulti = false ∧ t.b.fu.first = s.b.fu.first ∧ t.b.zc = s.b.zc := by
  obtain ⟨g, run, effect⟩ := State.serve_taken
    (reads := fun _ b => if b.fu.recovery = .restricted then [.roster] else [])
    (check := fun _ => Blocks.checkResume) (act := fun _ b => (b.modFU FU.resume).wantCall) ha hr hc rfl
  have ran : exec .resume s = .next (s.run g) := congrArg Host.Outcome.next run
  obtain ⟨calm, zc⟩ := State.run_called (f := g) hr (by
    rw [effect]
    exact congrArg (fun a : Agenda => ({ a with call := true } : Agenda)) hr.1)
  refine ⟨_, ran, ?_, ?_, ?_, ?_, ?_⟩
  · rw [calm.service, effect]
    rfl
  · rw [calm.fu, effect]
    rfl
  · rw [calm.fu, effect]
    rfl
  · rw [calm.fu, effect]
    rfl
  · rw [zc, effect]
    rfl

/-! ### The fault itself -/

/-- What the Fault Unit makes of a vehicle's fault (R161). -/
theorem Blocks.vehicleStep_fu {e : Env} {b : Blocks} {id : Nat} {tag : Tag} {x : EndMethod} :
    let f : FirstFault := ⟨.vehicle, some id, some tag, some x, e.now⟩
    (b.fu.recovery = .normal → (b.recoveryStep e f).fu = { b.fu with
      recovery := .recovering
      first := some f
      watch := some ⟨some id, after e.now (e.cfg.tRec * 1000)⟩ }) ∧
    (b.fu.recovery = .recovering →
      (b.fu.first.bind FirstFault.vehicle = some id → (b.recoveryStep e f).fu = b.fu) ∧
      (b.fu.first.bind FirstFault.vehicle ≠ some id → (b.recoveryStep e f).fu =
        { b.fu with recovery := .restricted, multiVehicle := true, watch := none })) ∧
    (b.fu.recovery = .restricted → (b.recoveryStep e f).fu = { b.fu with multiVehicle := true }) := by
  intro f
  obtain ⟨normal, recovering, restricted⟩ := recoveryStep_fu e f b
  refine ⟨normal, fun h => ⟨fun same => (recovering h).1 ⟨rfl, same⟩, fun other => ?_⟩, restricted⟩
  exact (recovering h).2 fun both => other both.2

/-- The REPORT of a MAJOR fault of a vehicle that works for a move of this table (R16, R53, R159 to R161). -/
theorem State.report_major {s : State} {r : Report} {v : Vehicle} {m : Move} (hr : s.rested)
    (hrun : s.cl.node.running = true) (hv : s.b.vehicle? r.vehicle = some v) (hrel : v.relearn = false)
    (hb : v.bound = some m.tag) (hown : m.tag.home = s.cl.cfg.bay.val) (hm : s.b.move? m.tag = some m)
    (hmv : m.vehicle = some v.id) (hpo : m.poisoned = false) (hl : r.level = .major) (hh : r.hoist = .idle)
    (hj : r.jobDone = false) (hp : r.place = .segment v.segment) (hn : v.segment ≤ s.cl.cfg.loopLen + 1)
    (hs : (v.state = .loaded ∧ m.state = .carrying ∧ r.carrier = true) ∨
      (v.state = .toSource ∧ m.state = .bound ∧ r.carrier = false)) :
    Answers (.report r []) s fun t =>
      (∃ x, t.b.vehicle? r.vehicle = some x ∧ x.state = .faulted ∧
        x.bound = (if m.state = .bound then none else some m.tag)) ∧
      (∃ y, t.b.move? m.tag = some y ∧ y.terms = m.terms ∧
        (m.state = .carrying → y.state = .suspended ∧ y.endMethod = some .held ∧ y.wait = none) ∧
        (m.state = .bound → (y.state = .waiting ∨ y.state = .bound ∨ y.state = .calling) ∧
          y.endMethod = some .clean ∧ y.retry = min (m.retry + 1) 255)) ∧
      t.b.flag .vehicle = true ∧
      ∃ c : Blocks, c.fu = s.b.fu ∧ t.b.fu = (c.recoveryStep s.env ⟨.vehicle, some v.id, some m.tag,
        some (if m.state = .bound then .clean else .held), s.now⟩).fu := by
  let g : Env → Blocks → Blocks := fun e b => if e.node.running then b.report e r else b
  have ran : exec (.report r []) s = .next (s.run g) :=
    congrArg Host.Outcome.next (State.runFailing_nil _ g s)
  have hid : v.id = r.vehicle := (Blocks.vehicle?_mem _ hv).2
  let a := s.b.quiet.heardFields s.env v r
  have told : Told (Vehicle.reported s.env r) s.b.quiet a := Blocks.told_heardFields hid
  obtain ⟨y, hy, y_id, y_state, y_bound, y_carrier, y_hoist, report⟩ := Blocks.report_major (e := s.env)
    (b := s.b.quiet) hv hrel (hs.imp And.left And.left) hl hh hj hp hn
  have effect : g s.env s.b.quiet = a.majorFault s.env y := (if_pos hrun).trans report
  have hm_a : a.move? m.tag = some m := (Blocks.move?_congr told.mm _).trans hm
  have hmv_y : m.vehicle = some y.id := by rw [hmv, hid, y_id]
  have hy' : a.vehicle? y.id = some y := by
    rw [y_id]
    exact hy
  have calm_of (h : (a.majorFault s.env y).agenda.follow = a.agenda.follow) :
      Calm s.env (a.majorFault s.env y) (s.run g).b := by
    rw [← effect]
    refine State.run_calm (f := g) hr ?_
    rw [effect]
    exact h.trans (congrArg Agenda.follow (told.agenda.trans hr.1))
  refine ⟨_, ran, ?_⟩
  rcases hs with ⟨hst, hms, hcar⟩ | ⟨hst, hms, hcar⟩
  · obtain ⟨move, ended⟩ := Blocks.majorFault_suspends (e := s.env) hy' (y_bound.trans hb) hown hm_a hmv_y hpo
      hms (y_carrier.trans hcar) (y_hoist.trans hh) (fun h => by rw [y_state, hst] at h; cases h)
    have calm := calm_of ended.follow
    obtain ⟨x, hx, x_eq⟩ := ended.lies.calm calm
    obtain ⟨c, fu, recovery⟩ := ended.recovery
    have not_bound : m.state ≠ .bound := by rw [hms]; nofun
    rw [if_neg not_bound, if_neg not_bound]
    refine ⟨⟨x, by rw [← y_id]; exact hx, by rw [x_eq]; rfl, ?_⟩, ⟨m.heldBy, ?_, rfl,
      fun _ => ⟨rfl, rfl, rfl⟩, fun h => absurd h not_bound⟩, ?_, c, fu.trans told.fu, ?_⟩
    · rw [x_eq]
      exact y_bound.trans hb
    · refine (calm.move?_eq fun n hn ht => ?_).trans move
      simp [Move.candidate, ended.records n hn ht]
    · rw [calm.flag .vehicle nofun]
      exact ended.flag
    · rw [calm.fu, recovery, y_id, hid]
      rfl
  · obtain ⟨⟨z, move, z_state, z_method, z_retry, z_terms, -⟩, ended⟩ :=
      Blocks.majorFault_returns (e := s.env) hy' (y_bound.trans hb) (y_bound.trans hb) hown hm_a hmv_y hpo hms
        (y_state.trans hst)
    have calm := calm_of ended.follow
    obtain ⟨x, hx, x_eq⟩ := ended.lies.calm calm
    obtain ⟨c, fu, recovery⟩ := ended.recovery
    obtain ⟨w, hw, passed⟩ := calm.move?_some move
    obtain ⟨terms, retry, method, -⟩ := passed.keeps
    have not_carrying : m.state ≠ .carrying := by rw [hms]; nofun
    rw [if_pos hms, if_pos hms]
    refine ⟨⟨x, by rw [← y_id]; exact hx, by rw [x_eq]; rfl, by rw [x_eq]⟩, ⟨w, hw, terms.trans z_terms,
      fun h => absurd h not_carrying, fun _ => ⟨?_, method.trans z_method, retry.trans z_retry⟩⟩, ?_,
      c, fu.trans told.fu, ?_⟩
    · rcases passed.state_cases with h | h | h
      · exact .inl (h.trans z_state)
      · exact .inr (.inl h)
      · exact .inr (.inr h)
    · rw [calm.flag .vehicle nofun]
      exact ended.flag
    · rw [calm.fu, recovery, y_id, hid]
      rfl

/-- Settles O50. The end-method is found from the state of the move, and the recovery step that follows it reads
and writes the Fault Unit alone. -/
theorem recoveryEnds : Obligations.RecoveryEnds := by
  intro s hr
  refine ⟨fun w hrec hw hd => State.recoveryDeadline_ends hr hrec hw hd, fun ha => ⟨fun hrec => ?_, fun hrec =>
    ⟨fun down => ?_, fun up => ?_⟩⟩, ?_⟩
  · exact State.resume_refused ha hr (if_pos hrec) nofun
  · refine State.resume_refused ha hr ?_ nofun
    obtain ⟨v, hv, h⟩ := down
    unfold Blocks.checkResume
    rw [if_neg (not_not.2 hrec), if_pos (List.any_eq_true.2 ⟨v, hv, by rcases h with h | h <;> simp [h]⟩)]
  · refine State.resume_taken ha hr ?_
    unfold Blocks.checkResume
    rw [if_neg (not_not.2 hrec), if_neg]
    intro some_down
    obtain ⟨v, hv, h⟩ := List.any_eq_true.1 some_down
    obtain ⟨not_faulted, not_silent⟩ := up v hv
    simp [not_faulted, not_silent] at h
  · intro r v m tag hrun hv hrel hb hown hm hmv hpo hl hh hj hp hn hs
    obtain rfl : m.tag = tag := (Blocks.move?_mem _ hm).2
    obtain ⟨t, ran, vehicle, move, flag, c, fu, step⟩ :=
      State.report_major hr hrun hv hrel hb hown hm hmv hpo hl hh hj hp hn hs
    have table := Blocks.vehicleStep_fu (e := s.env) (b := c) (id := v.id) (tag := m.tag)
      (x := if m.state = .bound then .clean else .held)
    rw [fu] at table
    refine ⟨t, ran, vehicle, move, flag, ?_⟩
    rw [step]
    exact table

end Sys2Proof.Machine
end

section
/-! PROOFS. The passes assign free vehicles alone (R78, R80): no record comes to name a vehicle that is not
free. -/
namespace Sys2Proof.Machine

/-- No record of the tag names the vehicle. -/
def Blocks.Unassigned (tag : Tag) (id : Nat) (b : Blocks) : Prop :=
  ∀ m ∈ b.moveList, m.tag = tag → m.vehicle ≠ some id

namespace Blocks.Unassigned
variable {tag : Tag} {id : Nat} {e : Env} {b c : Blocks}

theorem of_mm (h : b.Unassigned tag id) (hc : c.mm = b.mm) : c.Unassigned tag id := by
  unfold Blocks.Unassigned Blocks.moveList at *
  rw [hc]
  exact h

theorem modMove {t : Tag} {f : Move → Move} (h : b.Unassigned tag id) (ht : ∀ m : Move, (f m).tag = m.tag)
    (hf : ∀ m : Move, m.vehicle ≠ some id → (f m).vehicle ≠ some id) :
    (b.modMove t f).Unassigned tag id := by
  intro n hn hn_tag
  rw [moveList_modMove] at hn
  obtain ⟨m, hm, rfl⟩ := List.mem_map.1 hn
  split
  next own =>
    rw [if_pos own, ht] at hn_tag
    exact hf m (h m hm hn_tag)
  next other =>
    rw [if_neg other] at hn_tag
    exact h m hm hn_tag

theorem sendGoto {x : Nat} {j : Job} (h : b.Unassigned tag id) : (b.sendGoto e x j).Unassigned tag id :=
  h.of_mm (b.sendGoto_frame e x j).2.1

theorem bind {m : Move} {x : Nat} (h : b.Unassigned tag id) (hx : x ≠ id) :
    (b.bind e m x).Unassigned tag id := by
  unfold Blocks.bind
  refine of_mm ?_ (Blocks.endCall_frame e _ m.tag).2.2.1
  refine sendGoto (of_mm (h.modMove (t := m.tag) (f := fun y =>
    { y with state := .bound, vehicle := some x, callId := none }) (fun _ => rfl) fun _ _ he => ?_) rfl)
  exact hx (Option.some.inj he)

theorem foldl {α : Type} {l : List α} {f : Blocks → α → Blocks} (h : b.Unassigned tag id)
    (hf : ∀ c a, c.Unassigned tag id → (f c a).Unassigned tag id) : (l.foldl f b).Unassigned tag id := by
  induction l generalizing b with
  | nil => exact h
  | cons a l ih => exact ih (hf b a h)

/-- The binding pass gives free vehicles alone (R78). -/
theorem bindPairs {n : Nat} (h : c.Unassigned tag id) (hc : Calm e b c)
    (hid : ∀ w ∈ b.vehicles, w.id = id → w.free = false) : (Blocks.bindPairs e n c).Unassigned tag id := by
  induction n generalizing c with
  | zero => exact h
  | succ n ih =>
    unfold Blocks.bindPairs
    split
    · exact h
    next m v hp =>
      obtain ⟨hm, hv⟩ := Blocks.nextPair_mem hp
      obtain ⟨hv, candidate⟩ := List.mem_filter.1 hv
      have free : v.free = true := (Bool.and_eq_true_iff.1 candidate).1
      refine ih (h.bind fun hx => ?_) (hc.bind hm hv free)
      obtain ⟨w, hw, hw_id, hw_free⟩ := hc.free_before hv free
      rw [hid w hw (hw_id.trans hx)] at hw_free
      cases hw_free

theorem bindPhase (h : b.Unassigned tag id) (hid : ∀ w ∈ b.vehicles, w.id = id → w.free = false) :
    (b.bindPhase e).Unassigned tag id := by
  unfold Blocks.bindPhase
  split
  · refine of_mm (c := Blocks.wantCall _) ?_ rfl
    unfold Blocks.passReleased
    refine foldl (h.bindPairs (e := e) .refl hid) fun c a h => ?_
    split
    · exact h
    · split
      · exact h.sendGoto
      · exact h
  · exact h

theorem parkPhase (h : b.Unassigned tag id) : (b.parkPhase e).Unassigned tag id := by
  unfold Blocks.parkPhase Blocks.parkAll
  split
  · split
    · exact h
    · refine h.foldl fun c a h => ?_
      unfold Blocks.parkOne
      split
      · exact h
      · split
        · split
          · exact h.sendGoto
          · exact h
        · exact h
  · exact h

theorem callPhase (h : b.Unassigned tag id) : (b.callPhase e).Unassigned tag id := by
  unfold Blocks.callPhase Blocks.callPass
  split
  · refine h.foldl fun c a h => ?_
    split
    · unfold Blocks.openCall
      refine of_mm (b := c.modMove a.tag fun x => { x with state := .calling, callId := some c.nextCall }) ?_ ?_
      · exact h.modMove (fun _ => rfl) fun _ h => h
      · exact Blocks.place_mm e _ _
    · exact h
  · exact h

/-- The end of a command gives a record of the tag no vehicle that is not free (R78, R80). -/
theorem settle {before : Blocks} (h : b.Unassigned tag id)
    (hid : ∀ w ∈ b.vehicles, w.id = id → w.free = false) (hf : b.agenda.follow = false) :
    (b.settle e before).Unassigned tag id := by
  obtain ⟨-, -, mm, -⟩ := Blocks.settle_frame e (b.passes e) before rfl
  rw [Blocks.settle_passes] at mm
  refine of_mm ?_ mm
  unfold Blocks.passes
  rw [Blocks.followPhase_of_not_follow hf]
  exact of_mm (h.bindPhase (e := e) hid).parkPhase.callPhase rfl

end Blocks.Unassigned

end Sys2Proof.Machine
end

section
/-! PROOFS. The REPORT of an idle vehicle (R5, R7, R15 to R19): it moves the entry, and nothing else. -/
namespace Sys2Proof.Machine

/-- The entry after an ordinary REPORT of a moving vehicle from segment `n` with its hoist idle (R5, R7). -/
def Vehicle.movedTo (e : Env) (r : Report) (v : Vehicle) (n : Nat) (x : Vehicle) : Vehicle :=
  { x with
    segment := n
    motion := .moving
    carrier := r.carrier
    carrierId := r.carrierId
    hoist := .idle
    level := r.level
    missed := 0
    lastReport := e.now
    grant := if n = v.segment then x.grant else none
    blocked := none
    capture := v.capture }

/-- A moving vehicle that holds no job reports from segment `n`, off any marker (R5, R7, R8). -/
theorem Blocks.heardFields_idle {e : Env} {b : Blocks} {v : Vehicle} {r : Report} {n : Nat}
    (hv : b.vehicle? r.vehicle = some v) (hr : v.relearn = false) (hs : v.state ≠ .silent) (hj : v.job = none)
    (hp : r.place = .segment n) (hm : r.motion = .moving) (hh : r.hoist = .idle) (ha : r.atMarker = false) :
    ∃ f : Vehicle → Vehicle, (∀ x, (f x).id = x.id) ∧ f v = v.movedTo e r n v ∧
      b.heardFields e v r =
        let c := b.modVehicle r.vehicle f
        if n = v.segment ∨ v.grant = some n then c else c.setFlag .vehicle := by
  have hid : v.id = r.vehicle := (vehicle?_mem _ hv).2
  let told : Vehicle → Vehicle := fun x =>
    { x with
      missed := 0
      lastReport := e.now
      motion := recordedMotion r.motion
      carrier := r.carrier
      carrierId := r.carrierId
      hoist := r.hoist
      level := r.level }
  let moved : Vehicle → Vehicle := fun x => { x with segment := n, grant := none, blocked := none }
  let going : Vehicle → Vehicle := fun x => { x with blocked := none }
  let captured : Vehicle → Vehicle := fun x => { x with capture := v.capture }
  let placed : Vehicle → Vehicle := if n = v.segment then told else fun x => moved (told x)
  let f : Vehicle → Vehicle := fun x => captured (going (placed x))
  have placed_id (x : Vehicle) : (placed x).id = x.id := by
    unfold placed
    split <;> rfl
  have place : b.placedBy e v r =
      if n = v.segment ∨ v.grant = some n then b.modVehicle r.vehicle placed
      else (b.modVehicle r.vehicle placed).setFlag .vehicle := by
    unfold placedBy takePlace
    rw [hp]
    dsimp only
    rw [if_neg (by rw [hr]; nofun), hid]
    by_cases stays : n = v.segment
    · rw [if_pos stays, if_pos (.inl stays)]
      unfold placed
      rw [if_pos stays]
      rfl
    · have both : (b.takeFields e r).modVehicle r.vehicle moved = b.modVehicle r.vehicle placed := by
        unfold placed
        rw [if_neg stays]
        exact Calm.modVehicle_modVehicle b r.vehicle fun _ => rfl
      rw [if_neg stays]
      show (if v.grant = some n then (b.takeFields e r).modVehicle r.vehicle moved
        else ((b.takeFields e r).modVehicle r.vehicle moved).setFlag .vehicle) = _
      rw [both]
      by_cases granted : v.grant = some n
      · rw [if_pos granted, if_pos (.inr granted)]
      · rw [if_neg granted, if_neg (not_or.2 ⟨stays, granted⟩)]
  have rest (d : Blocks) (hd : d.vehicle? r.vehicle = some (placed v)) :
      ((d.takeBlocked r).takeCapture e v r).takeEcho r =
        (d.modVehicle r.vehicle going).modVehicle r.vehicle captured := by
    have blocked : d.takeBlocked r = d.modVehicle r.vehicle going := by
      unfold takeBlocked
      rw [hm]
    have capture : (d.modVehicle r.vehicle going).takeCapture e v r =
        (d.modVehicle r.vehicle going).modVehicle r.vehicle captured := by
      unfold takeCapture
      dsimp only
      rw [if_neg (by rw [ha]; nofun), if_neg (not_or.2 ⟨by rw [hr]; nofun, hs⟩), hid, hm]
      rfl
    rw [blocked, capture]
    have entry : ((d.modVehicle r.vehicle going).modVehicle r.vehicle captured).vehicle? r.vehicle =
        some (f v) := by
      rw [(d.modVehicle r.vehicle going).vehicle?_modVehicle r.vehicle captured fun _ => rfl,
        d.vehicle?_modVehicle r.vehicle going fun _ => rfl, hd]
      rfl
    have no_job : (f v).job = none := by
      show (placed v).job = none
      unfold placed
      split <;> exact hj
    unfold takeEcho
    rw [entry]
    dsimp only
    rw [no_job]
  have entry : (b.modVehicle r.vehicle placed).vehicle? r.vehicle = some (placed v) := by
    rw [b.vehicle?_modVehicle r.vehicle placed placed_id, hv]
    rfl
  have merged : ((b.modVehicle r.vehicle placed).modVehicle r.vehicle going).modVehicle r.vehicle captured =
      b.modVehicle r.vehicle f := by
    rw [Calm.modVehicle_modVehicle b r.vehicle placed_id]
    exact Calm.modVehicle_modVehicle b r.vehicle placed_id
  refine ⟨f, placed_id, ?_, ?_⟩
  · unfold f placed Vehicle.movedTo
    split
    next stays =>
      simp only [captured, going, told, hm, hh, recordedMotion]
      rw [stays]
    next =>
      simp only [captured, going, told, moved, hm, hh, recordedMotion]
  · unfold heardFields
    rw [place]
    dsimp only
    split
    · rw [rest _ entry, merged]
    · rw [rest ((b.modVehicle r.vehicle placed).setFlag .vehicle) entry, ← merged]
      rfl

/-! ### The steps of a REPORT that have nothing to do (R12 to R16, R19) -/

section
variable {e : Env} {b : Blocks} {r : Report} {y : Vehicle}

theorem Blocks.travelStep_of_inside {n : Nat} (hy : b.vehicle? r.vehicle = some y) (hp : r.place = .segment n)
    (hs : y.state ≠ .entering) : b.travelStep e r = b := by
  unfold travelStep
  rw [hy]
  dsimp only
  rw [if_neg (by simp [refusedEntry, hp]), hp]
  exact if_neg fun h => hs h.1

theorem Blocks.loadStep_of_other (hy : b.vehicle? r.vehicle = some y) (hs : y.state ≠ .toSource)
    (hs' : y.state ≠ .loading) : b.loadStep e r = b := by
  unfold loadStep
  rw [hy]
  dsimp only
  split
  · rfl
  · rw [if_neg fun h => hs h.1, if_neg fun h => hs' h.1]

theorem Blocks.unloadStep_of_other {read : Option CarrierId} (hy : b.vehicle? r.vehicle = some y)
    (hs : y.state ≠ .loaded) (hs' : y.state ≠ .unloading) : b.unloadStep e r read = b := by
  unfold unloadStep
  rw [hy]
  dsimp only
  split
  · rfl
  · rw [if_neg fun h => hs h.1, if_neg hs']

theorem Blocks.strayStep_of_still (hy : b.vehicle? r.vehicle = some y) (hs : y.strays r = false) :
    b.strayStep e r = b := by
  unfold strayStep
  rw [hy]
  dsimp only
  rw [if_neg (by simp [hs])]

theorem Vehicle.strays_of_idle (hh : hoistWorking r.hoist = false) : y.strays r = false := by
  simp [strays, hh]

theorem Blocks.majorStep_of_level (hl : r.level ≠ .major) : b.majorStep e r = b := by
  unfold majorStep
  split
  · rfl
  · exact if_neg fun h => hl h.1

theorem Blocks.majorStep_of_faulted (hy : b.vehicle? r.vehicle = some y) (hs : y.state = .faulted) :
    b.majorStep e r = b := by
  unfold majorStep
  rw [hy]
  exact if_neg fun h => h.2.1 hs

theorem Blocks.clearStep_of_level (hl : r.level ≠ .none) : b.clearStep e r = b := by
  unfold clearStep
  split
  · rfl
  · exact if_pos (.inr (.inl hl))

theorem Blocks.parkStep_of_moving (hy : b.vehicle? r.vehicle = some y) (hs : y.state ≠ .parked)
    (hm : r.motion = .moving) : b.parkStep e r = b := by
  unfold parkStep
  rw [hy]
  dsimp only
  rw [if_neg (by simp [hm]), if_neg fun h => hs h.1]

/-- The REPORT of a moving IDLE vehicle in good order changes nothing beyond its fields (R12 to R16, R19). -/
theorem Blocks.transitions_of_idle {n : Nat} {read : Option CarrierId} (hy : b.vehicle? r.vehicle = some y)
    (hs : y.state = .idle) (hp : r.place = .segment n) (hh : r.hoist = .idle) (hm : r.motion = .moving)
    (hl : r.level ≠ .major) : b.transitions e r read = b := by
  unfold transitions
  dsimp only
  rw [travelStep_of_inside hy hp (by rw [hs]; nofun),
    loadStep_of_other hy (by rw [hs]; nofun) (by rw [hs]; nofun),
    unloadStep_of_other hy (by rw [hs]; nofun) (by rw [hs]; nofun),
    strayStep_of_still hy (Vehicle.strays_of_idle (by rw [hh]; rfl)), majorStep_of_level hl, hy,
    if_neg (by simp [hs]), parkStep_of_moving hy (by rw [hs]; nofun) hm]

/-- The REPORT of a FAULTED vehicle that is not in good order changes nothing beyond its fields. -/
theorem Blocks.transitions_of_faulted {n : Nat} {read : Option CarrierId} (hy : b.vehicle? r.vehicle = some y)
    (hs : y.state = .faulted) (hp : r.place = .segment n) (hh : r.hoist = .idle) (hl : r.level ≠ .none) :
    b.transitions e r read = b := by
  unfold transitions
  dsimp only
  rw [travelStep_of_inside hy hp (by rw [hs]; nofun),
    loadStep_of_other hy (by rw [hs]; nofun) (by rw [hs]; nofun),
    unloadStep_of_other hy (by rw [hs]; nofun) (by rw [hs]; nofun),
    strayStep_of_still hy (Vehicle.strays_of_idle (by rw [hh]; rfl)), majorStep_of_faulted hy hs, hy,
    if_pos (by simp [hs]), clearStep_of_level hl]

end

/-- The ordinary REPORT of an IDLE vehicle that holds no job (R5, R7). -/
theorem State.report_moves {s : State} {r : Report} {v : Vehicle} {n : Nat} (hrun : s.cl.node.running = true)
    (hr : s.rested) (hv : s.b.vehicle? r.vehicle = some v) (hp : r.place = .segment n)
    (hn : n ≤ s.cl.cfg.loopLen + 1) (hm : r.motion = .moving) (hh : r.hoist = .idle)
    (hw : s.b.fu.watch.bind Watch.vehicle ≠ some v.id) (hl : r.level = .none) (hrel : v.relearn = false)
    (hs : v.state = .idle) (hj : v.job = none) (ha : r.atMarker = false) :
    Answers (.report r []) s fun t =>
      t.b.vehicle? r.vehicle = some (v.movedTo s.env r n v) ∧
      t.b.flag .vehicle = (s.b.flag .vehicle || decide (n ≠ v.segment ∧ v.grant ≠ some n)) ∧
      SameVehiclesBut r.vehicle s.b t.b ∧ t.b.zc.inbound = s.b.zc.inbound ∧
      t.b.zc.segments = s.b.zc.segments ∧ t.b.mm = s.b.mm ∧ t.b.si = s.b.si ∧ t.b.fu = s.b.fu := by
  let g : Env → Blocks → Blocks := fun e b => if e.node.running then b.report e r else b
  have ran : exec (.report r []) s = .next (s.run g) :=
    congrArg Host.Outcome.next (State.runFailing_nil _ g s)
  have not_silent : v.state ≠ .silent := by rw [hs]; nofun
  obtain ⟨f, f_id, f_v, heard⟩ := Blocks.heardFields_idle (e := s.env) (b := s.b.quiet) hv hrel
    not_silent hj hp hm hh ha
  let c := s.b.quiet.modVehicle r.vehicle f
  dsimp only at heard
  have taken : s.b.quiet.takeReport s.env v r = s.b.quiet.heardFields s.env v r := by
    have watch : (s.b.quiet.heardFields s.env v r).watchVehicle v.id = s.b.quiet.heardFields s.env v r := by
      unfold Blocks.watchVehicle
      rw [(Blocks.told_heardFields (Blocks.vehicle?_mem _ hv).2).fu]
      exact if_neg hw
    rw [Blocks.takeReport_eq hrel, hl]
    exact watch
  obtain ⟨y, hy, -, y_eq⟩ := Blocks.takeReport_entry (e := s.env) (b := s.b.quiet) hv hrel hp
  have effect : g s.env s.b.quiet = if n = v.segment ∨ v.grant = some n then c else c.setFlag .vehicle := by
    refine (if_pos hrun).trans (Eq.trans ?_ heard)
    unfold Blocks.report placed
    rw [show s.b.quiet.vehicle? r.vehicle = some v from hv, hp]
    dsimp only
    have inside : n ≤ s.env.exitSeg := hn
    rw [if_neg (by simp [inside]), if_neg fun h => not_silent h.1,
      Blocks.transitions_of_idle hy (by rw [y_eq]; exact hs) hp hh hm (by rw [hl]; nofun), taken]
  have zc_c : (g s.env s.b.quiet).zc = c.zc := by
    rw [effect]
    split <;> rfl
  have rest : (g s.env s.b.quiet).agenda = Agenda.none := by
    rw [effect]
    split <;> exact hr.1
  have calm := State.run_calm (f := g) hr (by rw [rest]; rfl)
  obtain ⟨zc, si, mm, -⟩ := State.run_frame (f := g) hr rest
  have same {α : Type} (k : Blocks → α) (hk : k (c.setFlag .vehicle) = k c) : k (g s.env s.b.quiet) = k c := by
    rw [effect]
    split
    · rfl
    · exact hk
  refine ⟨_, ran, ?_, ?_, fun x hx => ?_, ?_, ?_, mm.trans (same Blocks.mm rfl), si.trans (same Blocks.si rfl),
    calm.fu.trans (same Blocks.fu rfl)⟩
  · rw [Blocks.vehicle?_congr (zc.trans zc_c), s.b.quiet.vehicle?_modVehicle r.vehicle f f_id,
      show s.b.quiet.vehicle? r.vehicle = some v from hv]
    exact congrArg some f_v
  · rw [calm.flag .vehicle nofun, effect]
    split
    next known =>
      rw [decide_eq_false (fun h => known.elim h.1 h.2), Bool.or_false]
      rfl
    next overrun =>
      rw [decide_eq_true (not_or.1 overrun), Bool.or_true]
      rfl
  · rw [Blocks.vehicle?_congr (zc.trans zc_c), s.b.quiet.vehicle?_modVehicle_of_ne f f_id hx]
    rfl
  · rw [zc, zc_c]
    rfl
  · rw [zc, zc_c]
    rfl

end Sys2Proof.Machine
end

section
/-! PROOFS. The REPORT of a vehicle whose entry is marked RELEARN (R18): its entry is rebuilt. -/
namespace Sys2Proof.Machine

/-- The fields of a REPORT are taken, before its echo is compared or its entry rebuilt (R7, R18). -/
def Blocks.seen (e : Env) (v : Vehicle) (r : Report) (b : Blocks) : Blocks :=
  ((b.placedBy e v r).takeBlocked r).takeCapture e v r

theorem Blocks.told_seen {e : Env} {v : Vehicle} {r : Report} {b : Blocks} (hid : v.id = r.vehicle) :
    Told (Vehicle.reported e r) b (b.seen e v r) :=
  ((Told.takeFields.takePlace hid).takeBlocked (Vehicle.reported.kept e r)).takeCapture
    (by rw [hid]; exact Vehicle.reported.kept e r)

/-- The entry of a RELEARN vehicle with the REPORT's fields, not yet rebuilt (R7, R18). -/
theorem Blocks.seen_entry {e : Env} {b : Blocks} {r : Report} {v : Vehicle} {n : Nat}
    (hv : b.vehicle? r.vehicle = some v) (hr : v.relearn = true) (hp : r.place = .segment n) :
    ∃ y, (b.seen e v r).vehicle? r.vehicle = some y ∧
      y = { v with
        missed := 0
        lastReport := e.now
        motion := recordedMotion r.motion
        carrier := r.carrier
        carrierId := r.carrierId
        hoist := r.hoist
        level := r.level
        segment := n
        grant := y.grant
        blocked := y.blocked
        capture := y.capture
        echo := y.echo
        jobDone := y.jobDone } := by
  have hid : v.id = r.vehicle := (vehicle?_mem _ hv).2
  let told : Vehicle → Vehicle := fun x =>
    { x with
      missed := 0
      lastReport := e.now
      motion := recordedMotion r.motion
      carrier := r.carrier
      carrierId := r.carrierId
      hoist := r.hoist
      level := r.level }
  let moved : Vehicle → Vehicle := fun x => { x with segment := n }
  have place : (b.placedBy e v r).vehicle? r.vehicle = some (moved (told v)) := by
    have placed : b.placedBy e v r = (b.modVehicle r.vehicle told).modVehicle r.vehicle moved := by
      unfold placedBy takePlace
      rw [hp]
      dsimp only
      rw [if_pos hr, hid]
      rfl
    rw [placed, (b.modVehicle r.vehicle told).vehicle?_modVehicle r.vehicle moved fun _ => rfl,
      b.vehicle?_modVehicle r.vehicle told fun _ => rfl, hv]
    rfl
  have kept := Vehicle.judged.kept r.vehicle
  have judged : Told Vehicle.judged (b.placedBy e v r) (b.seen e v r) :=
    ((Told.refl (R := Vehicle.judged) fun _ => by exact rfl).takeBlocked kept).takeCapture
      (by rw [hid]; exact kept)
  obtain ⟨z, hz, same⟩ := judged.vehicle?_some (fun _ _ h => by rw [h]) place
  refine ⟨z, hz, ?_⟩
  rw [show z = _ from same]

/-- The entry once the mark is cleared and the echoed job taken (R18). -/
def Vehicle.unlearned (r : Report) (reserved : Bool) (v : Vehicle) : Vehicle :=
  { v with relearn := false, job := some r.echo, echo := none, jobDone := r.jobDone, reserved := reserved }

/-- The blocks when the binding is to be found again (R18). -/
def Blocks.unlearn (r : Report) (b : Blocks) : Blocks :=
  (b.leaveQueue r.vehicle).modVehicle r.vehicle (Vehicle.unlearned r (b.bidNames r.vehicle))

/-- The state and clearance a rebuilt entry takes (R18). -/
def Vehicle.rebuiltAs (st : RosterState) (cleared : Bool) (v : Vehicle) : Vehicle :=
  { v with state := st, clearance := st == .toExit && cleared }

theorem Blocks.vehicle?_unlearn {b : Blocks} {r : Report} {y : Vehicle} (hy : b.vehicle? r.vehicle = some y) :
    (b.unlearn r).vehicle? r.vehicle = some (y.unlearned r (b.bidNames r.vehicle)) := by
  refine ((b.leaveQueue r.vehicle).vehicle?_modVehicle r.vehicle
    (Vehicle.unlearned r (b.bidNames r.vehicle)) fun _ => rfl).trans ?_
  rw [show (b.leaveQueue r.vehicle).vehicle? r.vehicle = some y from hy]
  rfl

/-- An empty moving vehicle that no record names is rebuilt IDLE (R18). -/
theorem Blocks.rebuild_idle {e : Env} {b : Blocks} {r : Report} {y : Vehicle}
    (hy : b.vehicle? r.vehicle = some y) (hn : b.recordOf r.vehicle = none) (hc : r.carrier = false)
    (hb : y.bound = none) (hm : r.motion = .moving) (hl : r.level ≠ .major) :
    (b.rebuild e r).vehicle? r.vehicle =
        some (((y.unlearned r (b.bidNames r.vehicle)).rebuiltAs .idle false).idled e.now) ∧
      (b.rebuild e r).mm = b.mm ∧ (b.rebuild e r).fu = b.fu ∧
      (b.rebuild e r).agenda.follow = b.agenda.follow := by
  have entry := vehicle?_unlearn hy
  let cleared := (b.unlearn r).clearedMove e r none
  have effect : b.rebuild e r =
      ((b.unlearn r).modVehicle r.vehicle (Vehicle.rebuiltAs .idle cleared)).makeIdle e r.vehicle := by
    have found : (b.unlearn r).findBinding e r = b.unlearn r := by
      unfold findBinding
      rw [show (b.unlearn r).recordOf r.vehicle = none from hn, hc]
      rfl
    have state : (b.unlearn r).rebuiltState e r none = .idle := by
      simp [rebuiltState, hc, standsParked, hm]
      split <;> rfl
    unfold rebuild
    dsimp only
    rw [show ((b.leaveQueue r.vehicle).modVehicle r.vehicle fun v =>
      { v with relearn := false, job := some r.echo, echo := none, jobDone := r.jobDone
               reserved := b.bidNames r.vehicle }) = b.unlearn r from rfl, found, entry]
    rw [show (some (y.unlearned r (b.bidNames r.vehicle))).bind Vehicle.bound = none from hb, state,
      if_neg fun h => hl h.1]
    rfl
  rw [effect]
  refine ⟨?_, rfl, rfl, rfl⟩
  let idled : Vehicle → Vehicle := fun v => { v with state := .idle, idleSince := e.now, clearance := false }
  refine (((b.unlearn r).modVehicle r.vehicle (Vehicle.rebuiltAs .idle cleared)).vehicle?_modVehicle r.vehicle
    idled fun _ => rfl).trans ?_
  rw [(b.unlearn r).vehicle?_modVehicle r.vehicle (Vehicle.rebuiltAs .idle cleared) fun _ => rfl, entry]
  rfl

theorem carryingState_ne_faulted (e : Env) (r : Report) : carryingState e r ≠ .faulted := by
  unfold carryingState
  split <;> (try split) <;> nofun

/-- The state of a vehicle found bound to a move of this table that is CARRYING or BOUND (R18). -/
theorem Blocks.rebuiltState_spec {e : Env} {b : Blocks} {r : Report} {m : Move}
    (hown : m.tag.home = e.cfg.bay.val) (hm : b.move? m.tag = some m)
    (hs : m.state = .carrying ∨ m.state = .bound) :
    b.rebuiltState e r (some m.tag) ≠ .faulted ∧
      (m.state = .bound → b.rebuiltState e r (some m.tag) = .toSource) := by
  have found : (if e.ownTag m.tag = true then b.move? m.tag else none) = some m := by
    rw [if_pos (by simp [Env.ownTag, hown]), hm]
  unfold rebuiltState
  dsimp only
  rw [found]
  rcases hs with hs | hs
  · dsimp only
    rw [hs]
    exact ⟨carryingState_ne_faulted e r, nofun⟩
  · dsimp only
    rw [hs]
    exact ⟨nofun, fun _ => rfl⟩

/-- The hoist at the moment of the fault is recorded for a vehicle at work, and for no other (R13, R14, R49). -/
theorem Blocks.faultHoist_spec {e : Env} {b : Blocks} {w : Vehicle} {m : Move} (hb : w.bound = some m.tag)
    (hown : m.tag.home = e.cfg.bay.val) (hm : b.move? m.tag = some m) :
    ∃ m', (b.faultHoist e w).move? m.tag = some m' ∧ m' = { m with lastHoist := m'.lastHoist } ∧
      (w.state = .unloading → m'.lastHoist = w.hoist) ∧ (b.faultHoist e w).zc = b.zc ∧
      (b.faultHoist e w).agenda = b.agenda := by
  let noted : Move → Move := fun x => { x with lastHoist := w.hoist }
  unfold faultHoist
  rw [hb, Option.filter_some, if_pos (by simp [Env.ownTag, hown])]
  dsimp only
  split
  · refine ⟨noted m, ?_, rfl, fun _ => rfl, rfl, rfl⟩
    refine (b.move?_modMove m.tag noted fun _ => rfl).trans ?_
    rw [hm]
    rfl
  next other => exact ⟨m, hm, rfl, fun h => absurd (.inr h) other, rfl, rfl⟩

/-- A vehicle found bound to its move that reports fault level MAJOR (R16, R18). -/
theorem Blocks.rebuild_major {e : Env} {b : Blocks} {r : Report} {y : Vehicle} {m : Move}
    (hy : b.vehicle? r.vehicle = some y) (hrec : b.recordOf r.vehicle = some m) (hm : b.move? m.tag = some m)
    (hown : m.tag.home = e.cfg.bay.val) (hl : r.level = .major) (hs : m.state = .carrying ∨ m.state = .bound) :
    ∃ c st cleared m', b.rebuild e r = Blocks.majorFault e
        (({ y.unlearned r (b.bidNames r.vehicle) with bound := some m.tag } : Vehicle).rebuiltAs st cleared) c ∧
      c.vehicle? r.vehicle = some
        (({ y.unlearned r (b.bidNames r.vehicle) with bound := some m.tag } : Vehicle).rebuiltAs st cleared) ∧
      (m.state = .bound → st = .toSource) ∧ c.move? m.tag = some m' ∧
      m' = { m with lastHoist := m'.lastHoist } ∧ (st = .unloading → m'.lastHoist = y.hoist) ∧
      c.agenda.follow = b.agenda.follow := by
  let binds : Vehicle → Vehicle := fun v => { v with bound := some m.tag }
  let u := y.unlearned r (b.bidNames r.vehicle)
  let found := (b.unlearn r).modVehicle r.vehicle binds
  let st := found.rebuiltState e r (some m.tag)
  let cleared := found.clearedMove e r (some m.tag)
  let c := found.modVehicle r.vehicle (Vehicle.rebuiltAs st cleared)
  let w := (binds u).rebuiltAs st cleared
  have entry : found.vehicle? r.vehicle = some (binds u) := by
    rw [(b.unlearn r).vehicle?_modVehicle r.vehicle binds fun _ => rfl, vehicle?_unlearn hy]
    rfl
  have entry_c : c.vehicle? r.vehicle = some w := by
    rw [found.vehicle?_modVehicle r.vehicle (Vehicle.rebuiltAs st cleared) fun _ => rfl, entry]
    rfl
  obtain ⟨not_faulted, bound_st⟩ := rebuiltState_spec (r := r) hown (show found.move? m.tag = some m from hm) hs
  obtain ⟨m', hm', m'_eq, last, zc, agenda⟩ :=
    faultHoist_spec (b := c) (w := w) (e := e) rfl hown (show c.move? m.tag = some m from hm)
  refine ⟨c.faultHoist e w, st, cleared, m', ?_, (vehicle?_congr zc _).trans entry_c, bound_st, hm', m'_eq, last,
    congrArg Agenda.follow agenda⟩
  have binding : (b.unlearn r).findBinding e r = found := by
    unfold findBinding
    rw [show (b.unlearn r).recordOf r.vehicle = some m from hrec]
  have major : c.rebuiltMajor e r = (c.faultHoist e w).majorFault e w := by
    unfold rebuiltMajor
    rw [entry_c]
  unfold rebuild
  dsimp only
  rw [show ((b.leaveQueue r.vehicle).modVehicle r.vehicle fun v =>
    { v with relearn := false, job := some r.echo, echo := none, jobDone := r.jobDone
             reserved := b.bidNames r.vehicle }) = b.unlearn r from rfl, binding, entry]
  rw [show (some (binds u)).bind Vehicle.bound = some m.tag from rfl, if_pos ⟨hl, not_faulted⟩]
  exact major

end Sys2Proof.Machine
end

section
/-! PROOFS. The REPORT of an idle vehicle and of one marked RELEARN (R7, R18): O11. -/
namespace Sys2Proof.Machine

/-- Taking the REPORT of a RELEARN entry is rebuilding it, where no watch waits for the vehicle and its level is
no MINOR fault (R7, R18). -/
theorem Blocks.takeReport_relearn {e : Env} {b : Blocks} {r : Report} {v : Vehicle} (hr : v.relearn = true)
    (hl : r.level ≠ .minor)
    (hw : r.level = .none → ((b.seen e v r).rebuild e r).fu.watch.bind Watch.vehicle ≠ some v.id) :
    b.takeReport e v r = (b.seen e v r).rebuild e r := by
  have taken : b.takeReport e v r =
      let c := if r.level = .none then ((b.seen e v r).rebuild e r).watchVehicle v.id
        else (b.seen e v r).rebuild e r
      if r.level = .minor then c.setFlag .vehicle else c := by
    unfold takeReport seen placedBy
    rw [hr]
    rfl
  rw [taken]
  dsimp only
  rw [if_neg hl]
  split
  next none =>
    unfold watchVehicle
    exact if_neg (hw none)
  · rfl

/-- A RELEARN entry is rebuilt, and the transitions come after it (R18; log 58). -/
theorem Blocks.report_relearn {e : Env} {b : Blocks} {r : Report} {v : Vehicle} {n : Nat}
    (hv : b.vehicle? r.vehicle = some v) (hr : v.relearn = true) (hp : r.place = .segment n)
    (hn : n ≤ e.exitSeg) :
    b.report e r = (b.takeReport e v r).transitions e r (r.carrierId <|> v.carrierId) := by
  unfold report placed
  rw [hv, hp]
  dsimp only
  rw [if_neg (by simp [hn]), if_neg (by simp [hr])]

theorem Blocks.recordOf_congr {b c : Blocks} (h : c.mm = b.mm) (id : Nat) : c.recordOf id = b.recordOf id := by
  unfold recordOf moveList
  rw [h]

/-- A moving, empty vehicle that no record names is rebuilt IDLE (R18). -/
theorem State.report_rebuilds {s : State} {r : Report} {v : Vehicle} {n : Nat} (hrun : s.cl.node.running = true)
    (hr : s.rested) (hv : s.b.vehicle? r.vehicle = some v) (hb : v.bound = none) (hp : r.place = .segment n)
    (hn : n ≤ s.cl.cfg.loopLen + 1) (hm : r.motion = .moving) (hh : r.hoist = .idle)
    (hw : s.b.fu.watch.bind Watch.vehicle ≠ some v.id) (hc : r.carrier = false) (hl : r.level = .none)
    (hrel : v.relearn = true) (hrec : s.b.recordOf v.id = none) (hnone : s.b.candidateMoves = []) :
    Answers (.report r []) s fun t =>
      ∃ x, t.b.vehicle? r.vehicle = some x ∧ x.relearn = false ∧ x.state = .idle ∧
        x.segment = n ∧ x.bound = none ∧ x.carrier = false ∧ x.hoist = .idle ∧ x.missed = 0 ∧
        x.lastReport = s.now ∧ x.idleSince = s.now ∧ x.clearance = false ∧
        x.reserved = s.b.bidNames v.id := by
  let g : Env → Blocks → Blocks := fun e b => if e.node.running then b.report e r else b
  have ran : exec (.report r []) s = .next (s.run g) :=
    congrArg Host.Outcome.next (State.runFailing_nil _ g s)
  have hid : v.id = r.vehicle := (Blocks.vehicle?_mem _ hv).2
  let a := s.b.quiet.seen s.env v r
  have told : Told (Vehicle.reported s.env r) s.b.quiet a := Blocks.told_seen hid
  obtain ⟨y, hy, y_eq⟩ := Blocks.seen_entry (e := s.env) (b := s.b.quiet) hv hrel hp
  have y_bound : y.bound = none := by
    rw [y_eq]
    exact hb
  have hrec_a : a.recordOf r.vehicle = none := by
    rw [Blocks.recordOf_congr told.mm, ← hid]
    exact hrec
  obtain ⟨entry, mm, fu, follow⟩ := Blocks.rebuild_idle (e := s.env) (b := a) hy hrec_a hc y_bound hm
    (by rw [hl]; nofun)
  have taken : s.b.quiet.takeReport s.env v r = a.rebuild s.env r :=
    Blocks.takeReport_relearn hrel (by rw [hl]; nofun) fun _ => by
      rw [fu, told.fu]
      exact hw
  have effect : g s.env s.b.quiet = a.rebuild s.env r := by
    refine (if_pos hrun).trans ((Blocks.report_relearn (e := s.env) (b := s.b.quiet) hv hrel hp hn).trans ?_)
    rw [taken]
    exact Blocks.transitions_of_idle entry rfl hp hh hm (by rw [hl]; nofun)
  have calm := State.run_calm (f := g) hr (by
    rw [effect]
    exact follow.trans (congrArg Agenda.follow (told.agenda.trans hr.1)))
  rw [effect] at calm
  have no_candidate : (a.rebuild s.env r).candidateMoves = [] := by
    unfold Blocks.candidateMoves Blocks.moveList at hnone ⊢
    rw [mm, told.mm]
    exact hnone
  obtain ⟨x, hx, x_eq⟩ := calm.vehicle?_of_no_candidate no_candidate entry
  have reserved : a.bidNames r.vehicle = s.b.bidNames v.id := by
    unfold Blocks.bidNames
    rw [told.du, hid]
    rfl
  rw [reserved, y_eq] at x_eq
  refine ⟨_, ran, x, hx, ?_⟩
  rw [x_eq]
  exact ⟨rfl, rfl, rfl, hb, hc, hh, rfl, rfl, rfl, rfl, rfl⟩

/-- A RELEARN vehicle whose move is found again, and which reports fault level MAJOR (R16, R18, R53). -/
theorem State.report_rebuilds_faulted {s : State} {r : Report} {v : Vehicle} {n : Nat} {m : Move}
    (hrun : s.cl.node.running = true) (hr : s.rested) (hv : s.b.vehicle? r.vehicle = some v)
    (hp : r.place = .segment n) (hn : n ≤ s.cl.cfg.loopLen + 1) (hh : r.hoist = .idle) (hrel : v.relearn = true)
    (hl : r.level = .major) (hrec : s.b.recordOf v.id = some m) (hm : s.b.move? m.tag = some m)
    (hown : m.tag.home = s.cl.cfg.bay.val) (hpo : m.poisoned = false)
    (hs : (m.state = .carrying ∧ r.carrier = true) ∨ (m.state = .bound ∧ r.carrier = false)) :
    Answers (.report r []) s fun t =>
      (∃ x, t.b.vehicle? r.vehicle = some x ∧ x.relearn = false ∧ x.state = .faulted ∧
        x.segment = n ∧ x.clearance = false ∧ x.level = .major ∧
        x.bound = (if m.state = .carrying then some m.tag else none)) ∧
      (∃ y, t.b.move? m.tag = some y ∧ y.terms = m.terms ∧
        (m.state = .carrying → y.state = .suspended ∧ y.endMethod = some .held ∧ y.wait = none) ∧
        (m.state = .bound → y.endMethod = some .clean ∧ y.vehicle ≠ some v.id)) ∧
      t.b.flag .vehicle = true := by
  let g : Env → Blocks → Blocks := fun e b => if e.node.running then b.report e r else b
  have ran : exec (.report r []) s = .next (s.run g) :=
    congrArg Host.Outcome.next (State.runFailing_nil _ g s)
  have hid : v.id = r.vehicle := (Blocks.vehicle?_mem _ hv).2
  let a := s.b.quiet.seen s.env v r
  have told : Told (Vehicle.reported s.env r) s.b.quiet a := Blocks.told_seen hid
  obtain ⟨y, hy, y_eq⟩ := Blocks.seen_entry (e := s.env) (b := s.b.quiet) hv hrel hp
  have hrec_a : a.recordOf r.vehicle = some m := by
    rw [Blocks.recordOf_congr told.mm, ← hid]
    exact hrec
  obtain ⟨c, st, cleared, m', rebuilt, entry, bound_st, hm', m'_eq, last, follow⟩ :=
    Blocks.rebuild_major (e := s.env) hy hrec_a ((Blocks.move?_congr told.mm _).trans hm) hown hl
      (hs.imp And.left And.left)
  let w : Vehicle :=
    ({ y.unlearned r (a.bidNames r.vehicle) with bound := some m.tag } : Vehicle).rebuiltAs st cleared
  have w_id : w.id = r.vehicle := (Blocks.vehicle?_mem _ entry).2
  have w_eq : w = ({ v with
      missed := 0
      lastReport := s.env.now
      motion := recordedMotion r.motion
      carrier := r.carrier
      carrierId := r.carrierId
      hoist := r.hoist
      level := r.level
      segment := n
      grant := y.grant
      blocked := y.blocked
      capture := y.capture
      relearn := false
      job := some r.echo
      echo := none
      jobDone := r.jobDone
      reserved := a.bidNames r.vehicle
      bound := some m.tag
      state := st
      clearance := st == .toExit && cleared } : Vehicle) := by
    unfold w
    rw [y_eq]
    rfl
  have tag_eq : m'.tag = m.tag := by rw [m'_eq]
  have state_eq : m'.state = m.state := by rw [m'_eq]
  have named : m'.vehicle = some w.id := by
    have h := (List.find?_eq_some_iff_append.1 hrec).1
    simp only [Bool.and_eq_true, beq_iff_eq] at h
    rw [m'_eq, w_id, ← hid]
    exact h.1
  have poisoned : m'.poisoned = false := by
    rw [m'_eq]
    exact hpo
  have hw : c.vehicle? w.id = some w := by
    rw [w_id]
    exact entry
  have taken : s.b.quiet.takeReport s.env v r = c.majorFault s.env w :=
    (Blocks.takeReport_relearn hrel (by rw [hl]; nofun) fun h => by rw [hl] at h; cases h).trans rebuilt
  obtain ⟨x₀, hx₀, slack⟩ := (Blocks.lies_majorFault (e := s.env) hw).entry
  rw [w_id] at hx₀
  have effect : g s.env s.b.quiet = c.majorFault s.env w := by
    refine (if_pos hrun).trans ((Blocks.report_relearn (e := s.env) (b := s.b.quiet) hv hrel hp hn).trans ?_)
    rw [taken]
    exact Blocks.transitions_of_faulted hx₀ (by rw [slack.2.2]; rfl) hp hh (by rw [hl]; nofun)
  have calm_of (h : (c.majorFault s.env w).agenda.follow = c.agenda.follow) :
      Calm s.env (c.majorFault s.env w) (s.run g).b := by
    rw [← effect]
    refine State.run_calm (f := g) hr ?_
    rw [effect]
    exact h.trans (follow.trans (congrArg Agenda.follow (told.agenda.trans hr.1)))
  have w_bound : w.bound = some m'.tag := by
    rw [tag_eq]
    rfl
  have hm'_c : c.move? m'.tag = some m' := by
    rw [tag_eq]
    exact hm'
  have hown' : m'.tag.home = s.env.cfg.bay.val := by
    rw [tag_eq]
    exact hown
  have w_hoist : w.hoist = .idle := by
    rw [w_eq]
    exact hh
  have y_hoist : y.hoist = .idle := by
    rw [y_eq]
    exact hh
  have w_carrier : w.carrier = r.carrier := by rw [w_eq]
  have w_level : w.level = .major := by
    rw [w_eq]
    exact hl
  have w_segment : w.segment = n := by rw [w_eq]
  refine ⟨_, ran, ?_⟩
  rcases hs with ⟨hms, hcar⟩ | ⟨hms, hcar⟩
  · obtain ⟨move, ended⟩ := Blocks.majorFault_suspends (e := s.env) hw w_bound hown' hm'_c named poisoned
      (state_eq.trans hms) (w_carrier.trans hcar) w_hoist fun h => (last h).trans y_hoist
    have calm := calm_of ended.follow
    obtain ⟨x, hx, x_eq⟩ := ended.lies.calm calm
    rw [tag_eq] at move ended
    have not_bound : m.state ≠ .bound := by rw [hms]; nofun
    rw [if_pos hms]
    refine ⟨⟨x, by rw [← w_id]; exact hx, by rw [x_eq]; rfl, by rw [x_eq]; rfl, ?_, by rw [x_eq], ?_, ?_⟩,
      ⟨m'.heldBy, ?_, ?_, fun _ => ⟨rfl, rfl, rfl⟩, fun h => absurd h not_bound⟩, ?_⟩
    · rw [x_eq]
      exact w_segment
    · rw [x_eq]
      exact w_level
    · rw [x_eq]
      rfl
    · refine (calm.move?_eq fun k hk ht => ?_).trans move
      simp [Move.candidate, ended.records k hk ht]
    · rw [m'_eq]
      rfl
    · rw [calm.flag .vehicle nofun]
      exact ended.flag
  · have w_state : w.state = .toSource := bound_st hms
    obtain ⟨⟨z, move, z_state, z_method, z_retry, z_terms, z_vehicle⟩, ended⟩ :=
      Blocks.majorFault_returns (e := s.env) hw w_bound w_bound hown' hm'_c named poisoned
        (state_eq.trans hms) w_state
    have calm := calm_of ended.follow
    obtain ⟨x, hx, x_eq⟩ := ended.lies.calm calm
    rw [tag_eq] at move ended
    obtain ⟨q, hq, passed⟩ := calm.move?_some move
    obtain ⟨terms, -, method, -⟩ := passed.keeps
    have not_carrying : m.state ≠ .carrying := by rw [hms]; nofun
    rw [if_neg not_carrying]
    refine ⟨⟨x, by rw [← w_id]; exact hx, by rw [x_eq]; rfl, by rw [x_eq]; rfl, ?_, ?_, ?_, by rw [x_eq]⟩,
      ⟨q, hq, ?_, fun h => absurd h not_carrying, fun _ => ⟨method.trans z_method, ?_⟩⟩, ?_⟩
    · rw [x_eq]
      exact w_segment
    · rw [x_eq, show w.fault.clearance = (st == .toExit && cleared) from rfl, bound_st hms]
      rfl
    · rw [x_eq]
      exact w_level
    · rw [terms, z_terms, m'_eq]
    · have unassigned : (c.majorFault s.env w).Unassigned m.tag v.id := fun k hk ht => by
        rw [(ended.records k hk ht).2]
        nofun
      have none_free : ∀ u ∈ (c.majorFault s.env w).vehicles, u.id = v.id → u.free = false := fun u hu hu_id => by
        rcases ended.lies.down u hu (hu_id.trans (hid.trans w_id.symm)) with h | h <;> simp [Vehicle.free, h]
      have kept : (s.run g).b.Unassigned m.tag v.id := by
        rw [State.run_rested hr, effect]
        refine unassigned.settle none_free ?_
        exact ended.follow.trans (follow.trans (congrArg Agenda.follow (told.agenda.trans hr.1)))
      obtain ⟨mem, q_tag⟩ := Blocks.move?_mem _ hq
      exact kept q mem q_tag
    · rw [calm.flag .vehicle nofun]
      exact ended.flag

/-- Settles O11. Taking the fields is all that an ordinary REPORT does; a rebuilt entry is IDLE, or FAULTED with
the end-method of the move its vehicle was found bound to. -/
theorem idleVehicleReportMovesEntry : Obligations.IdleVehicleReportMovesEntry := by
  intro s r v n hrun hr hv hb hp hn hm hh hw
  refine ⟨fun m hrel hl hrec hmv hown hpo hs => ?_, fun hc hl hrel hrec hnone => ?_,
    fun hc hl hrel hs hj ha => ?_⟩
  · exact State.report_rebuilds_faulted hrun hr hv hp hn hh hrel hl hrec hmv hown hpo hs
  · exact State.report_rebuilds hrun hr hv hb hp hn hm hh hw hc hl hrel hrec hnone
  · obtain ⟨t, ran, entry, rest⟩ := State.report_moves hrun hr hv hp hn hm hh hw hl hrel hs hj ha
    refine ⟨t, ran, entry.trans ?_, rest⟩
    unfold Vehicle.movedTo
    rw [hc, hl]
    rfl

end Sys2Proof.Machine
end

section
/-! PROOFS. O12 fails: nothing in its premises keeps a vehicle id from standing twice on the roster. -/
namespace Sys2Proof.Machine

/-! ### A roster that names a vehicle twice -/

/-- Bay 10 with a loop of two segments and a port on each. -/
def twinCfg : Cfg :=
  { Cfg.blank with
    bay := 10, nBays := 16, base := 320, limit := 351, loopLen := 2, checkMode := .holdMismatch
    segments := [⟨96, 2, 0⟩, ⟨80, 3, 0⟩, ⟨120, 3, 0⟩, ⟨72, 2, 0⟩]
    stations := [⟨321, .port, 1⟩, ⟨322, .port, 2⟩] }

/-- The job of vehicle 1: the load at station 321 for move 0. -/
def twinJob : Job := loadJob 321 ⟨10, 0⟩

/-- An IDLE entry of vehicle 1 on segment 1. -/
def idleTwin : Vehicle where
  id := 1
  segment := 1
  motion := .stopped
  carrier := false
  carrierId := none
  hoist := .idle
  level := .none
  state := .idle
  bound := none
  reserved := false
  job := none
  echo := none
  grant := none
  clearance := false
  lastReport := 0
  missed := 0
  idleSince := 0
  unexpected := false
  arrival := none
  relearn := false
  capture := none
  blocked := none
  jobDone := false
  phase := .idle
  portOff := false
  given := false

/-- The other entry of vehicle 1: at the end of the load. -/
def loadingTwin : Vehicle := { idleTwin with state := .loading, bound := some ⟨10, 0⟩, job := some twinJob }

/-- The move that is loading, which expects a carrier other than the one that is there. -/
def loadingMove : Move where
  tag := ⟨10, 0⟩
  source := 321
  dest := 322
  cls := .normal
  carrierId := some (List.replicate 8 66)
  acceptedAt := 0
  deadline := 900
  state := .loading
  destHeld := false
  vehicle := some 1
  callId := none
  consignId := none
  consignee := none
  endMethod := none
  retry := 0
  shelfSourced := false
  poisoned := false
  checkHold := false
  lastHoist := .idle
  recallAt := none
  wait := none
  cleared := false

/-- A move that waits for port 321, which is OFFLINE, to come back. -/
def heldMove : Move :=
  { loadingMove with
    tag := ⟨10, 1⟩, source := 322, dest := 321, state := .waiting, destHeld := true, vehicle := none
    carrierId := none }

/-- READY, with both entries of vehicle 1, the two moves, and port 321 OFFLINE. -/
def twins : State :=
  { State.reset with
    cl := { node := .ready, cfg := twinCfg, listenEnd := none }
    b := ((((((State.reset.b.configure twinCfg).modRoster (putFree loadingTwin)).modRoster
      (putFree idleTwin)).modMoves (putFree loadingMove)).modMoves (putFree heldMove)).modStation 321
        fun x => { x with state := .offline }) }

/-- The REPORT at the end of the load: hoist DONE, with another carrier than the expected one. -/
def twinReport : Report where
  vehicle := 1
  place := .segment 1
  atMarker := false
  motion := .stopped
  carrier := true
  carrierId := some (List.replicate 8 65)
  hoist := .done
  level := .none
  echo := twinJob
  jobDone := false

/-- The roster state of a vehicle in what a command answers. -/
def stateAfter (c : Instr) (s : State) (id : Nat) : Option RosterState :=
  match exec c s with
  | .next t => (t.b.vehicle? id).map Vehicle.state
  | _ => none

theorem stateAfter_of_next {c : Instr} {s t : State} {id : Nat} (h : exec c s = .next t) :
    stateAfter c s id = (t.b.vehicle? id).map Vehicle.state := by
  unfold stateAfter
  rw [h]

set_option maxRecDepth 20000 in
/-- The load frees port 321, which lets `heldMove` be bound to the IDLE entry; the binding is written into every
entry of that id. -/
theorem stateAfter_twins : stateAfter (.report twinReport []) twins 1 = some .toSource := by decide

set_option maxRecDepth 20000 in
/-- Refutes O12: in `twins` vehicle 1 stands twice on the roster, which the premises allow. The load ends in a
mismatch under HOLD-MISMATCH, but the binding pass of the same command takes the IDLE entry of vehicle 1 and makes
both entries TO-SOURCE, so its vehicle is not held LOADING. -/
theorem not_loweringStartsLoad : ¬ Obligations.LoweringStartsLoad := by
  intro h
  obtain ⟨loads, -⟩ := h twins twinReport loadingTwin loadingMove ⟨10, 0⟩ rfl (by decide) (by decide) rfl rfl rfl
    (by decide) rfl rfl rfl (by decide) rfl rfl rfl (by decide)
  obtain ⟨-, -, held⟩ := loads rfl rfl rfl rfl
  obtain ⟨t, ran, -, ⟨x, hx, loading, -⟩, -⟩ := held (by decide) rfl
  have after := stateAfter_twins
  rw [stateAfter_of_next ran, show t.b.vehicle? 1 = some x from hx, Option.map_some, loading] at after
  cases after

end Sys2Proof.Machine
end

section
/-! PROOFS. The poll round (R5, R6): it polls the entries in roster-index order, and no grant overfills a
segment. `Polls` follows the blocks through the round, and through the park requests after it. -/
namespace Sys2Proof.Machine

/-! ### Counting entries -/

theorem countP_of_forall₂ {α : Type} {R : α → α → Prop} {p : α → Bool} {l l' : List α}
    (h : List.Forall₂ R l l') (hp : ∀ x y, R x y → p y = p x) : l'.countP p = l.countP p := by
  induction h with
  | nil => rfl
  | cons hxy _ ih => rw [List.countP_cons, List.countP_cons, ih, hp _ _ hxy]

/-- Where ids stand once, a change of one entry that comes to be counted raises the count by one. -/
theorem countP_map_entry {p : Vehicle → Bool} {f : Vehicle → Vehicle} {v : Vehicle} {l : List Vehicle}
    (hl : (l.map Vehicle.id).Nodup) (hv : v ∈ l) (before : p v = false) (after : p (f v) = true) :
    (l.map fun x => if x.id == v.id then f x else x).countP p = l.countP p + 1 := by
  induction l with
  | nil => cases hv
  | cons w l ih =>
    obtain ⟨fresh, nodup⟩ := List.nodup_cons.1 hl
    rw [List.map_cons, List.countP_cons, List.countP_cons]
    by_cases hid : w.id = v.id
    · have own : w = v := by
        rcases List.mem_cons.1 hv with rfl | mem
        · rfl
        · exact absurd (hid ▸ List.mem_map_of_mem mem) fresh
      have rest : (l.map fun x => if x.id == v.id then f x else x) = l := by
        refine (List.map_congr_left fun x hx => ?_).trans l.map_id
        have other : x.id ≠ v.id := fun he => fresh (by rw [hid, ← he]; exact List.mem_map_of_mem hx)
        exact if_neg (by simpa using other)
      rw [rest, own]
      simp [before, after]
    · have mem : v ∈ l := (List.mem_cons.1 hv).resolve_left fun he => hid (he ▸ rfl)
      have same : (if w.id == v.id then f w else w) = w := if_neg (by simpa using hid)
      rw [ih nodup mem, same]
      omega

/-! ### What a delivery operation sends on the zone line -/

/-- The polls on the zone line. -/
def Blocks.pollsSent (b : Blocks) : List Nat := b.out.zone.filterMap ZoneMsg.polled

section
variable (e : Env) (b : Blocks)

theorem Blocks.pollsSent_emitZone (m : ZoneMsg) :
    (b.emitZone m).pollsSent = b.pollsSent ++ m.polled.toList := by
  show (b.out.zone ++ [m]).filterMap ZoneMsg.polled = _
  rw [List.filterMap_append]
  cases h : m.polled <;> simp [pollsSent, h]

theorem Blocks.pollsSent_sendGoto (id : Nat) (j : Job) : (b.sendGoto e id j).pollsSent = b.pollsSent := by
  have sent : ((b.modVehicle id (Vehicle.commanded j)).emitZone (.goto id j)).pollsSent = b.pollsSent :=
    (Blocks.pollsSent_emitZone _ _).trans (List.append_nil _)
  rcases b.sendGoto_cases e id j with ⟨-, h⟩ | ⟨-, d, rfl, h | h⟩
  · rw [h]
  · rw [h]
    exact sent
  · rw [h]
    exact sent

theorem Blocks.pollsSent_setReservation (n : Nat) (tag : Option Tag) :
    (b.setReservation n tag).pollsSent = b.pollsSent := by
  unfold setReservation
  split <;> rfl

theorem Blocks.pollsSent_aimAt (id n : Nat) (j : Job) : (b.aimAt e id n j).pollsSent = b.pollsSent :=
  b.pollsSent_sendGoto e id _

theorem Blocks.pollsSent_giveStation (id n : Nat) (j : Job) :
    (b.giveStation e id n j).pollsSent = b.pollsSent :=
  (Blocks.pollsSent_aimAt e ((b.leaveQueue id).setReservation n j.tag) id n j).trans
    ((b.leaveQueue id).pollsSent_setReservation n j.tag)

theorem Blocks.pollsSent_dropReservation (n : Nat) : (b.dropReservation e n).pollsSent = b.pollsSent := by
  unfold dropReservation offerShelf
  split
  · rfl
  · split
    · split
      · exact Blocks.pollsSent_giveStation ..
      · rfl
    · rfl

theorem Blocks.pollsSent_toShelf (v : Vehicle) (seg : Nat) (j : Job) :
    (b.toShelf e v seg j).pollsSent = b.pollsSent := by
  unfold toShelf
  split
  · exact (Blocks.pollsSent_aimAt ..).trans (b.pollsSent_setReservation _ _)
  · exact Blocks.pollsSent_sendGoto e (b.leaveQueue v.id) v.id _

theorem Blocks.pollsSent_decideDelivery (id : Nat) : (b.decideDelivery e id).pollsSent = b.pollsSent := by
  unfold decideDelivery
  split
  · rfl
  · split
    · split
      · rfl
      · split
        · rfl
        · split
          · exact b.pollsSent_setReservation _ _
          · refine (Blocks.pollsSent_toShelf ..).trans ?_
            split
            · exact b.pollsSent_dropReservation e _
            · rfl
    · rfl

theorem Blocks.pollsSent_parkPhase : (b.parkPhase e).pollsSent = b.pollsSent := by
  have parkOne (c : Blocks) (id : Nat) : (c.parkOne e id).pollsSent = c.pollsSent := by
    unfold Blocks.parkOne
    split
    · rfl
    · split
      · split
        · exact c.pollsSent_sendGoto e _ _
        · rfl
      · rfl
  have folded (l : List Vehicle) (c : Blocks) :
      (l.foldl (fun b v => b.parkOne e v.id) c).pollsSent = c.pollsSent := by
    induction l generalizing c with
    | nil => rfl
    | cons v l ih => exact (ih _).trans (parkOne c v.id)
  unfold parkPhase parkAll
  split
  · split
    · rfl
    · exact folded _ b
  · rfl

end

/-! ### What a poll round leaves alone -/

/-- A poll may give a job and a delivery state, and a grant to an entry not marked RELEARN. -/
def Vehicle.polled (v v' : Vehicle) : Prop :=
  (v.relearn = true → v'.grant = v.grant) ∧
    v' = { v with state := v'.state, job := v'.job, echo := v'.echo, jobDone := v'.jobDone
                  given := v'.given, grant := v'.grant }

theorem Vehicle.delivered.polled {v v' : Vehicle} (h : v.delivered v') : v.polled v' := by
  refine ⟨fun _ => ?_, ?_⟩ <;> rw [h.2]

theorem Vehicle.polled.trans {v w u : Vehicle} (h : v.polled w) (h' : w.polled u) : v.polled u := by
  refine ⟨fun hr => ?_, ?_⟩
  · exact (h'.1 (by rw [h.2]; exact hr)).trans (h.1 hr)
  · rw [h'.2, h.2]

/-- The blocks after the polls of `ids`, in this order. -/
structure Polls (b : Blocks) (ids : List Nat) (c : Blocks) : Prop where
  polls : c.pollsSent = b.pollsSent ++ ids
  inbound : c.zc.inbound = b.zc.inbound
  segments : c.zc.segments = b.zc.segments
  fu : c.fu = b.fu
  sp : c.sp = b.sp
  agenda : c.agenda = { b.agenda with park := c.agenda.park }
  vehicles : List.Forall₂ Vehicle.polled b.vehicles c.vehicles
  room : ∀ n, c.grantedIn n = b.grantedIn n ∨ c.occupancy n + c.grantedIn n ≤ c.working n

namespace Polls
variable {e : Env} {b c d : Blocks} {ids : List Nat}

theorem refl : Polls b [] b where
  polls := (List.append_nil _).symm
  inbound := rfl
  segments := rfl
  fu := rfl
  sp := rfl
  agenda := rfl
  vehicles := List.forall₂_same.2 fun v _ => (Vehicle.delivered.refl v).polled
  room _ := .inl rfl

theorem working (h : Polls b ids c) (n : Nat) : c.working n = b.working n := by
  unfold Blocks.working Blocks.seg?
  rw [h.segments]

theorem occupancy (h : Polls b ids c) (n : Nat) : c.occupancy n = b.occupancy n :=
  countP_of_forall₂ h.vehicles fun v v' hv => by rw [hv.2]

theorem ids_eq (h : Polls b ids c) : c.vehicles.map Vehicle.id = b.vehicles.map Vehicle.id := by
  refine (List.forall₂_eq_eq_eq ▸ List.forall₂_map_right_iff.2 (List.forall₂_map_left_iff.2 ?_) :
    _ = _).symm
  exact h.vehicles.imp fun v v' hv => by rw [hv.2]

theorem vehicle?_some (h : Polls b ids c) {id : Nat} {v : Vehicle} (hv : b.vehicle? id = some v) :
    ∃ x, c.vehicle? id = some x ∧ v.polled x := by
  rcases find?_of_forall₂ (p := fun v => v.id == id) h.vehicles fun _ _ hv => by rw [hv.2] with
    ⟨none, -⟩ | ⟨w, x, some, same, polled⟩
  · exact absurd (hv.symm.trans none) nofun
  · cases hv.symm.trans some
    exact ⟨x, same, polled⟩

/-- Delivery operations change no grant, and send no POLL. -/
theorem delivers (h : Polls b ids c) (hd : Delivers c d) (hp : d.pollsSent = c.pollsSent) :
    Polls b ids d where
  polls := hp.trans h.polls
  inbound := hd.inbound.trans h.inbound
  segments := hd.segments.trans h.segments
  fu := hd.fu.trans h.fu
  sp := hd.sp.trans h.sp
  agenda := by rw [hd.agenda, h.agenda]
  vehicles := forall₂_trans (fun hv hw => hv.trans (Vehicle.delivered.polled hw)) h.vehicles hd.vehicles
  room n := by
    have occupied : d.occupancy n = c.occupancy n :=
      countP_of_forall₂ hd.vehicles fun v v' hv => by rw [hv.2]
    have granted : d.grantedIn n = c.grantedIn n :=
      countP_of_forall₂ hd.vehicles fun v v' hv => by rw [hv.2]
    have same : d.working n = c.working n := by
      unfold Blocks.working Blocks.seg?
      rw [hd.segments]
    rw [occupied, granted, same]
    exact h.room n

theorem poll (h : Polls b ids c) {id : Nat} {go : Bool} :
    Polls b (ids ++ [id]) (c.emitZone (.poll id go)) :=
  { h with
    polls := by
      rw [Blocks.pollsSent_emitZone, h.polls, List.append_assoc]
      rfl }

/-- A grant into a segment with room fills it at most (R5). -/
theorem grant (h : Polls b ids c) {v : Vehicle} {n : Nat} (hv : c.vehicle? v.id = some v)
    (unique : (c.vehicles.map Vehicle.id).Nodup) (grantable : c.grantable v = true)
    (room : c.segRoom n = true) :
    Polls b ids (c.modVehicle v.id fun x => { x with grant := some n }) := by
  have mem := (c.vehicle?_mem hv).1
  unfold Blocks.grantable at grantable
  simp only [Bool.and_eq_true, Bool.not_eq_true', Option.isNone_iff_eq_none] at grantable
  obtain ⟨⟨⟨⟨ungranted, -⟩, -⟩, known⟩, -⟩ := grantable
  have only {x : Vehicle} (hx : x ∈ c.vehicles) (hid : (x.id == v.id) = true) : x = v :=
    List.inj_on_of_nodup_map unique hx mem (by simpa using hid)
  have moved : (c.modVehicle v.id fun x => { x with grant := some n }).vehicles = _ :=
    c.vehicles_modVehicle v.id _
  refine { h with vehicles := ?_, room := fun k => ?_ }
  · rw [moved]
    refine forall₂_trans Vehicle.polled.trans h.vehicles ?_
    rw [List.forall₂_map_right_iff]
    refine List.forall₂_same.2 fun x hx => ?_
    split
    next own =>
      refine ⟨fun hr => ?_, rfl⟩
      rw [only hx own] at hr
      exact absurd (hr.symm.trans known) nofun
    next => exact (Vehicle.delivered.refl x).polled
  · have occupied : (c.modVehicle v.id fun x => { x with grant := some n }).occupancy k = c.occupancy k := by
      unfold Blocks.occupancy
      rw [moved, List.countP_map]
      refine congrArg (fun p => c.vehicles.countP p) (funext fun x => ?_)
      dsimp only [Function.comp]
      split <;> rfl
    have same : (c.modVehicle v.id fun x => { x with grant := some n }).working k = c.working k := rfl
    rw [occupied, same]
    by_cases hk : k = n
    · right
      subst hk
      have raised : (c.modVehicle v.id fun x => { x with grant := some k }).grantedIn k =
          c.grantedIn k + 1 := by
        unfold Blocks.grantedIn
        rw [moved]
        exact countP_map_entry unique mem (by simp [ungranted]) (by simp [known])
      have free : c.occupancy k + c.grantedIn k < c.working k := of_decide_eq_true room
      omega
    · have kept : (c.modVehicle v.id fun x => { x with grant := some n }).grantedIn k = c.grantedIn k := by
        unfold Blocks.grantedIn
        rw [moved, List.countP_map]
        refine List.countP_congr fun x hx => ?_
        dsimp only [Function.comp]
        split
        next own =>
          rw [only hx own, ungranted]
          simp [Ne.symm hk]
        next => exact Iff.rfl
      rw [kept]
      exact h.room k

/-- One POLL (R5, R6, R14). -/
theorem step (h : Polls b ids c) {id : Nat} (unique : (b.vehicles.map Vehicle.id).Nodup)
    (hid : id ∈ b.vehicles.map Vehicle.id) : Polls b (ids ++ [id]) (c.poll e id) := by
  rw [← h.ids_eq] at unique hid
  unfold Blocks.poll
  cases found : c.vehicle? id with
  | none =>
    obtain ⟨w, hw, rfl⟩ := List.mem_map.1 hid
    exact absurd (beq_self_eq_true w.id) (List.find?_eq_none.1 found w hw)
  | some v =>
    obtain ⟨-, rfl⟩ := c.vehicle?_mem found
    dsimp only
    cases granted : c.grantNow e v with
    | none => exact h.poll
    | some n =>
      unfold Blocks.grantNow at granted
      split at granted
      next grantable =>
        have polled := (h.grant found unique grantable (Option.filter_eq_some_iff.1 granted).2).poll
          (id := v.id) (go := true)
        dsimp only
        split
        · exact polled.delivers Delivers.refl.decideDelivery (Blocks.pollsSent_decideDelivery ..)
        · exact polled
      next => cases granted

theorem foldl (h : Polls b ids c) (unique : (b.vehicles.map Vehicle.id).Nodup) {l : List Nat}
    (hl : ∀ id ∈ l, id ∈ b.vehicles.map Vehicle.id) :
    Polls b (ids ++ l) (l.foldl (Blocks.poll e) c) := by
  induction l generalizing ids c with
  | nil =>
    rw [List.append_nil]
    exact h
  | cons id l ih =>
    have next := ih (h.step (e := e) unique (hl id List.mem_cons_self)) fun x hx =>
      hl x (List.mem_cons_of_mem _ hx)
    rwa [List.append_assoc] at next

/-- At the end of the command park requests may follow, and no other pass. -/
theorem settled (h : Polls b ids c) (hb : b.agenda = Agenda.none) {d before : Blocks}
    (hd : d = c.settle e before) :
    d.pollsSent = b.pollsSent ++ ids ∧ d.zc.inbound = b.zc.inbound ∧ d.zc.segments = b.zc.segments ∧
      d.fu = b.fu ∧ List.Forall₂ Vehicle.polled b.vehicles d.vehicles ∧
      ∀ n, d.occupancy n = b.occupancy n ∧
        (d.grantedIn n = b.grantedIn n ∨ d.occupancy n + d.grantedIn n ≤ d.working n) := by
  have parked := h.delivers (Delivers.refl.parkPhase (e := e)) (c.pollsSent_parkPhase e)
  have passes : c.passes e = { c.parkPhase e with agenda := Agenda.none } := by
    unfold Blocks.passes Blocks.bindPhase Blocks.callPhase
    have call : (c.parkPhase e).agenda.call = false := by rw [parked.agenda, hb]; rfl
    rw [Blocks.followPhase_of_not_follow (by rw [h.agenda, hb]; rfl), h.agenda, hb]
    simp [Agenda.none, call]
  obtain ⟨zc, -, -, -, fu, out, -⟩ := Blocks.settle_frame e (c.passes e) before rfl
  rw [Blocks.settle_passes, ← hd, passes] at zc fu out
  have vehicles : d.vehicles = (c.parkPhase e).vehicles := congrArg (fun z : ZC => live z.roster) zc
  have occupied (n : Nat) : d.occupancy n = (c.parkPhase e).occupancy n := by
    unfold Blocks.occupancy
    rw [vehicles]
  have granted (n : Nat) : d.grantedIn n = (c.parkPhase e).grantedIn n := by
    unfold Blocks.grantedIn
    rw [vehicles]
  have same (n : Nat) : d.working n = (c.parkPhase e).working n := by
    unfold Blocks.working Blocks.seg?
    rw [zc]
  refine ⟨?_, ?_, ?_, fu.trans parked.fu, ?_, fun n => ⟨?_, ?_⟩⟩
  · unfold Blocks.pollsSent
    rw [out]
    exact parked.polls
  · rw [zc]
    exact parked.inbound
  · rw [zc]
    exact parked.segments
  · rw [vehicles]
    exact parked.vehicles
  · rw [occupied]
    exact parked.occupancy n
  · rw [occupied, granted, same]
    exact parked.room n

end Polls

/-! ### The obligation -/

/-- A failed bit in the body of a roster entry marks the entry RELEARN (R18, R168). -/
theorem Blocks.parityError_roster {e : Env} {b : Blocks} {i : Nat} {v : Vehicle}
    (hv : b.zc.roster[i]? = some (some v)) :
    b.parityError e ⟨.roster, i, false⟩ =
      (((b.bump .parity).setFlag .memory).modVehicle v.id (Vehicle.spoil b.free)).draw := by
  have found : (b.zc.roster[i]?).join = some v := congrArg Option.join hv
  unfold parityError
  dsimp only
  rw [found]
  rfl

/-- Settles O10, by `Polls` over the fold of the round, from the blocks that the failed bit leaves. -/
theorem pollRoundPollsRosterAndGrantsRoom : Obligations.PollRoundPollsRosterAndGrantsRoom := by
  intro s hrun hs unique
  have nodup : (s.b.vehicles.map Vehicle.id).Nodup := (List.nodup_append.1 unique).1
  let f : Env → Blocks → Blocks := fun e b =>
    if e.node.running then (b.vehicles.map Vehicle.id).foldl (Blocks.poll e) b else b
  have round (b : Blocks) (hb : (b.vehicles.map Vehicle.id).Nodup) :
      Polls b (b.vehicles.map Vehicle.id) (f s.env b) := by
    rw [show f s.env b = (b.vehicles.map Vehicle.id).foldl (Blocks.poll s.env) b from if_pos hrun]
    exact Polls.refl.foldl hb fun _ h => h
  refine ⟨?_, fun i v hv => ?_⟩
  · have ran : exec (.pollRound []) s = .next (s.run f) :=
      congrArg Host.Outcome.next (State.runFailing_nil _ f s)
    obtain ⟨polls, inbound, segments, fu, -, room⟩ :=
      (round s.b.quiet nodup).settled hs.2.1 (State.run_rested hs.2 f)
    exact ⟨_, ran, polls, room, inbound, segments, fu⟩
  · let g : Env → Blocks → Blocks := fun e b => f e (b.parityError e ⟨.roster, i, false⟩)
    let b₁ := (s.b.quiet.bump .parity).setFlag .memory
    let b₂ := (b₁.modVehicle v.id (Vehicle.spoil s.b.quiet.free)).draw
    have ran : exec (.pollRound [⟨.roster, i, false⟩]) s = .next (s.run g) :=
      congrArg _ (State.runFailing_one s (p := ⟨.roster, i, false⟩) rfl f)
    have effect : g s.env s.b.quiet = f s.env b₂ :=
      congrArg (f s.env) (Blocks.parityError_roster (b := s.b.quiet) hv)
    have ids : b₂.vehicles.map Vehicle.id = s.b.vehicles.map Vehicle.id := by
      rw [show b₂.vehicles = _ from b₁.vehicles_modVehicle v.id _, List.map_map]
      refine List.map_congr_left fun x _ => ?_
      dsimp only [Function.comp]
      split <;> rfl
    have polled := round b₂ (by rw [ids]; exact nodup)
    have rest : b₂.agenda = Agenda.none := hs.2.1
    obtain ⟨polls, inbound, segments, fu, vehicles, -⟩ :=
      polled.settled rest (d := (s.run g).b) (before := s.b) (by rw [State.run_rested hs.2, effect])
    have calm := State.run_calm (f := g) hs.2 (by rw [effect, polled.agenda, rest]; rfl)
    rw [effect] at calm
    have mem : v ∈ s.b.vehicles := List.mem_filterMap.2 ⟨some v, List.mem_of_getElem? hv, rfl⟩
    have found : b₁.vehicle? v.id = some v := find?_of_mem_of_nodup (key := Vehicle.id) nodup mem
    have spoiled : b₂.vehicle? v.id = some (v.spoil s.b.quiet.free) := by
      refine (b₁.vehicle?_modVehicle v.id (Vehicle.spoil s.b.quiet.free) fun _ => rfl).trans ?_
      rw [found]
      rfl
    refine ⟨_, ran, ?_, ?_, ?_, ?_, inbound, segments, fu⟩
    · rcases find?_of_forall₂ (p := fun x => x.id == v.id) vehicles fun _ _ hx => by rw [hx.2] with
        ⟨none, -⟩ | ⟨w, x, some, found, kept, eq⟩
      · exact absurd (spoiled.symm.trans none) nofun
      · cases spoiled.symm.trans some
        refine ⟨x, found, ?_, ?_, kept rfl, ?_⟩ <;> rw [eq] <;> rfl
    · rw [calm.flag .memory nofun]
      unfold Blocks.flag
      rw [polled.sp]
      rfl
    · refine State.raised_of_bump hs.1 ((calm.counter .parity (by decide)).trans ?_)
      unfold Blocks.counter
      rw [polled.sp]
      rfl
    · exact polls.trans ids

end Sys2Proof.Machine
end

section
/-! PROOFS. A DONE that comes in (R56, R57, R122), and what it does to the move it names. -/
namespace Sys2Proof.Machine

/-! ### Freeing, with its counters (R56) -/

section
variable {e : Env} {b : Blocks} {tag : Tag} {m : Move} {o : MoveOutcome}

/-- Counting a freed move touches the counters alone. -/
theorem Blocks.countFreed_eq (e : Env) (m : Move) (o : MoveOutcome) (b : Blocks) :
    b.countFreed e m o = { b with sp := (b.countFreed e m o).sp } := by
  cases o <;> rfl

/-- A delivery is counted once for its class; its age bin is another counter. -/
theorem Blocks.counter_countFreed (ho : o = .delivered ∨ o = .deliveredToShelf) :
    (b.countFreed e m o).counter (.completed m.cls) =
      (b.bump (.completed m.cls)).counter (.completed m.cls) := by
  have other (k : Nat) : (Counter.completed m.cls).index ≠ (Counter.bin m.cls k).index := by
    simp only [Counter.index]
    cases m.cls <;> simp only [classCode] <;> omega
  rcases ho with rfl | rfl
  · exact Blocks.counter_bump_of_ne (other _)
  · exact Blocks.counter_bump_of_ne (other _)

/-- What freeing a move leaves (R56). -/
theorem Blocks.freeMove_spec (hm : b.move? tag = some m) (o : MoveOutcome) :
    (b.freeMove e tag o).out.station = b.out.station ++ [.moveDone tag o] ∧
      (b.freeMove e tag o).move? tag = none ∧
      (∀ x ∈ (b.freeMove e tag o).stationList, x.active ≠ some tag) ∧
      (b.freeMove e tag o).zc = (b.unname e m tag).zc ∧
      ((∀ x ∈ b.stationList, x.followOnDue = false) →
        ∀ x ∈ (b.freeMove e tag o).stationList, x.followOnDue = false) ∧
      (o = .delivered ∨ o = .deliveredToShelf → b.sp.counters.length = SP.counterCount →
        (b.freeMove e tag o).counter (.completed m.cls) =
          (b.bump (.completed m.cls)).counter (.completed m.cls)) := by
  obtain ⟨closes, calls, active⟩ := b.unnamed_unname e m tag
  let d := ((b.unname e m tag).modMoves (freeWhere fun x => x.tag == tag)).emitStation (.moveDone tag o)
  have freed : b.freeMove e tag o = d.countFreed e m o := Blocks.freeMove_eq hm o
  rw [freed]
  refine ⟨?_, ?_, ?_, ?_, fun due => ?_, fun ho width => ?_⟩
  · rw [d.countFreed_eq]
    show (b.unname e m tag).out.station ++ _ = _
    rw [closes.station]
    rfl
  · rw [d.countFreed_eq]
    exact (b.unname e m tag).move?_free tag
  · rw [d.countFreed_eq]
    exact active
  · rw [d.countFreed_eq]
    rfl
  · rw [d.countFreed_eq]
    exact closes.not_due (Blocks.not_due_clearActive tag due)
  · have index (x : Blocks) (hx : x.sp.counters.length = SP.counterCount) :
        (Counter.completed m.cls).index < x.sp.counters.length := by
      rw [hx]
      exact Counter.index_lt _
    have kept : d.counter (.completed m.cls) = b.counter (.completed m.cls) :=
      closes.counter _ (by cases m.cls <;> decide)
    rw [Blocks.counter_countFreed ho, Blocks.counter_bump_self (index d (closes.width.trans width)),
      Blocks.counter_bump_self (index b width), kept]

end

/-! ### Stranding (R54, R57) -/

/-- The record of a move that is stranded (R54). -/
def Move.stranded (m : Move) : Move :=
  { m with
    state := .stranded
    endMethod := some .lost
    vehicle := none
    callId := none
    wait := none
    checkHold := false }

theorem Blocks.strand_mm {e : Env} {b : Blocks} {tag : Tag} {m : Move} (hm : b.move? tag = some m) :
    (b.strand e tag).mm = (b.modMove tag Move.stranded).mm := by
  have dropped : ((b.modMove tag Move.stranded).dropDelivery e tag).mm = (b.modMove tag Move.stranded).mm :=
    (Delivers.refl.dropDelivery (e := e)).mm
  unfold strand
  rw [hm]
  dsimp only
  split
  · exact dropped
  · split
    · exact dropped
    · split
      · exact dropped
      · exact dropped

/-! ### A delivery that is dropped while nobody waits (R32, R36) -/

/-- With an empty wait queue a reservation is dropped, and no more. -/
theorem Blocks.dropReservation_of_empty {e : Env} {b : Blocks} (hw : b.si.waitQueue = []) (n : Nat) :
    b.dropReservation e n = b.modStation n fun s => { s with reservation := none } := by
  have nobody (c : Blocks) (hc : c.si.waitQueue = []) : c.offerShelf e n = c := by
    unfold offerShelf oldestWaiter
    rw [hc]
    split
    · rfl
    · split <;> rfl
  exact nobody _ hw

/-- The stations of these numbers are reserved no longer. -/
theorem Blocks.dropAll_of_empty {e : Env} {b : Blocks} (hw : b.si.waitQueue = []) (l : List Nat) :
    (l.foldl (fun b n => b.dropReservation e n) b).zc = b.zc ∧
      (l.foldl (fun b n => b.dropReservation e n) b).agenda = b.agenda ∧
      ∀ x ∈ (l.foldl (fun b n => b.dropReservation e n) b).stationList,
        ∃ y ∈ b.stationList, y.number = x.number ∧
          (x.reservation = none ∨ x.reservation = y.reservation ∧ x.number ∉ l) := by
  induction l generalizing b with
  | nil => exact ⟨rfl, rfl, fun x hx => ⟨x, hx, rfl, .inr ⟨rfl, List.not_mem_nil⟩⟩⟩
  | cons n l ih =>
    let c := b.modStation n fun s => { s with reservation := none }
    obtain ⟨zc, agenda, stations⟩ := ih (b := c) hw
    rw [List.foldl_cons, Blocks.dropReservation_of_empty hw]
    refine ⟨zc, agenda, fun x hx => ?_⟩
    obtain ⟨y, hy, number, kept⟩ := stations x hx
    rw [show c.stationList = _ from b.stationList_modStations _ _] at hy
    obtain ⟨z, hz, rfl⟩ := List.mem_map.1 hy
    by_cases own : (z.number == n) = true
    · rw [if_pos own] at number kept
      exact ⟨z, hz, number, .inl (kept.elim id fun h => h.1)⟩
    · rw [if_neg own] at number kept
      refine ⟨z, hz, number, kept.imp_right fun h => ⟨h.1, ?_⟩⟩
      rintro (_ | ⟨_, mem⟩)
      · exact own (by simpa using number)
      · exact h.2 mem

/-- The end of a delivery leaves none of its reservations (R32). -/
theorem Blocks.dropDelivery_of_empty {e : Env} {b : Blocks} (hw : b.si.waitQueue = []) (tag : Tag) :
    (b.dropDelivery e tag).zc = b.zc ∧ (b.dropDelivery e tag).agenda = b.agenda ∧
      ∀ x ∈ (b.dropDelivery e tag).stationList, x.reservation ≠ some tag := by
  obtain ⟨zc, agenda, stations⟩ := Blocks.dropAll_of_empty (e := e) hw (b.reservedFor tag)
  refine ⟨zc, agenda, fun x hx reserved => ?_⟩
  obtain ⟨y, hy, number, free | ⟨same, other⟩⟩ := stations x hx
  · exact nomatch free.symm.trans reserved
  · refine other (List.mem_map.2 ⟨y, List.mem_filter.2 ⟨hy, ?_⟩, number⟩)
    rw [← same, reserved]
    exact beq_self_eq_true _

/-- Without a reservation of the delivery its end changes nothing (R32). -/
theorem Blocks.dropDelivery_of_unreserved {e : Env} {b : Blocks} {tag : Tag}
    (h : ∀ x ∈ b.stationList, x.reservation ≠ some tag) : b.dropDelivery e tag = b := by
  have none_reserved : b.reservedFor tag = [] := by
    unfold reservedFor
    rw [List.map_eq_nil_iff, List.filter_eq_nil_iff]
    intro x hx
    simpa using h x hx
  unfold dropDelivery
  rw [none_reserved]
  rfl

/-! ### A DONE that is taken, and one that is stray (R57) -/

section
variable {s : State} {k : Bay} {tag : Tag} {vehicle : Nat} {m : Move}

/-- What a DONE from bay `k` does, once its sender is greeted. -/
def Blocks.heardDone (k : Bay) (tag : Tag) (vehicle : Nat) (o : DoneOutcome) (e : Env) (b : Blocks) : Blocks :=
  (b.greet e k).takeDone e k.val tag vehicle o

theorem State.done_ran (hk : s.hears k) (o : DoneOutcome) :
    exec (.done k tag vehicle o) s = .next (s.run (Blocks.heardDone k tag vehicle o)) :=
  congrArg _ (hk.heardFrom rfl)

/-- The record that a DONE is taken for (R57). -/
theorem Blocks.doneMove_of_taken {e : Env} {b : Blocks} (hm : b.move? tag = some m)
    (hown : tag.home = e.cfg.bay.val) (hc : m.consignee = some k.val) (hp : m.poisoned = false)
    (hst : m.state = .consigned ∨ m.state = .suspended) : b.doneMove e k.val tag = some m := by
  unfold doneMove
  rw [if_pos (by simpa [Env.ownTag] using hown), hm, Option.filter_some, if_pos]
  rcases hst with h | h <;> simp [hp, hc, h]

/-- No record that a DONE from bay `k` is taken for: the DONE is stray (R57). -/
theorem Blocks.doneMove_of_stray {e : Env} {b : Blocks}
    (h : ∀ m, b.move? tag = some m → tag.home = e.cfg.bay.val → m.consignee = some k.val →
      m.poisoned = false → m.state ≠ .consigned ∧ m.state ≠ .suspended) :
    b.doneMove e k.val tag = none := by
  unfold doneMove
  split
  next own =>
    rw [Option.filter_eq_none_iff]
    intro m hm
    simp only [Bool.and_eq_true, Bool.or_eq_true, Bool.not_eq_true', beq_iff_eq, not_and, not_or]
    rintro ⟨hp, hc⟩
    exact h m hm (by simpa [Env.ownTag] using own) hc hp
  next => rfl

/-- Any other DONE is counted as stray and changes no record (R57). -/
theorem State.done_strays (hk : s.hears k) (hs : s.WellSized)
    (h : ∀ m, s.b.move? tag = some m → tag.home = s.cl.cfg.bay.val → m.consignee = some k.val →
      m.poisoned = false → m.state ≠ .consigned ∧ m.state ≠ .suspended) (o : DoneOutcome) :
    Answers (.done k tag vehicle o) s fun t =>
      Raised .strayDone s t ∧ SameBay s.b t.b ∧ SameBooks s.b t.b := by
  let g := Blocks.heardDone k tag vehicle o
  have greeted := hk.greeted
  have work := greeted.work
  let b := s.b.quiet.greet s.env k
  have effect : g s.env s.b.quiet = b.bump .strayDone := by
    have stray : b.doneMove s.env k.val tag = none := Blocks.doneMove_of_stray fun m hm hown =>
      h m ((work.move? tag).symm.trans hm) hown
    unfold g Blocks.heardDone Blocks.takeDone
    rw [stray]
  have rest : (g s.env s.b.quiet).agenda = Agenda.none := by
    rw [effect]
    exact work.agenda.trans hs.2.1
  obtain ⟨zc, si, mm, du, -⟩ := State.run_frame (f := g) hs.2 rest
  have calm := State.run_calm (f := g) hs.2 (by rw [rest]; rfl)
  rw [effect] at zc si mm du calm
  refine ⟨_, State.done_ran hk o, ?_, ⟨zc.trans work.zc, si.trans work.si, mm.trans work.mm⟩, ?_⟩
  · exact calm.raised hs.1 (by decide) (greeted.counter _ (by decide) (by decide)) greeted.width
  · refine Blocks.sameBooks_of_starve (x := (s.run g).b.du.starve) (du.trans ?_)
    rw [show (b.bump .strayDone).du = s.b.du from work.du]

/-- A DONE that frees its move (R55, R56, R57). -/
theorem State.done_frees {o : DoneOutcome} {q : MoveOutcome} (hk : s.hears k) (hs : s.WellSized)
    (hm : s.b.move? tag = some m) (hq : q = .delivered ∨ q = .deliveredToShelf)
    (hdue : ∀ x ∈ s.b.stationList, x.followOnDue = false)
    (hg : Blocks.heardDone k tag vehicle o s.env s.b.quiet =
      (s.b.quiet.greet s.env k).freeMove s.env tag q) :
    Answers (.done k tag vehicle o) s fun t =>
      t.b.out.station = [.moveDone tag q] ∧ t.b.move? tag = none ∧
        Raised (.completed m.cls) s t ∧ ∀ x ∈ t.b.stationList, x.active ≠ some tag := by
  have greeted := hk.greeted
  have work := greeted.work
  let b := s.b.quiet.greet s.env k
  have found : b.move? tag = some m := (work.move? tag).trans hm
  have width : s.b.quiet.sp.counters.length = SP.counterCount := by
    obtain ⟨⟨-, -, -, -, -, -, width, -⟩, -⟩ := hs
    exact width
  obtain ⟨station, gone, active, -, due, counted⟩ := Blocks.freeMove_spec (e := s.env) found q
  have calm := State.run_calm_of_not_due (f := Blocks.heardDone k tag vehicle o) hs.2 (by
    rw [hg]
    refine due fun x hx => hdue x ?_
    rwa [work.stationList] at hx)
  rw [hg] at calm
  have index (x : Blocks) (hx : x.sp.counters.length = SP.counterCount) :
      (Counter.completed m.cls).index < x.sp.counters.length := by
    rw [hx]
    exact Counter.index_lt _
  refine ⟨_, State.done_ran hk o, ?_, calm.move?_none gone, ?_, fun x hx => ?_⟩
  · rw [calm.station, station, show b.out = s.b.quiet.out from work.out]
    rfl
  · refine State.raised_of_bump hs.1 ((calm.counter _ (by cases m.cls <;> decide)).trans ?_)
    rw [counted hq (greeted.width.trans width), Blocks.counter_bump_self (index b (greeted.width.trans width)),
      Blocks.counter_bump_self (index _ width), greeted.counter _ (by cases m.cls <;> decide)
        (by cases m.cls <;> decide)]
  · rw [calm.stationList] at hx
    exact active x hx

/-- A DONE that leaves its move STRANDED (R54, R57). -/
theorem State.done_strands {o : DoneOutcome} (hk : s.hears k) (hs : s.WellSized)
    (hm : s.b.move? tag = some m)
    (hg : Blocks.heardDone k tag vehicle o s.env s.b.quiet = (s.b.quiet.greet s.env k).strand s.env tag) :
    Answers (.done k tag vehicle o) s fun t =>
      (∃ y, t.b.move? tag = some y ∧ y.state = .stranded ∧ y.endMethod = some .lost ∧
        y.vehicle = none ∧ y.terms = m.terms) ∧ t.b.out.station = [] := by
  have work := hk.greeted.work
  let b := s.b.quiet.greet s.env k
  have found : b.move? tag = some m := (work.move? tag).trans hm
  have closes : Closes tag b (b.strand s.env tag) := Closes.refl.strand
  have mm := Blocks.strand_mm (e := s.env) found
  have calm := State.run_calm (f := Blocks.heardDone k tag vehicle o) hs.2 (by
    rw [hg]
    exact closes.follow.trans (congrArg Agenda.follow (work.agenda.trans hs.2.1)))
  rw [hg] at calm
  refine ⟨_, State.done_ran hk o, ⟨m.stranded, ?_, rfl, rfl, rfl, rfl⟩, ?_⟩
  · refine (calm.move?_eq fun n hn ht => ?_).trans ?_
    · have list : (b.strand s.env tag).moveList = (b.modMove tag Move.stranded).moveList :=
        congrArg (fun x : MM => live x.moves) mm
      obtain ⟨x, -, -, rfl⟩ := Blocks.mem_modMove_tag (list ▸ hn) ht
      simp [Move.candidate, Move.stranded]
    · rw [Blocks.move?_congr mm, b.move?_modMove tag Move.stranded fun _ => rfl, found]
      rfl
  · rw [calm.station, closes.station, show b.out = s.b.quiet.out from work.out]
    rfl

/-- The record of a move that a DONE reports held, under the vehicle named (R57). -/
def Move.heldUnder (vehicle : Nat) (m : Move) : Move :=
  { m with state := .suspended, endMethod := some .held, vehicle := some vehicle }

/-- A DONE that leaves its move SUSPENDED (R32, R53, R57). -/
theorem State.done_suspends (hk : s.hears k) (hs : s.WellSized) (hm : s.b.move? tag = some m)
    (hg : Blocks.heardDone k tag vehicle (.fault true) s.env s.b.quiet =
      ((s.b.quiet.greet s.env k).modMove tag (Move.heldUnder vehicle)).dropDelivery s.env tag) :
    Answers (.done k tag vehicle (.fault true)) s fun t =>
      t.b.move? tag = some (m.heldUnder vehicle) ∧ t.b.out.station = [] ∧
        t.b.zc.inbound = s.b.zc.inbound ∧ SameBooks s.b t.b ∧
        (s.b.si.waitQueue = [] → t.b.zc = s.b.zc ∧ ∀ x ∈ t.b.stationList, x.reservation ≠ some tag) ∧
        ((∀ x ∈ s.b.stationList, x.reservation ≠ some tag) → t.b.zc = s.b.zc ∧ t.b.si = s.b.si) := by
  let g := Blocks.heardDone k tag vehicle (.fault true)
  have work := hk.greeted.work
  let b := s.b.quiet.greet s.env k
  let c := b.modMove tag (Move.heldUnder vehicle)
  let d := c.dropDelivery s.env tag
  have hg : g s.env s.b.quiet = d := hg
  have found : b.move? tag = some m := (work.move? tag).trans hm
  have rest : c.agenda = Agenda.none := work.agenda.trans hs.2.1
  have dropped : Delivers c d := Delivers.refl.dropDelivery
  have agenda : d.agenda = { Agenda.none with park := d.agenda.park } := by rw [dropped.agenda, rest]
  have calm := State.run_calm (f := g) hs.2 (by rw [hg, agenda]; rfl)
  have settled : (s.run g).b = d.settle s.env s.b := by rw [State.run_rested hs.2, hg]
  obtain ⟨mm, -, du⟩ := Blocks.settle_of_park s.env d s.b (by rw [agenda]; rfl) (by rw [agenda]; rfl)
    (by rw [agenda]; rfl)
  rw [← settled] at mm du
  rw [hg] at calm
  have ended (hd : d.agenda = Agenda.none) : (s.run g).b.zc = d.zc ∧ (s.run g).b.si = d.si := by
    obtain ⟨zc, si, -⟩ := State.run_frame (f := g) hs.2 (by rw [hg]; exact hd)
    rw [hg] at zc si
    exact ⟨zc, si⟩
  refine ⟨_, State.done_ran hk _, ?_, ?_, ?_, ?_, fun hw => ?_, fun hr => ?_⟩
  · rw [Blocks.move?_congr (mm.trans dropped.mm), b.move?_modMove tag (Move.heldUnder vehicle) fun _ => rfl,
      found]
    rfl
  · rw [calm.station, dropped.station, show c.out = s.b.quiet.out from work.out]
    rfl
  · rw [calm.inbound, dropped.inbound, show c.zc = s.b.zc from work.zc]
  · refine Blocks.sameBooks_of_starve (x := (s.run g).b.du.starve) (du.trans ?_)
    rw [dropped.du, show c.du = s.b.du from work.du]
  · obtain ⟨zc, same, unreserved⟩ := Blocks.dropDelivery_of_empty (e := s.env) (b := c)
      ((congrArg SI.waitQueue work.si).trans hw) tag
    obtain ⟨zc', si'⟩ := ended (same.trans rest)
    refine ⟨zc'.trans (zc.trans work.zc), fun x hx => unreserved x ?_⟩
    unfold Blocks.stationList at hx
    rwa [si'] at hx
  · have same : d = c := Blocks.dropDelivery_of_unreserved fun x hx => hr x (by
      have list : c.stationList = s.b.stationList := work.stationList
      rwa [list] at hx)
    obtain ⟨zc', si'⟩ := ended (same ▸ rest)
    rw [same] at zc' si'
    exact ⟨zc'.trans work.zc, si'.trans work.si⟩

/-- A DONE that is taken for the record of its tag (R57). -/
theorem Blocks.heardDone_of_taken (hk : s.hears k) (hm : s.b.move? tag = some m)
    (hown : tag.home = s.cl.cfg.bay.val) (hc : m.consignee = some k.val) (hp : m.poisoned = false)
    (hst : m.state = .consigned ∨ m.state = .suspended) (o : DoneOutcome) :
    Blocks.heardDone k tag vehicle o s.env s.b.quiet =
      match o with
      | .deliveredPort _ => (s.b.quiet.greet s.env k).freeMove s.env tag .delivered
      | .deliveredShelf _ => (s.b.quiet.greet s.env k).freeMove s.env tag .deliveredToShelf
      | .fault true =>
        ((s.b.quiet.greet s.env k).modMove tag (Move.heldUnder vehicle)).dropDelivery s.env tag
      | .fault false => (s.b.quiet.greet s.env k).strand s.env tag
      | .missing => (s.b.quiet.greet s.env k).strand s.env tag := by
  have found : (s.b.quiet.greet s.env k).move? tag = some m := (hk.greeted.work.move? tag).trans hm
  unfold Blocks.heardDone Blocks.takeDone
  rw [Blocks.doneMove_of_taken (e := s.env) found hown hc hp hst]
  rfl

end

end Sys2Proof.Machine
end

section
/-! PROOFS. An unload that completes (R14, R30, R36, R37, R55): the station it fills, and what it spares. -/
namespace Sys2Proof.Machine

/-! ### The vehicles and moves that a change of stations spares (R32, R36, R37, R39) -/

/-- Stations may be offered to vehicles that wait, and moves that wait be decided afresh: the other vehicles and
moves are spared, and nothing is sent on the station link or the trunk. -/
structure Spares (b c : Blocks) : Prop where
  ti : c.ti = b.ti
  station : c.out.station = b.out.station
  move : ∀ tag m, b.move? tag = some m → m.state ≠ .waiting → c.move? tag = some m
  vehicle : ∀ id v, b.vehicle? id = some v → v.state ≠ .loadedWait → c.vehicle? id = some v

namespace Spares
variable {e : Env} {b c d : Blocks}

theorem refl : Spares b b := ⟨rfl, rfl, fun _ _ h _ => h, fun _ _ h _ => h⟩

theorem modStations {f : List (Option Station) → List (Option Station)} (h : Spares b c) :
    Spares b (c.modStations f) := { h with }

theorem modStation {n : Nat} {f : Station → Station} (h : Spares b c) : Spares b (c.modStation n f) :=
  { h with }
theorem wantFollow (h : Spares b c) : Spares b c.wantFollow := { h with }
theorem bump {k : Counter} (h : Spares b c) : Spares b (c.bump k) := { h with }
theorem clearActive {tag : Tag} (h : Spares b c) : Spares b (c.clearActive tag) := { h with }

theorem reevaluateOwn (h : Spares b c) : Spares b (c.reevaluateOwn e) := by
  obtain ⟨zc, -⟩ := c.reevaluate_frame e fun m => e.inWindow m.dest
  have frame : (c.reevaluateOwn e).ti = c.ti ∧ (c.reevaluateOwn e).out = c.out := by
    unfold Blocks.reevaluateOwn Blocks.reevaluate
    dsimp only
    split <;> exact ⟨rfl, rfl⟩
  exact ⟨frame.1.trans h.ti, (congrArg Out.station frame.2).trans h.station,
    fun tag m hm hs => (Blocks.mem_reevaluate (h.move tag m hm hs) hs).1,
    fun id v hv hs => (Blocks.vehicle?_congr zc id).trans (h.vehicle id v hv hs)⟩

/-- A station is given to a vehicle in LOADED-WAIT (R36). -/
theorem giveStation {id n : Nat} {j : Job} (h : Spares b c)
    (hw : ∃ w, c.vehicle? id = some w ∧ w.state = .loadedWait) : Spares b (c.giveStation e id n j) := by
  have given : Delivers c (c.giveStation e id n j) := Delivers.refl.giveStation
  refine ⟨given.ti.trans h.ti, given.station.trans h.station,
    fun tag m hm hs => (given.move? tag).trans (h.move tag m hm hs), fun x v hv hs => ?_⟩
  have found := h.vehicle x v hv hs
  have other : x ≠ id := by
    rintro rfl
    obtain ⟨w, hw, waits⟩ := hw
    cases found.symm.trans hw
    exact hs waits
  unfold Blocks.giveStation Blocks.aimAt
  refine (Blocks.vehicle?_modVehicle_of_ne _ _ (fun _ => by exact rfl) other).trans ?_
  refine (Blocks.vehicle?_modVehicle_of_ne _ _ (fun _ => by exact rfl) other).trans ?_
  refine (Blocks.vehicle?_sendGoto_of_ne _ _ _ other).trans ?_
  exact (Blocks.vehicle?_congr ((c.leaveQueue id).setReservation_zc n j.tag) x).trans found

/-- Who waits longest stands in LOADED-WAIT (R36). -/
theorem waits {p : Job → Bool} {id : Nat} {j : Job} (hw : c.oldestWaiter p = some (id, j)) :
    ∃ w, c.vehicle? id = some w ∧ w.state = .loadedWait := by
  obtain ⟨x, -, hx⟩ := List.exists_of_findSome?_eq_some hw
  split at hx
  · cases hx
  next w found =>
    split at hx
    next waiting =>
      obtain ⟨k, -, hk⟩ := Option.map_eq_some_iff.1 hx
      cases hk
      exact ⟨w, found, waiting.1⟩
    · cases hx

theorem offerShelf {n : Nat} (h : Spares b c) : Spares b (c.offerShelf e n) := by
  unfold Blocks.offerShelf
  split
  · exact h
  · split
    · split
      next waiter => exact h.giveStation (waits waiter)
      next => exact h
    · exact h

theorem offerPort {n : Nat} (h : Spares b c) : Spares b (c.offerPort e n) := by
  unfold Blocks.offerPort
  split
  · exact h
  · split
    · split
      next waiter => exact h.giveStation (waits waiter)
      next =>
        split
        · exact h.modStation.wantFollow
        · exact h.wantFollow
    · exact h

theorem dropDelivery {tag : Tag} (h : Spares b c) : Spares b (c.dropDelivery e tag) := by
  unfold Blocks.dropDelivery
  generalize c.reservedFor tag = l
  induction l generalizing c with
  | nil => exact h
  | cons n l ih => exact ih h.modStation.offerShelf

theorem unloadDone {n : Nat} {off : Bool} {carrier : Option CarrierId} {dest : Option Nat} {cls : MoveClass}
    {x : Station} (h : Spares b c) (hx : c.station? n = some x) (hp : x.disablePending = false) :
    Spares b (c.unloadDone e n off carrier dest cls) := by
  unfold Blocks.unloadDone
  rw [hx]
  dsimp only
  cases x.kind with
  | port =>
    dsimp only
    split
    · exact h.modStation
    · have filled := (h.modStation (n := n)
        (f := fun s => { s with state := .occupied, carrierId := carrier, reservation := none })).modStations
        (f := updWhere (fun s => s.finalDest == some n) fun s => { s with followOnDue := false })
      unfold Blocks.portBack
      split
      · exact filled.reevaluateOwn
      · exact filled
  | shelf =>
    dsimp only
    rw [if_neg (by rw [hp]; nofun)]
    have raise {d : Blocks} (hd : Spares b d) (final : Option Nat) :
        Spares b (match final with
          | some port => d.raiseFollowOn e port
          | none => d) := by
      cases final with
      | none => exact hd
      | some port =>
        dsimp only
        unfold Blocks.raiseFollowOn
        split
        · exact hd
        · exact hd.offerPort
    refine raise ?_ _
    split
    · exact h.modStation.reevaluateOwn
    · exact h.modStation

end Spares

/-! ### The station at which the carrier is set down (R30, R37) -/

/-- What a station holds for a carrier that has been set down: all but its links to moves. -/
def Station.laid (s s' : Station) : Prop :=
  s' = { s with active := s'.active, reservation := s'.reservation, followOnDue := s'.followOnDue }

section
variable {e : Env} {b : Blocks} {n : Nat} {x : Station} {off : Bool} {carrier : Option CarrierId}
variable {dest : Option Nat} {cls : MoveClass}

theorem Blocks.offerPort_laid {k : Nat} (hx : b.station? n = some x) :
    ∃ y, (b.offerPort e k).station? n = some y ∧ x.laid y := by
  have same : ∃ y, b.station? n = some y ∧ x.laid y := ⟨x, hx, rfl⟩
  unfold offerPort
  split
  · exact same
  · split
    · split
      next id j _ =>
        obtain ⟨y, hy, stands⟩ := (Stands.refl.delivers
          (Delivers.refl.giveStation (e := e) (id := id) (n := k) (j := j))).station?_some hx
        exact ⟨y, hy, stands.2⟩
      · split
        next sh _ =>
          have due := b.station?_updWhere (fun s => s.number == sh.number)
            (fun s => { s with followOnDue := true }) (fun _ => rfl) n
          rw [hx] at due
          refine ⟨_, due, ?_⟩
          dsimp only
          split <;> rfl
        · exact same
    · exact same

/-- The port at which an unload completes is OCCUPIED by its carrier, and reserved no longer (R30). -/
theorem Blocks.unloadDone_port (hx : b.station? n = some x) (hk : x.kind = .port)
    (hoff : x.state ≠ .offline ∨ off = false) :
    ∃ y, (b.unloadDone e n off carrier dest cls).station? n = some y ∧
      (b.unloadDone e n off carrier dest cls).Shut n ∧ y.state = .occupied ∧ y.carrierId = carrier := by
  let f : Station → Station := fun s => { s with state := .occupied, carrierId := carrier, reservation := none }
  let c := (b.modStation n f).clearDue n
  have shut : c.Shut n := (b.shut_modStation n (f := f) fun _ => ⟨rfl, rfl, rfl⟩).modStations
    fun _ => ⟨rfl, rfl, id⟩
  obtain ⟨y, hy, -, laid⟩ := (Stands.refl.clearDue (n := n)).station?_some
    (b.station?_modified hx f fun _ => rfl)
  have done : b.unloadDone e n off carrier dest cls = c.portBack e x := by
    unfold unloadDone
    rw [hx]
    dsimp only
    rw [hk]
    dsimp only
    exact if_neg fun h => hoff.elim (fun hs => hs h.1) fun ho => Bool.false_ne_true (ho.symm.trans h.2)
  refine ⟨y, ?_, ?_, by rw [laid], by rw [laid]⟩
  · rw [done]
    unfold portBack
    split
    · exact (station?_reevaluateOwn e c n).trans hy
    · exact hy
  · rw [done]
    unfold portBack
    split
    · exact shut.reevaluateOwn
    · exact shut

/-- An unload at a port makes no follow-on due (R37). -/
theorem Blocks.not_due_unloadDone (hx : b.station? n = some x) (hk : x.kind = .port)
    (hb : ∀ s ∈ b.stationList, s.followOnDue = false) :
    ∀ s ∈ (b.unloadDone e n off carrier dest cls).stationList, s.followOnDue = false := by
  have changed {f : Station → Station} (hf : ∀ s, (f s).followOnDue = s.followOnDue) :
      ∀ s ∈ (b.modStation n f).stationList, s.followOnDue = false := by
    unfold modStation
    rw [stationList_modStations]
    intro s hs
    obtain ⟨y, hy, rfl⟩ := List.mem_map.1 hs
    split
    · exact (hf y).trans (hb y hy)
    · exact hb y hy
  have kept {c d : Blocks} (h : Stands c d) (hc : ∀ s ∈ c.stationList, s.followOnDue = false) :
      ∀ s ∈ d.stationList, s.followOnDue = false := by
    intro s hs
    obtain ⟨y, hy, stands⟩ := Calm.exists_of_mem_right h hs
    exact stands.1 (hc y hy)
  unfold unloadDone
  rw [hx]
  dsimp only
  rw [hk]
  dsimp only
  split
  · exact changed fun _ => rfl
  · have filled := changed
      (f := fun s => { s with state := .occupied, carrierId := carrier, reservation := none })
      fun _ => rfl
    unfold portBack
    split
    · exact kept Stands.refl.clearDue.reevaluateOwn filled
    · exact kept Stands.refl.clearDue filled

/-- The shelf at which an unload completes is HOLDING the carrier for its final destination (R30, R37). -/
theorem Blocks.unloadDone_shelf (hx : b.station? n = some x) (hk : x.kind = .shelf)
    (hp : x.disablePending = false) :
    ∃ y, (b.unloadDone e n off carrier dest cls).station? n = some y ∧ y.state = .holding ∧
      y.carrierId = carrier ∧ y.finalDest = dest.filter (fun d => d != n) ∧ y.heldClass = some cls ∧
      y.holdingSince = some e.now := by
  let f : Station → Station := fun s =>
    { s with
      state := .holding
      reservation := none
      carrierId := carrier
      finalDest := dest.filter fun d => d != n
      heldClass := some cls
      holdingSince := some e.now
      hoistFailures := 0 }
  have found : (b.modStation n f).station? n = some (f x) := b.station?_modified hx f fun _ => rfl
  have raised {c : Blocks} (hc : c.station? n = some (f x)) (final : Option Nat) :
      ∃ y, (match final with
        | some port => c.raiseFollowOn e port
        | none => c).station? n = some y ∧ (f x).laid y := by
    cases final with
    | none => exact ⟨_, hc, rfl⟩
    | some port =>
      dsimp only
      unfold raiseFollowOn
      split
      · exact ⟨_, hc, rfl⟩
      · exact offerPort_laid hc
  have laid : ∃ y, (b.unloadDone e n off carrier dest cls).station? n = some y ∧ (f x).laid y := by
    unfold unloadDone
    rw [hx]
    dsimp only
    rw [hk]
    dsimp only
    rw [if_neg (by rw [hp]; nofun)]
    refine raised ?_ _
    split
    · exact (station?_reevaluateOwn e _ n).trans found
    · exact found
  obtain ⟨y, hy, laid⟩ := laid
  refine ⟨y, hy, ?_⟩
  rw [laid]
  exact ⟨rfl, rfl, rfl, rfl, rfl⟩

end

/-! ### The vehicle whose unload is complete (R14, R56) -/

section
variable {e : Env} {b : Blocks} {tag : Tag} {v : Vehicle}

/-- The vehicle stands IDLE with its binding gone and its job as it was. -/
def Blocks.Rests (b : Blocks) (id : Nat) (job : Option Job) : Prop :=
  ∃ w, b.vehicle? id = some w ∧ w.state = .idle ∧ w.bound = none ∧ w.job = job

theorem Blocks.rests_makeIdle (hv : b.vehicle? v.id = some v) :
    ((b.unbind v.id).makeIdle e v.id).Rests v.id v.job := by
  have found := Blocks.vehicle?_makeIdle (e := e) (b := b.unbind v.id) v.id
  rw [b.vehicle?_unbind v.id, hv] at found
  exact ⟨_, found, rfl, rfl, rfl⟩

/-- Releasing an UNLOADING vehicle without its carrier leaves it IDLE (R56). -/
theorem Blocks.rests_releaseVehicle (hv : b.vehicle? v.id = some v) (hb : v.bound = some tag)
    (hr : v.relearn = false) (hc : v.carrier = false) (hs : v.state = .unloading) :
    (b.releaseVehicle e tag v.id).Rests v.id v.job := by
  unfold releaseVehicle
  rw [hv]
  dsimp only
  rw [if_neg (not_not.2 hb), if_neg (by rw [hr]; nofun), if_neg (by rw [hc]; nofun), hs]
  have rests := Blocks.rests_makeIdle (e := e) hv
  exact rests

/-- Freeing its move leaves such a vehicle IDLE (R56). -/
theorem Blocks.rests_freeMove {m : Move} {o : MoveOutcome} (hm : b.move? tag = some m)
    (hname : m.vehicle = some v.id) (hv : b.vehicle? v.id = some v) (hb : v.bound = some tag)
    (hr : v.relearn = false) (hc : v.carrier = false) (hs : v.state = .unloading) :
    (b.freeMove e tag o).Rests v.id v.job := by
  obtain ⟨-, -, -, zc, -⟩ := Blocks.freeMove_spec (e := e) hm o
  let c := (b.clearActive tag).dropDelivery e tag
  have spared : c.vehicle? v.id = some v :=
    (Spares.refl.clearActive.dropDelivery (e := e)).vehicle v.id v hv (by rw [hs]; nofun)
  obtain ⟨w, found, rests⟩ := Blocks.rests_releaseVehicle (e := e) spared hb hr hc hs
  refine ⟨w, ?_, rests⟩
  rw [Blocks.vehicle?_congr zc]
  unfold unname
  rw [hname]
  exact (Blocks.vehicle?_congr (Blocks.endCall_frame e _ tag).1 v.id).trans found

/-- A vehicle that rests is, after the passes, IDLE and unbound still, or sent to a source (R78, R80). -/
theorem Blocks.Rests.settle {id : Nat} {job : Option Job} {before : Blocks} (h : b.Rests id job) :
    ∃ y, (b.settle e before).vehicle? id = some y ∧
      ((y.state = .idle ∧ y.bound = none) ∨ y.state = .toSource) := by
  obtain ⟨w, found, idle, unbound, -⟩ := h
  have asked : (b.followPhase e).vehicle? id = some w :=
    (Blocks.vehicle?_congr Asked.refl.followPhase.zc id).trans found
  obtain ⟨y, hy, passed⟩ := (Calm.after_follow e b before).vehicle?_some asked
  refine ⟨y, hy, ?_⟩
  rcases passed with rfl | ⟨-, y_eq⟩ | ⟨-, -, y_eq⟩
  · exact .inl ⟨idle, unbound⟩
  · rw [y_eq]
    exact .inl ⟨idle, unbound⟩
  · rw [y_eq]
    exact .inr rfl

end

/-- What a command has sent on the station link stays so, and so do its trunk records but for HOLDs. -/
theorem Blocks.settle_sent (e : Env) (b before : Blocks) :
    (b.settle e before).out.station = b.out.station ∧
      ∀ r ∈ b.ti.queue, r.isHold = false → r ∈ (b.settle e before).ti.queue := by
  have asked : Asked b (b.followPhase e) := Asked.refl.followPhase
  have calm := Calm.after_follow e b before
  refine ⟨calm.station.trans (congrArg Out.station asked.out), fun r hr hh => calm.queue r ?_ hh⟩
  rw [asked.ti]
  exact hr

end Sys2Proof.Machine
end

section
/-! PROOFS. The REPORT that ends an unload (R14, R30, R55, R126), and what DONE and it do to moves: O40. -/
namespace Sys2Proof.Machine

/-! ### The completion, by the home bay of the move (R55, R126) -/

/-- The station takes the carrier of vehicle `v` (R14, R30). -/
def Blocks.setDown (e : Env) (v : Vehicle) (n : Nat) (read : Option CarrierId) (b : Blocks) : Blocks :=
  (b.modVehicle v.id fun x => { x with jobDone := true }).unloadDone e n v.portOff read (v.job.bind Job.dest)
    (b.carriedClass e v)

/-- A delivery turned aside to a shelf is counted (R30). -/
def Blocks.countAside (v : Vehicle) (n : Nat) (b c : Blocks) : Blocks :=
  if b.turnedAside v n ∧ (b.station? n).any fun s => s.kind == .shelf then c.bump .toShelf else c

/-- The outcome of a delivery that ends in the bay (R55). -/
def Blocks.unloadOutcome (m : Move) (v : Vehicle) (n : Nat) (b : Blocks) : MoveOutcome :=
  if m.dest = m.source then .returned else if b.turnedAside v n then .deliveredToShelf else .delivered

section
variable {e : Env} {b c : Blocks} {v : Vehicle} {n dest : Nat} {tag : Tag} {m : Move} {x : Station}
variable {read : Option CarrierId}

theorem Spares.countAside (h : Spares b c) (d : Blocks) : Spares b (d.countAside v n c) := by
  unfold Blocks.countAside
  split
  · exact h.bump
  · exact h

theorem Blocks.countAside_stationList (v : Vehicle) (n : Nat) (b c : Blocks) :
    (b.countAside v n c).stationList = c.stationList := by
  unfold countAside
  split <;> rfl

/-- The job's destination is the station, and no waiting vehicle was given a shelf: the delivery went through. -/
theorem Blocks.turnedAside_eq (hx : b.station? n = some x) (hj : v.job.bind Job.dest = some dest) :
    b.turnedAside v n = !decide (n = dest ∧ (x.kind = .port ∨ v.given = false)) := by
  unfold turnedAside
  rw [hj, hx, Option.any_some]
  by_cases here : n = dest
  · subst here
    cases x.kind <;> cases v.given <;> simp
  · have away : dest ≠ n := fun h => here h.symm
    simp [here, away]

/-- The outcome by the move's destination, and by where the unload ended (R55). -/
theorem Blocks.unloadOutcome_eq (hx : b.station? n = some x) (hj : v.job.bind Job.dest = some dest)
    (hd : m.dest = dest) : b.unloadOutcome m v n =
      if dest = m.source then .returned
      else if n = dest ∧ (x.kind = .port ∨ v.given = false) then .delivered else .deliveredToShelf := by
  unfold unloadOutcome
  rw [turnedAside_eq hx hj, hd]
  by_cases through : n = dest ∧ (x.kind = .port ∨ v.given = false)
  · rw [decide_eq_true through, if_pos through]
    rfl
  · rw [decide_eq_false through, if_neg through]
    rfl

/-- An unload of a CARRYING move of this bay that ends here frees the move (R55). -/
theorem Blocks.unloadComplete_own (hm : (v.bound.filter e.ownTag).bind b.move? = some m)
    (hs : m.state = .carrying) (hd : e.inWindow m.dest = true ∨ m.dest = m.source) :
    b.unloadComplete e v n read =
      (b.countAside v n (b.setDown e v n read)).freeMove e m.tag (b.unloadOutcome m v n) := by
  unfold unloadComplete
  rw [hm]
  dsimp only
  rw [if_neg (not_not.2 hs), if_neg fun h => hd.elim (fun hw => by simp [hw] at h) h.1]
  rfl

/-- An unload of a carrier of another bay is reported to it (R126). -/
theorem Blocks.unloadComplete_foreign (hb : v.bound = some tag) (hf : e.ownTag tag = false) :
    b.unloadComplete e v n read =
      (((b.countAside v n (b.setDown e v n read)).sendDone e tag v.id
        (if b.turnedAside v n then .deliveredShelf (some n) else .deliveredPort (some n))).unbind v.id).makeIdle
          e v.id := by
  unfold unloadComplete
  rw [hb, Option.filter_some, if_neg (by rw [hf]; nofun)]
  rfl

theorem Blocks.spares_setDown (hx : b.station? n = some x) (hp : x.disablePending = false) :
    Spares (b.modVehicle v.id fun x => { x with jobDone := true }) (b.setDown e v n read) :=
  Spares.refl.unloadDone hx hp

/-- The vehicle whose carrier the station has taken, before it is released (R14). -/
theorem Blocks.vehicle?_setDown (hx : b.station? n = some x) (hp : x.disablePending = false)
    (hv : b.vehicle? v.id = some v) (hs : v.state = .unloading) :
    (b.countAside v n (b.setDown e v n read)).vehicle? v.id = some { v with jobDone := true } := by
  have done : (b.modVehicle v.id fun x => { x with jobDone := true }).vehicle? v.id =
      some { v with jobDone := true } := by
    refine (b.vehicle?_modVehicle v.id (fun x => { x with jobDone := true }) fun _ => rfl).trans ?_
    rw [hv]
    rfl
  exact ((Blocks.spares_setDown hx hp).countAside b).vehicle v.id _ done (by rw [hs]; nofun)

/-- The move freed and its vehicle IDLE: what an unload of a move of this bay leaves (R55, R56). -/
theorem Blocks.unloadComplete_frees (hx : b.station? n = some x) (hp : x.disablePending = false)
    (hv : b.vehicle? v.id = some v) (hs : v.state = .unloading) (hb : v.bound = some m.tag)
    (hown : e.ownTag m.tag = true) (hr : v.relearn = false) (hc : v.carrier = false)
    (hm : b.move? m.tag = some m) (hm' : m.state = .carrying) (hname : m.vehicle = some v.id)
    (hd : e.inWindow m.dest = true ∨ m.dest = m.source) :
    let c := b.unloadComplete e v n read
    c.out.station = b.out.station ++ [.moveDone m.tag (b.unloadOutcome m v n)] ∧ c.Rests v.id v.job ∧
      c.move? m.tag = none ∧ Stands (b.setDown e v n read) c ∧
      ((b.setDown e v n read).Shut n → c.Shut n) ∧
      ((∀ s ∈ (b.setDown e v n read).stationList, s.followOnDue = false) →
        ∀ s ∈ c.stationList, s.followOnDue = false) := by
  let d := b.countAside v n (b.setDown e v n read)
  have spares := (Blocks.spares_setDown (e := e) (v := v) (read := read) hx hp).countAside (v := v) (n := n) b
  have freed : b.unloadComplete e v n read = d.freeMove e m.tag (b.unloadOutcome m v n) :=
    Blocks.unloadComplete_own (by rw [hb, Option.filter_some, if_pos hown]; exact hm) hm' hd
  have found : d.move? m.tag = some m := spares.move m.tag m hm (by rw [hm']; nofun)
  have list : d.stationList = (b.setDown e v n read).stationList := Blocks.countAside_stationList ..
  obtain ⟨station, gone, -, -, due, -⟩ := Blocks.freeMove_spec (e := e) found (b.unloadOutcome m v n)
  dsimp only
  rw [freed]
  refine ⟨?_, ?_, gone, (Stands.of_eq list).freeMove, fun shut => (shut.of_eq list).freeMove, fun none_due =>
    due ?_⟩
  · rw [station, spares.station]
    rfl
  · exact Blocks.rests_freeMove (v := { v with jobDone := true }) found hname
      (Blocks.vehicle?_setDown hx hp hv hs) hb hr hc hs
  · rw [list]
    exact none_due

/-- The DONE for a carrier of another bay, and its vehicle IDLE (R126). -/
theorem Blocks.unloadComplete_reports (hx : b.station? n = some x) (hp : x.disablePending = false)
    (hv : b.vehicle? v.id = some v) (hs : v.state = .unloading) (hb : v.bound = some tag)
    (hf : e.ownTag tag = false) (hh : tag.home ≤ 31) (ha : e.node.active = true)
    (hroom : b.ti.count < Config.queueSize) :
    let c := b.unloadComplete e v n read
    ⟨some tag.home, .done tag v.id
        (if b.turnedAside v n then .deliveredShelf (some n) else .deliveredPort (some n))⟩ ∈ c.ti.queue ∧
      c.Rests v.id v.job := by
  let d := b.countAside v n (b.setDown e v n read)
  have spares := (Blocks.spares_setDown (e := e) (v := v) (read := read) hx hp).countAside (v := v) (n := n) b
  have room : d.ti.count < Config.queueSize := by
    rw [show d.ti = b.ti from spares.ti]
    exact hroom
  dsimp only
  rw [Blocks.unloadComplete_foreign hb hf]
  unfold sendDone
  rw [if_neg (Nat.not_lt.2 hh)]
  refine ⟨Blocks.mem_place _ _ ha room, ?_⟩
  refine Blocks.rests_makeIdle (v := { v with jobDone := true }) ?_
  exact (Blocks.vehicle?_congr (Blocks.place_zc ..) v.id).trans (Blocks.vehicle?_setDown hx hp hv hs)

end

/-! ### The REPORT (R7, R14) -/

/-- The record of the vehicle's move takes the hoist state that was reported (R49). -/
def Blocks.takeHoist (e : Env) (v : Vehicle) (b : Blocks) : Blocks :=
  match v.bound.filter e.ownTag with
  | some t => b.modMove t fun x => { x with lastHoist := v.hoist }
  | none => b

section
variable {e : Env} {b d : Blocks} {r : Report} {v y : Vehicle} {n seg : Nat} {tag : Option Tag} {dest : Nat}
variable {read : Option CarrierId}

theorem Blocks.takeHoist_frame (e : Env) (v : Vehicle) (b : Blocks) :
    (b.takeHoist e v).zc = b.zc ∧ (b.takeHoist e v).si = b.si ∧ (b.takeHoist e v).ti = b.ti ∧
      (b.takeHoist e v).out = b.out := by
  unfold takeHoist
  split <;> exact ⟨rfl, rfl, rfl, rfl⟩

/-- The record of a move of this bay, whose class the carrier has (R30, R49). -/
theorem Blocks.takeHoist_own {m : Move} (hb : y.bound = some m.tag) (hown : e.ownTag m.tag = true)
    (hm : d.move? m.tag = some m) :
    (d.takeHoist e y).move? m.tag = some { m with lastHoist := y.hoist } ∧
      (d.takeHoist e y).carriedClass e y = m.cls := by
  have filtered : y.bound.filter e.ownTag = some m.tag := by rw [hb, Option.filter_some, if_pos hown]
  have record : (d.takeHoist e y).move? m.tag = some { m with lastHoist := y.hoist } := by
    unfold takeHoist
    rw [filtered]
    refine (d.move?_modMove m.tag (fun x => { x with lastHoist := y.hoist }) fun _ => rfl).trans ?_
    rw [hm]
    rfl
  have found : (y.bound.filter e.ownTag).bind (d.takeHoist e y).move? = some { m with lastHoist := y.hoist } := by
    rw [filtered]
    exact record
  refine ⟨record, ?_⟩
  unfold carriedClass
  rw [found]

/-- An UNLOADING vehicle that has let its carrier go completes the unload (R14). -/
theorem Blocks.unloadStep_completes (hy : d.vehicle? r.vehicle = some y) (hs : y.state = .unloading)
    (hj : y.job = some (unloadJob n tag dest)) (hh : y.hoist = .done) (hc : y.carrier = false) :
    d.unloadStep e r read = (d.takeHoist e y).unloadComplete e y n read := by
  have aim : y.aim .unload = some n := by
    unfold Vehicle.aim
    rw [hj]
    rfl
  unfold unloadStep
  rw [hy]
  dsimp only
  rw [aim]
  dsimp only
  rw [if_neg (by rw [hs]; exact fun h => nomatch h.1), if_pos hs]
  unfold unloadHoist
  dsimp only
  rw [if_pos ⟨hh, by rw [hc]; rfl⟩]
  rfl

/-- A vehicle that rests with its hoist still and no PARK job is not parked (R19). -/
theorem Blocks.parkStep_of_rests (h : b.Rests r.vehicle (some (unloadJob n tag dest))) :
    b.parkStep e r = b := by
  obtain ⟨w, hw, idle, -, job⟩ := h
  have no_park : w.parkTarget = none := by
    unfold Vehicle.parkTarget
    rw [job]
    rfl
  unfold parkStep
  rw [hw]
  dsimp only
  rw [if_neg (by rw [no_park]; exact fun h => nomatch h.2.1), if_neg (by rw [idle]; exact fun h => nomatch h.1)]

/-- The completion is all that the transitions make of such a REPORT (R12 to R19). -/
theorem Blocks.transitions_of_unloading (hy : d.vehicle? r.vehicle = some y) (hs : y.state = .unloading)
    (hj : y.job = some (unloadJob n tag dest)) (hh : y.hoist = .done) (hc : y.carrier = false)
    (hp : r.place = .segment seg) (hr : r.hoist = .done) (hl : r.level = .none)
    (rests : ((d.takeHoist e y).unloadComplete e y n read).Rests r.vehicle y.job) :
    d.transitions e r read = (d.takeHoist e y).unloadComplete e y n read := by
  obtain ⟨w, hw, -⟩ := id rests
  unfold transitions
  dsimp only
  rw [travelStep_of_inside hy hp (by rw [hs]; nofun),
    loadStep_of_other hy (by rw [hs]; nofun) (by rw [hs]; nofun), unloadStep_completes hy hs hj hh hc,
    strayStep_of_still hw (Vehicle.strays_of_idle (by rw [hr]; rfl)), majorStep_of_level (by rw [hl]; nofun), hy,
    if_neg (by simp [hs]), parkStep_of_rests (hj ▸ rests)]

end

/-- What the REPORT of a completed unload runs, from the blocks `d` in which its fields stand (R7, R14). -/
theorem State.report_unloads {s : State} {r : Report} {v : Vehicle} {n dest : Nat} {tag : Tag}
    (hact : s.cl.node.active = true) (hv : s.b.vehicle? r.vehicle = some v)
    (hst : v.state = .unloading) (hrel : v.relearn = false) (hj : v.job = some (unloadJob n (some tag) dest))
    (hh : r.hoist = .done) (hc : r.carrier = false) (hl : r.level = .none) (hp : r.place = .segment v.segment)
    (hn : v.segment ≤ s.cl.cfg.loopLen + 1) (hw : s.b.fu.watch.bind Watch.vehicle ≠ some v.id) :
    ∃ (d : Blocks) (y : Vehicle), d.vehicle? r.vehicle = some y ∧
      (y.id = v.id ∧ y.state = .unloading ∧ y.relearn = false ∧ y.bound = v.bound ∧ y.job = v.job ∧
        y.carrier = false ∧ y.given = v.given ∧ y.portOff = v.portOff) ∧
      d.si = s.b.si ∧ d.mm = s.b.mm ∧ d.ti = s.b.ti ∧ d.out.station = [] ∧
      let c := (d.takeHoist s.env y).unloadComplete s.env y n (r.carrierId <|> v.carrierId)
      (c.Rests r.vehicle y.job → ∃ f : Env → Blocks → Blocks, exec (.report r []) s = .next (s.run f) ∧
        f s.env s.b.quiet = c) := by
  let g : Env → Blocks → Blocks := fun e b => if e.node.running then b.report e r else b
  have ran : exec (.report r []) s = .next (s.run g) :=
    congrArg Host.Outcome.next (State.runFailing_nil _ g s)
  have hrun : s.env.node.running = true := by
    show s.cl.node.running = true
    revert hact
    cases s.cl.node <;> simp [NodeState.active, NodeState.running]
  have hid : v.id = r.vehicle := (Blocks.vehicle?_mem _ hv).2
  let d := s.b.quiet.heardFields s.env v r
  have told : Told (Vehicle.reported s.env r) s.b.quiet d := Blocks.told_heardFields hid
  have taken : s.b.quiet.takeReport s.env v r = d := by
    rw [Blocks.takeReport_eq hrel, hl]
    show d.watchVehicle v.id = d
    unfold Blocks.watchVehicle
    rw [told.fu]
    exact if_neg hw
  obtain ⟨y, hy, -, y_eq⟩ := Blocks.takeReport_entry (e := s.env) (b := s.b.quiet) hv hrel hp
  rw [taken] at hy
  have job : y.job = v.job := by rw [y_eq]
  have state : y.state = .unloading := by rw [y_eq]; exact hst
  have carrier : y.carrier = false := by rw [y_eq]; exact hc
  refine ⟨d, y, hy, ⟨by rw [y_eq], state, by rw [y_eq]; exact hrel, by rw [y_eq], job, carrier, by rw [y_eq],
    by rw [y_eq]⟩, told.si, told.mm, told.ti, told.station, fun rests => ⟨g, ran, ?_⟩⟩
  refine (if_pos hrun).trans ?_
  unfold Blocks.report placed
  rw [show s.b.quiet.vehicle? r.vehicle = some v from hv, hp]
  dsimp only
  have inside : v.segment ≤ s.env.exitSeg := hn
  rw [if_neg (by simp [inside]), if_neg (by rw [hst]; exact fun h => nomatch h.1), taken]
  exact Blocks.transitions_of_unloading hy state (job.trans hj) (by rw [y_eq]; exact hh) carrier hp hh hl rests

/-! ### The obligation -/

section
variable {s : State} {r : Report} {v : Vehicle} {tag : Tag} {n dest : Nat} {x : Station}

/-- An unload that completes a CARRYING move of this bay (R14, R30, R55, R56). -/
theorem State.report_frees {m : Move} (hact : s.cl.node.active = true) (hs : s.WellSized)
    (hv : s.b.vehicle? r.vehicle = some v) (hst : v.state = .unloading) (hrel : v.relearn = false)
    (hb : v.bound = some tag) (hx : s.b.station? n = some x) (hj : v.job = some (unloadJob n (some tag) dest))
    (hh : r.hoist = .done) (hc : r.carrier = false) (hl : r.level = .none) (hp : r.place = .segment v.segment)
    (hn : v.segment ≤ s.cl.cfg.loopLen + 1) (hw : s.b.fu.watch.bind Watch.vehicle ≠ some v.id)
    (hpend : x.disablePending = false) (hdue : ∀ y ∈ s.b.stationList, y.followOnDue = false)
    (hown : tag.home = s.cl.cfg.bay.val) (hm : s.b.move? tag = some m) (hm' : m.state = .carrying)
    (hname : m.vehicle = some v.id) (hdest : m.dest = dest)
    (hd : s.env.inWindow dest = true ∨ dest = m.source) :
    Answers (.report r []) s fun t =>
      t.b.out.station = [.moveDone tag (if dest = m.source then .returned
        else if n = dest ∧ (x.kind = .port ∨ v.given = false) then .delivered else .deliveredToShelf)] ∧
      (∃ y, t.b.vehicle? v.id = some y ∧ ((y.state = .idle ∧ y.bound = none) ∨ y.state = .toSource)) ∧
      (x.kind = .port → (x.state ≠ .offline ∨ v.portOff = false) →
        t.b.move? tag = none ∧ ∃ z, t.b.station? n = some z ∧ z.state = .occupied ∧
          z.carrierId = (r.carrierId <|> v.carrierId) ∧ z.reservation = none) ∧
      (x.kind = .shelf → n ≠ dest → ∃ z, t.b.station? n = some z ∧ z.state = .holding ∧
        z.carrierId = (r.carrierId <|> v.carrierId) ∧ z.finalDest = some dest ∧
        z.heldClass = some m.cls ∧ z.holdingSince = some s.now) := by
  obtain ⟨d, y, hy, ⟨id, state, relearn, bound, job, carrier, given, portOff⟩, si, mm, -, station,
      runs⟩ :=
    State.report_unloads (s := s) hact hv hst hrel hj hh hc hl hp hn hw
  obtain ⟨-, rfl⟩ := Blocks.move?_mem _ hm
  have hid : y.id = r.vehicle := (Blocks.vehicle?_mem _ hy).2
  let read := r.carrierId <|> v.carrierId
  let b := d.takeHoist s.env y
  let m' : Move := { m with lastHoist := y.hoist }
  obtain ⟨zc_b, si_b, -, out_b⟩ := d.takeHoist_frame s.env y
  have own : s.env.ownTag m.tag = true := by simpa [Env.ownTag] using hown
  have bound_y : y.bound = some m.tag := bound.trans hb
  have entry : b.vehicle? y.id = some y := (Blocks.vehicle?_congr zc_b _).trans (hid ▸ hy)
  have stand : b.station? n = some x := (Blocks.station?_congr (si_b.trans si) n).trans hx
  obtain ⟨record, cls⟩ := Blocks.takeHoist_own bound_y own ((Blocks.move?_congr mm m.tag).trans hm)
  obtain ⟨sent, rests, gone, stands, shut, due⟩ := Blocks.unloadComplete_frees (e := s.env) (m := m')
    (read := read) stand hpend entry state bound_y own relearn carrier record hm'
    (hname.trans (congrArg some id.symm)) (by rw [show m'.dest = dest from hdest]; exact hd)
  obtain ⟨f, ran, effect⟩ := runs (hid ▸ rests)
  let c := b.unloadComplete s.env y n read
  have effect : f s.env s.b.quiet = c := effect
  have settled : (s.run f).b = c.settle s.env s.b := by rw [State.run_rested hs.2, effect]
  have aim : y.job.bind Job.dest = some dest := by rw [job, hj]; rfl
  have outcome := Blocks.unloadOutcome_eq stand aim (m := m') hdest
  rw [given] at outcome
  refine ⟨_, ran, ?_, ?_, fun hk hoff => ?_, fun hk hne => ?_⟩
  · rw [settled, (Blocks.settle_sent s.env c s.b).1, sent, outcome, show b.out = d.out from out_b, station]
    rfl
  · rw [settled, ← id]
    exact rests.settle
  · have unmarked : x.state ≠ .offline ∨ y.portOff = false := portOff ▸ hoff
    obtain ⟨z, hz, shut_z, occupied, reads⟩ := Blocks.unloadDone_port (e := s.env) (carrier := read)
      (dest := y.job.bind Job.dest) (cls := b.carriedClass s.env y)
      (b := b.modVehicle y.id fun x => { x with jobDone := true }) stand hk unmarked
    have none_due : ∀ s ∈ c.stationList, s.followOnDue = false := by
      refine due (Blocks.not_due_unloadDone (b := b.modVehicle y.id fun x => { x with jobDone := true })
        stand hk ?_)
      intro w hw
      refine hdue w ?_
      unfold Blocks.stationList at hw ⊢
      rwa [show (b.modVehicle y.id fun x => { x with jobDone := true }).si = s.b.si from si_b.trans si] at hw
    have calm := State.run_calm_of_not_due (f := f) hs.2 (effect ▸ none_due)
    rw [effect] at calm
    obtain ⟨z', hz', stands_z⟩ := stands.station?_some hz
    obtain ⟨u, hu, stands_u, free⟩ := Stands.closed (e := s.env) (before := s.b) hz' (shut shut_z)
    refine ⟨calm.move?_none gone, u, settled ▸ hu, ?_, ?_, free⟩
    · rw [(stands_z.trans stands_u).2]
      exact occupied
    · rw [(stands_z.trans stands_u).2]
      exact reads
  · obtain ⟨z, hz, holding, reads, final, held, since⟩ := Blocks.unloadDone_shelf (e := s.env)
      (off := y.portOff) (carrier := read) (dest := y.job.bind Job.dest) (cls := b.carriedClass s.env y)
      (b := b.modVehicle y.id fun x => { x with jobDone := true }) stand hk hpend
    obtain ⟨u, hu, stands_u⟩ :=
      (stands.trans (Stands.refl.settle (e := s.env) (before := s.b))).station?_some hz
    have kept : u.finalDest = some dest := by
      rw [stands_u.2]
      refine final.trans ?_
      rw [aim, Option.filter_some, if_pos (by simpa using Ne.symm hne)]
    refine ⟨u, settled ▸ hu, ?_, ?_, kept, ?_, ?_⟩
    · rw [stands_u.2]
      exact holding
    · rw [stands_u.2]
      exact reads
    · rw [stands_u.2]
      exact held.trans (congrArg some cls)
    · rw [stands_u.2]
      exact since

/-- An unload that completes the delivery of another bay's carrier (R126). -/
theorem State.report_tells (hact : s.cl.node.active = true) (hs : s.WellSized)
    (hv : s.b.vehicle? r.vehicle = some v) (hst : v.state = .unloading) (hrel : v.relearn = false)
    (hb : v.bound = some tag) (hx : s.b.station? n = some x) (hj : v.job = some (unloadJob n (some tag) dest))
    (hh : r.hoist = .done) (hc : r.carrier = false) (hl : r.level = .none) (hp : r.place = .segment v.segment)
    (hn : v.segment ≤ s.cl.cfg.loopLen + 1) (hw : s.b.fu.watch.bind Watch.vehicle ≠ some v.id)
    (hpend : x.disablePending = false) (hf : tag.home ≠ s.cl.cfg.bay.val) (hhome : tag.home ≤ 31)
    (hroom : s.roomFor 1) :
    Answers (.report r []) s fun t =>
      t.queued ⟨some tag.home, .done tag v.id
        (if n = dest ∧ (x.kind = .port ∨ v.given = false) then .deliveredPort (some n)
          else .deliveredShelf (some n))⟩ ∧
      ∃ y, t.b.vehicle? v.id = some y ∧ ((y.state = .idle ∧ y.bound = none) ∨ y.state = .toSource) := by
  obtain ⟨d, y, hy, ⟨id, state, -, bound, job, carrier, given, -⟩, si, -, ti, -, runs⟩ :=
    State.report_unloads (s := s) hact hv hst hrel hj hh hc hl hp hn hw
  have hid : y.id = r.vehicle := (Blocks.vehicle?_mem _ hy).2
  let read := r.carrierId <|> v.carrierId
  let b := d.takeHoist s.env y
  obtain ⟨zc_b, si_b, ti_b, -⟩ := d.takeHoist_frame s.env y
  have entry : b.vehicle? y.id = some y := (Blocks.vehicle?_congr zc_b _).trans (hid ▸ hy)
  have stand : b.station? n = some x := (Blocks.station?_congr (si_b.trans si) n).trans hx
  have room : b.ti.count < Config.queueSize := by
    rw [show b.ti = s.b.ti from ti_b.trans ti]
    exact hroom
  obtain ⟨queued, rests⟩ := Blocks.unloadComplete_reports (e := s.env) (read := read) stand hpend entry state
    (bound.trans hb) (by simpa [Env.ownTag] using hf) hhome hact room
  obtain ⟨f, ran, effect⟩ := runs (hid ▸ rests)
  let c := b.unloadComplete s.env y n read
  have settled : (s.run f).b = c.settle s.env s.b := by rw [State.run_rested hs.2, effect]
  refine ⟨_, ran, ?_, ?_⟩
  · rw [State.queued, settled]
    refine (Blocks.settle_sent s.env c s.b).2 _ ?_ rfl
    rw [Blocks.turnedAside_eq stand (dest := dest) (by rw [job, hj]; rfl), given, id] at queued
    by_cases through : n = dest ∧ (x.kind = .port ∨ v.given = false)
    · rw [decide_eq_true through] at queued
      rw [if_pos through]
      exact queued
    · rw [decide_eq_false through] at queued
      rw [if_neg through]
      exact queued
  · rw [settled, ← id]
    exact rests.settle

end

/-- Settles O40. -/
theorem doneClosesMove : Obligations.DoneClosesMove := by
  refine ⟨fun s k tag vehicle hk hs => ⟨fun h o => State.done_strays hk hs h o,
    fun m hm hown hc hp hst hdue => ?_⟩, ?_⟩
  · have taken := Blocks.heardDone_of_taken (vehicle := vehicle) hk hm hown hc hp hst
    refine ⟨fun n => State.done_frees hk hs hm (.inl rfl) hdue (taken _),
      fun n => State.done_frees hk hs hm (.inr rfl) hdue (taken _),
      State.done_suspends hk hs hm (taken _), fun o ho => ?_⟩
    rcases List.mem_pair.1 ho with rfl | rfl
    · exact State.done_strands hk hs hm (taken _)
    · exact State.done_strands hk hs hm (taken _)
  · intro s r v tag n dest x hact hs hv hst hrel hb hx hj _ hh hc hl hp hn _ _ hw hpend hdue
    refine ⟨fun m hown hm hm' hname hdest hd => ?_, fun hf hhome hroom => ?_⟩
    · exact State.report_frees hact hs hv hst hrel hb hx hj hh hc hl hp hn hw hpend hdue hown hm hm' hname
        hdest hd
    · exact State.report_tells hact hs hv hst hrel hb hx hj hh hc hl hp hn hw hpend hf hhome hroom

end Sys2Proof.Machine
end
